-- ==== Sys2Proof/Word.lean ====
section
/-! DEFINITION. The word types of the PS-140: the framed byte of the Panel Link, the infrared link and the
wired bus, and the 12-bit pattern of a cue code or a cue mask (00_scope, Conventions: cue codes and masks are
the one place where single bits matter; every other quantity of the manual is a decimal number, held as `Nat`
or `Int`). -/

namespace Sys2Proof

/-- One byte of a frame or a payload (R151, R184). -/
abbrev Byte := BitVec 8

/-- A cue code or a cue mask, 000h..FFFh (R135, R136). -/
abbrev CueCode := BitVec 12

/-- One conversion of the thermistor's 12-bit converter (R87). -/
abbrev Sample := BitVec 12

end Sys2Proof
end

