-- ==== Sys2Proof/Config.lean ====
section
/-! DEFINITION. The values the manual leaves open (opaque constants: nothing in Lean can evaluate one or prove a
value of it), and the fixed durations of the manual's timing tables, in milliseconds. -/

namespace Sys2Proof.Config

/-- FREE VALUE (log 6): the two bytes that carry "no identity" of a HOST or AUTO source in a notice argument.
The table of notice arguments (10_panel_link) gives the field two bytes and states no value for none. -/
opaque noIdentity : BitVec 16

/-- FREE VALUE (log 7): the byte that carries MUTE in the output field of READ TAPE; R125 lists the field as
"0..119, or MUTE" and no layout gives MUTE a byte. -/
opaque muteByte : Byte

/-- FREE VALUE (log 8): which of the two causes THERM_HOT names when a sensor fault and a fan fault stand
together at the entry to HOT (R101 names TEMP, SENSOR or FAN and does not order the two faults): true says FAN. -/
opaque bothFaultsSayFan : Bool

/-- R52, R54: a brake lasts 40 ms. -/
def brakeMs : Nat := 40
/-- R54: the stall watchdog, 150 ms without an accepted count. -/
def watchdogMs : Nat := 150
/-- R59, R60: the lifter timeout, each way. -/
def lifterMs : Nat := 600
/-- R60: the settle after DOWN. -/
def settleMs : Nat := 80
/-- R62: the stop timer of a key run of the focus motor. -/
def focusStopMs : Nat := 250
/-- R62: the focus reversal pause. -/
def focusPauseMs : Nat := 40
/-- R76: the fade tick. -/
def fadeTickMs : Nat := 10
/-- R71: the strike confirm window. -/
def strikeWindowMs : Nat := 2000
/-- R71: from one ignition pulse to the next attempt. -/
def strikeSpacingMs : Nat := 5000
/-- R72: the warm-up. -/
def warmUpMs : Nat := 45000
/-- R73: current loss, 200 ms of NONE. -/
def currentLossMs : Nat := 200
/-- R107: a tach interval or silence above 100 ms is SLOW. -/
def tachSlowMs : Nat := 100
/-- R111: the run-down of the reels. -/
def runDownMs : Nat := 300
/-- R117: the tape-end timer and the reel timer. -/
def tapeEndMs : Nat := 1000
/-- R123: the duck ramp takes 20 fade ticks. -/
def duckTicks : Nat := 20
/-- R119: capstan pulses to one tenth. -/
def pulsesPerTenth : Nat := 5
/-- R131: the confirm timer of the holding word. -/
def confirmMs : Nat := 150
/-- R153: the IR inter-byte gap timer. -/
def irGapMs : Nat := 20
/-- R158: the pairing window. -/
def pairingMs : Nat := 30000
/-- R157: quiet seconds after which an ACTIVE handset lapses. -/
def lapseSeconds : Nat := 1800
/-- R175, R177: the wait limit of a status answer and of an origination. -/
def busWaitMs : Nat := 500
/-- R81: fade ticks in one estimator period. -/
def ticksPerPeriod : Nat := 25
/-- R81: the bound of the exposure account when no limit is in force, and of a class limit (R83). -/
def exposureMax : Nat := 4000000
/-- R87: the estimator period count saturates here. -/
def periodCountMax : Nat := 4294967295

end Sys2Proof.Config
end

