-- ==== Sys2Proof/Syntax.lean ====
section
/-! DEFINITION. The commands of the PS-140, one constructor of `Instr` per row of spec/opcode_table.json, with
the operands the row's rule gives it. A host request's operands are the raw numbers its request frame carries
(R184), so that a value outside its range can be offered and refused; an event's operands are what the outside
world shows the part at that event (a switch level, a sample, a byte). -/

namespace Sys2Proof

/-- The field set of WRITE SLOT and LOAD SLOTS: which of the nine programmable fields of R1 are named. -/
structure FieldSet where
  dwell : Bool
  fadeOut : Bool
  fadeIn : Bool
  light : Bool
  cls : Bool
  sound : Bool
  tapeMark : Bool
  hold : Bool
  loop : Bool
  deriving DecidableEq, Repr

/-- The raw values of bytes 3..16 of the slot record layout (10_panel_link, Record layouts); 255 stands for an
absent sound target, and the marks are carried as list positions. -/
structure SlotValues where
  dwell : Nat
  fadeOut : Nat
  fadeIn : Nat
  light : Nat
  cls : Nat
  sound : Nat
  tapeMark : Nat
  hold : Nat
  loop : Nat
  loopCount : Nat
  deriving DecidableEq, Repr

/-- The raw values of bytes 3..46 of the profile layout; byte 47 carries nothing. -/
structure ProfileValues where
  c : Vector Int 8
  cP : Int
  cF : Int
  q : Nat
  tset : Int
  k : Nat
  floor : Nat
  slew : Nat
  w : Int
  h : Int
  x : Int
  warmCap : Nat
  hotCap : Nat
  coolTime : Nat
  coolLimit : Int
  guardLevel : Nat
  deriving DecidableEq, Repr

/-- The raw values WRITE CUE carries: byte 0 (0 for LOWEST), byte 1 as the state wanted, and bytes 2..18 of the
cue entry layout; `a0`..`a3` are its argument bytes 6..9. -/
structure CueImage where
  entry : Nat
  want : Nat
  code : Nat
  selector : Nat
  action : Nat
  a0 : Nat
  a1 : Nat
  a2 : Nat
  a3 : Nat
  single : Nat
  tapePresent : Nat
  tapeFrom : Nat
  tapeTo : Nat
  slotPresent : Nat
  slotLo : Nat
  slotHi : Nat
  deriving DecidableEq, Repr

/-- A port of the wired bus: IN faces the head of the chain, OUT the next projector (09_wired_bus). -/
inductive Port
  | inn
  | out
  deriving DecidableEq, Repr

/-- A direction of the focus motor and its end switch (R62). -/
inductive FocusDir
  | inward
  | outward
  deriving DecidableEq, Repr

/-- The cause for which an IR frame in reception is discarded by the event IR_FRAME_ERROR (R153). -/
inductive IrFault
  | length
  | framing
  | cut
  deriving DecidableEq, Repr

/-- One command: a host request taken by its owner, a chip-select period, a reset, or an event of a mechanism,
a timer, the tape, the cue track, a handset or the wired bus. -/
inductive Instr
  -- The Tray Map
  | writeSlot (slot : Nat) (set : FieldSet) (v : SlotValues)
  | loadSlots (first last : Nat) (set : FieldSet) (v : SlotValues)
  | retireSlot (first last : Nat)
  | readSlot (slot : Nat)
  | readShow
  | setOptions (skipEmpty skipBlank wrap : Option Nat)
  -- Changing Slides
  | step (k : Int)
  | goto (n : Nat)
  | home
  | hold
  | resume
  | flush
  -- Tray Drive, Lifter and Gate
  | readDrive
  | focus (dir ticks : Nat)
  -- Lamp and Light
  | lampOn
  | lampOff
  | lampReset
  | setLight (v : Option Nat)
  | writeExposure (cls limit : Nat)
  | readLamp
  -- Thermal Estimation and Cooling
  | writeCalibration (offset : Int) (gain : Nat) (zero : Int)
  | readCalibration
  | writeProfile (p : Nat) (v : ProfileValues)
  | readProfile (p : Nat)
  | selectProfile (p : Nat)
  | readThermal
  -- Tape Transport and Program Sound
  | tapePlay
  | tapePause
  | tapeStop
  | tapeWind (dir : Nat)
  | setTapePosition (v : Nat)
  | setGain (a : Nat)
  | setDuckDepth (depth sw : Nat)
  | setMute (on : Nat)
  | readTape
  -- Cues and the Cue Map
  | setCueOptions (confirm legacy : Option Nat)
  | setMasks (global localA localB : Option Nat)
  | writeCue (v : CueImage)
  | armCue (n : Nat)
  | pauseCue (n : Nat)
  | retireCue (n : Nat)
  | readCue (n : Nat)
  | learnOn
  | learnOff
  | readLearn
  | readCueUnit
  -- Handsets and Remote Frames
  | openPairing (rights : Nat)
  | closePairing
  | readHandset (n : Nat)
  | setRights (n rights : Nat)
  | blockHandset (n : Nat)
  | unblockHandset (n : Nat)
  | retireHandset (n : Nat)
  -- Wired Bus and Link-Through
  | setAddress (address : Nat) (groups : List Nat)
  | sendFrame (dest key : Nat) (args : List Nat) (rep : Nat)
  | portAbort
  | portRestart
  | readPort
  -- Panel Link
  | setNoticeMask (mask : List Nat)
  | readNotices
  | readNotice (kind : Nat)
  | clearNotices
  | reset
  | pollPeriod (kind len : Nat)
  | requestFrame (bytes : List Byte)
  | fetch (len : Nat)
  | resetPinAssert
  | powerOnReset
  -- Tray, gate, encoder, index and lifter events
  | trayRemoval
  | trayInsertion (lugs : BitVec 2)
  | gateStateChange (occupied : Bool)
  | encoderCount
  | backOffComplete
  | noIndexBudgetExhausted
  | indexPass
  | stallWatchdogExpiry
  | brakeEnd
  | liftDone
  | dropDone
  | lifterTimeout
  | lifterSwitchChange (up down : Bool)
  | settleEnd
  -- Light, dwell and focus events
  | fadeTick
  | fadeOutEnd
  | fadeInEnd
  | dwellTenth
  | dwellExpiry
  | focusStopTimerExpiry
  | focusDurationEnd
  | focusPauseEnd
  | focusEndSwitch (dir : FocusDir) (closed : Bool)
  -- Lamp and thermal events
  | strikeAttemptTimer
  | strikeWindowEnd
  | currentSenseChange (flowing : Bool)
  | warmUpEnd
  | currentLoss
  | cooldownTimerExpiry
  | lampPeriodEnd
  | thermistorSample (r : Sample)
  | periodComputation
  | tachPulse (us : Nat)
  -- Tape and sound events
  | cassetteRemoval
  | cassetteInsertion
  | runDownEnd
  | capstanPulse
  | reelPulse
  | tapeEndTimeout
  | reelTimeout
  | soundTick
  | baseRampEnd
  | duckRampEnd
  -- Cue events (the reception edges stand at the table's end)
  | cueWordComplete (stopBit : Bool)
  | confirmTimeout
  | pulseCue
  -- Handset events
  | irFrame (last : Byte)
  | irFrameError (cause : IrFault)
  | irGapTimeout
  | pairingWindowExpiry
  | quietTimeStep
  -- Bus events
  | busDestinationDecided (port : Port) (b : Byte)
  | busFrameEnd (port : Port) (last : Option Byte)
  | busGapTimeout (port : Port)
  | busTailQuiet (port : Port)
  | busCollision (port : Port)
  | statusAnswerStart
  | statusAnswerDone
  | statusAnswerTimeout
  | originationStart
  | originationDone
  | originationWaitTimeout
  | backoffEnd
  -- Reception edges of the cue track, the IR line and the bus
  | cueDataFallingEdge
  | startBitRecheck (high : Bool)
  | cueBitSample (high : Bool)
  | toneBurstStart
  | shortToneBurstEnd
  | irCarrierPresent
  | irLeaderEnd (us : Nat)
  | irLeaderTooLong
  | irByteComplete (b : Byte)
  | busByteReceived (port : Port) (b : Byte)
  | busForwardEnd (sender : Port)
  deriving DecidableEq, Repr

end Sys2Proof
end

