-- ==== Sys2Proof/WellFormed.lean ====
section
/-! DEFINITION. Well-formed commands: every operand is a number its field of the request frame can carry (R184 and
the record layouts), or an input the event's mechanism can show. A well-formed request may still be refused by
its owner; an ill-formed one cannot be sent. -/

namespace Sys2Proof

/-- A number one byte carries. -/
def fitsByte (n : Nat) : Bool := n ≤ 255

/-- A number two bytes carry. -/
def fitsWord (n : Nat) : Bool := n ≤ 65535

/-- A signed number one byte carries with the offset 128 (Record layouts). -/
def fitsSignedByte (k : Int) : Bool := -128 ≤ k && k ≤ 127

/-- A signed number two bytes carry with the offset 32768 (Record layouts). -/
def fitsSignedWord (k : Int) : Bool := -32768 ≤ k && k ≤ 32767

/-- An option value: absent from the set, or one byte. -/
def fitsOption (v : Option Nat) : Bool :=
  match v with
  | none => true
  | some n => fitsByte n

/-- A mask value: absent from the set, or two bytes. -/
def fitsMask (v : Option Nat) : Bool :=
  match v with
  | none => true
  | some n => fitsWord n

/-- The values of a slot write fit their fields of the slot record layout. -/
def SlotValues.wellFormed (v : SlotValues) : Bool :=
  fitsWord v.dwell && fitsWord v.fadeOut && fitsWord v.fadeIn && fitsWord v.light && fitsByte v.cls &&
  fitsByte v.sound && fitsByte v.tapeMark && fitsByte v.hold && fitsByte v.loop && fitsByte v.loopCount

/-- The values of a profile write fit their fields of the profile layout. -/
def ProfileValues.wellFormed (v : ProfileValues) : Bool :=
  v.c.toList.all fitsSignedWord && fitsSignedWord v.cP && fitsSignedWord v.cF && fitsByte v.q &&
  fitsSignedWord v.tset && fitsByte v.k && fitsWord v.floor && fitsWord v.slew && fitsSignedWord v.w &&
  fitsSignedWord v.h && fitsSignedWord v.x && fitsWord v.warmCap && fitsWord v.hotCap && fitsWord v.coolTime &&
  fitsSignedWord v.coolLimit && fitsWord v.guardLevel

/-- The values of a cue write fit their fields of the cue entry layout. -/
def CueImage.wellFormed (v : CueImage) : Bool :=
  fitsByte v.entry && fitsByte v.want && fitsWord v.code && fitsByte v.selector && fitsByte v.action &&
  fitsByte v.a0 && fitsByte v.a1 && fitsByte v.a2 && fitsByte v.a3 && fitsByte v.single &&
  fitsByte v.tapePresent && fitsWord v.tapeFrom && fitsWord v.tapeTo && fitsByte v.slotPresent &&
  fitsByte v.slotLo && fitsByte v.slotHi

/-- The seven bus groups, in the order a group set is carried (R184). -/
def busGroups : List Nat := [24, 25, 26, 27, 28, 29, 30]

/-- A command whose operands its frame or its mechanism can present. -/
def Instr.wellFormed : Instr → Bool
  | .writeSlot n _ v => fitsByte n && v.wellFormed
  | .loadSlots a b _ v => fitsByte a && fitsByte b && v.wellFormed
  | .retireSlot a b => fitsByte a && fitsByte b
  | .readSlot n => fitsByte n
  | .readShow => true
  | .setOptions a b c => fitsOption a && fitsOption b && fitsOption c
  | .step k => fitsSignedByte k
  | .goto n => fitsByte n
  | .home => true
  | .hold => true
  | .resume => true
  | .flush => true
  | .readDrive => true
  | .focus d t => fitsByte d && fitsByte t
  | .lampOn => true
  | .lampOff => true
  | .lampReset => true
  | .setLight v => match v with | none => true | some n => n ≤ 65534
  | .writeExposure c l => fitsByte c && l ≤ 4294967295
  | .readLamp => true
  | .writeCalibration o g z => fitsSignedWord o && fitsWord g && fitsSignedWord z
  | .readCalibration => true
  | .writeProfile p v => fitsByte p && v.wellFormed
  | .readProfile p => fitsByte p
  | .selectProfile p => fitsByte p
  | .readThermal => true
  | .tapePlay => true
  | .tapePause => true
  | .tapeStop => true
  | .tapeWind d => fitsByte d
  | .setTapePosition v => fitsWord v
  | .setGain a => fitsByte a
  | .setDuckDepth d w => fitsByte d && fitsByte w
  | .setMute b => fitsByte b
  | .readTape => true
  | .setCueOptions a b => fitsOption a && fitsOption b
  | .setMasks a b c => fitsMask a && fitsMask b && fitsMask c
  | .writeCue v => v.wellFormed
  | .armCue n => fitsByte n
  | .pauseCue n => fitsByte n
  | .retireCue n => fitsByte n
  | .readCue n => fitsByte n
  | .learnOn => true
  | .learnOff => true
  | .readLearn => true
  | .readCueUnit => true
  | .openPairing r => fitsByte r
  | .closePairing => true
  | .readHandset n => fitsByte n
  | .setRights n r => fitsByte n && fitsByte r
  | .blockHandset n => fitsByte n
  | .unblockHandset n => fitsByte n
  | .retireHandset n => fitsByte n
  | .setAddress a gs => fitsByte a && busGroups.filter (fun g => gs.contains g) == gs
  | .sendFrame d k args r =>
      fitsByte d && fitsByte k && args.all fitsByte && fitsByte r && args.length ≤ 56
  | .portAbort => true
  | .portRestart => true
  | .readPort => true
  | .setNoticeMask m => m.length == 30 && m.all fitsByte
  | .readNotices => true
  | .readNotice k => fitsByte k
  | .clearNotices => true
  | .reset => true
  | .pollPeriod k _ => fitsByte k && k != 1 && k != 2
  | .requestFrame bytes => bytes.head? == some 1
  | .fetch _ => true
  | .resetPinAssert => true
  | .powerOnReset => true
  | .trayRemoval => true
  | .trayInsertion _ => true
  | .gateStateChange _ => true
  | .encoderCount => true
  | .backOffComplete => true
  | .noIndexBudgetExhausted => true
  | .indexPass => true
  | .stallWatchdogExpiry => true
  | .brakeEnd => true
  | .liftDone => true
  | .dropDone => true
  | .lifterTimeout => true
  | .lifterSwitchChange _ _ => true
  | .settleEnd => true
  | .fadeTick => true
  | .fadeOutEnd => true
  | .fadeInEnd => true
  | .dwellTenth => true
  | .dwellExpiry => true
  | .focusStopTimerExpiry => true
  | .focusDurationEnd => true
  | .focusPauseEnd => true
  | .focusEndSwitch _ _ => true
  | .strikeAttemptTimer => true
  | .strikeWindowEnd => true
  | .currentSenseChange _ => true
  | .warmUpEnd => true
  | .currentLoss => true
  | .cooldownTimerExpiry => true
  | .lampPeriodEnd => true
  | .thermistorSample _ => true
  | .periodComputation => true
  | .tachPulse us => us != 0
  | .cassetteRemoval => true
  | .cassetteInsertion => true
  | .runDownEnd => true
  | .capstanPulse => true
  | .reelPulse => true
  | .tapeEndTimeout => true
  | .reelTimeout => true
  | .soundTick => true
  | .baseRampEnd => true
  | .duckRampEnd => true
  | .cueWordComplete _ => true
  | .confirmTimeout => true
  | .pulseCue => true
  | .irFrame _ => true
  | .irFrameError _ => true
  | .irGapTimeout => true
  | .pairingWindowExpiry => true
  | .quietTimeStep => true
  | .busDestinationDecided _ _ => true
  | .busFrameEnd _ _ => true
  | .busGapTimeout _ => true
  | .busTailQuiet _ => true
  | .busCollision _ => true
  | .statusAnswerStart => true
  | .statusAnswerDone => true
  | .statusAnswerTimeout => true
  | .originationStart => true
  | .originationDone => true
  | .originationWaitTimeout => true
  | .backoffEnd => true
  | .cueDataFallingEdge => true
  | .startBitRecheck _ => true
  | .cueBitSample _ => true
  | .toneBurstStart => true
  | .shortToneBurstEnd => true
  | .irCarrierPresent => true
  | .irLeaderEnd us => us ≤ 10000
  | .irLeaderTooLong => true
  | .irByteComplete _ => true
  | .busByteReceived _ _ => true
  | .busForwardEnd _ => true

end Sys2Proof
end

