-- ==== Sys2Proof/Decode.lean ====
section
/-! DEFINITION. The two decoders. `decodeTableWord` is the one the host asks for: spec/opcode_table.json gives no
row any bits (each row's "fields" is empty and none has a "fixed"), so no word spells a command. `decodeRequest`
reads a request frame of the Panel Link (R184, the table of request codes and the record layouts) into the host
request it carries, and `encodeRequest` writes the frame of a request. -/

namespace Sys2Proof

/-- The command a word of the opcode table spells: none, since the table gives no row bits. -/
def decodeTableWord (_nbits _w : Nat) : Option Instr := none

/-! ### The check sums of R152 -/

/-- R152: a sum that exceeds 255 is reduced by 255. -/
def reduce255 (n : Nat) : Nat := if n > 255 then n - 255 else n

/-- R152: one byte added to sum A, then the new A added to sum B. -/
def addToSums (ab : Nat × Nat) (x : Byte) : Nat × Nat :=
  let a := reduce255 (ab.1 + x.toNat)
  (a, reduce255 (ab.2 + a))

/-- R152: the two running sums over a list of bytes, both starting at 0. -/
def checkSums (bytes : List Byte) : Nat × Nat := bytes.foldl addToSums (0, 0)

/-- The bytes with check A and check B appended. -/
def withSums (bytes : List Byte) : List Byte :=
  let ab := checkSums bytes
  bytes ++ [BitVec.ofNat 8 ab.1, BitVec.ofNat 8 ab.2]

/-! ### Fields as bytes (Record layouts: the conventions) -/

/-- One unsigned byte. -/
def u8 (n : Nat) : List Byte := [BitVec.ofNat 8 n]

/-- A two-byte field, high byte first. -/
def u16 (n : Nat) : List Byte := [BitVec.ofNat 8 (n / 256), BitVec.ofNat 8 n]

/-- A four-byte field, most significant byte first. -/
def u32 (n : Nat) : List Byte :=
  [BitVec.ofNat 8 (n / 16777216), BitVec.ofNat 8 (n / 65536), BitVec.ofNat 8 (n / 256), BitVec.ofNat 8 n]

/-- A signed byte: its value plus 128. -/
def s8 (k : Int) : List Byte := u8 (k + 128).toNat

/-- A signed two-byte field: its value plus 32768. -/
def s16 (k : Int) : List Byte := u16 (k + 32768).toNat

/-- A yes/no, on/off or present/absent field: 1 or 0. -/
def flag (b : Bool) : List Byte := u8 (if b then 1 else 0)

/-! ### Request frames -/

/-- R184 and the table of request codes: the code of a host request; 0 for a command that is no request. -/
def requestCode : Instr → Nat
  | .writeSlot _ _ _ => 1
  | .loadSlots _ _ _ _ => 2
  | .retireSlot _ _ => 3
  | .readSlot _ => 4
  | .readShow => 5
  | .setOptions _ _ _ => 6
  | .step _ => 7
  | .goto _ => 8
  | .home => 9
  | .hold => 10
  | .resume => 11
  | .flush => 12
  | .readDrive => 13
  | .focus _ _ => 14
  | .lampOn => 15
  | .lampOff => 16
  | .lampReset => 17
  | .setLight _ => 18
  | .writeExposure _ _ => 19
  | .readLamp => 20
  | .writeCalibration _ _ _ => 21
  | .readCalibration => 22
  | .writeProfile _ _ => 23
  | .readProfile _ => 24
  | .selectProfile _ => 25
  | .readThermal => 26
  | .tapePlay => 27
  | .tapePause => 28
  | .tapeStop => 29
  | .tapeWind _ => 30
  | .setTapePosition _ => 31
  | .setGain _ => 32
  | .setDuckDepth _ _ => 33
  | .setMute _ => 34
  | .readTape => 35
  | .setCueOptions _ _ => 36
  | .setMasks _ _ _ => 37
  | .writeCue _ => 38
  | .armCue _ => 39
  | .pauseCue _ => 40
  | .retireCue _ => 41
  | .readCue _ => 42
  | .learnOn => 43
  | .learnOff => 44
  | .readLearn => 45
  | .readCueUnit => 46
  | .openPairing _ => 47
  | .closePairing => 48
  | .readHandset _ => 49
  | .setRights _ _ => 50
  | .blockHandset _ => 51
  | .unblockHandset _ => 52
  | .retireHandset _ => 53
  | .setAddress _ _ => 54
  | .sendFrame _ _ _ _ => 55
  | .portAbort => 56
  | .portRestart => 57
  | .readPort => 58
  | .setNoticeMask _ => 59
  | .readNotices => 60
  | .readNotice _ => 61
  | .clearNotices => 62
  | .reset => 63
  | .pollPeriod _ _ => 0
  | .requestFrame _ => 0
  | .fetch _ => 0
  | .resetPinAssert => 0
  | .powerOnReset => 0
  | .trayRemoval => 0
  | .trayInsertion _ => 0
  | .gateStateChange _ => 0
  | .encoderCount => 0
  | .backOffComplete => 0
  | .noIndexBudgetExhausted => 0
  | .indexPass => 0
  | .stallWatchdogExpiry => 0
  | .brakeEnd => 0
  | .liftDone => 0
  | .dropDone => 0
  | .lifterTimeout => 0
  | .lifterSwitchChange _ _ => 0
  | .settleEnd => 0
  | .fadeTick => 0
  | .fadeOutEnd => 0
  | .fadeInEnd => 0
  | .dwellTenth => 0
  | .dwellExpiry => 0
  | .focusStopTimerExpiry => 0
  | .focusDurationEnd => 0
  | .focusPauseEnd => 0
  | .focusEndSwitch _ _ => 0
  | .strikeAttemptTimer => 0
  | .strikeWindowEnd => 0
  | .currentSenseChange _ => 0
  | .warmUpEnd => 0
  | .currentLoss => 0
  | .cooldownTimerExpiry => 0
  | .lampPeriodEnd => 0
  | .thermistorSample _ => 0
  | .periodComputation => 0
  | .tachPulse _ => 0
  | .cassetteRemoval => 0
  | .cassetteInsertion => 0
  | .runDownEnd => 0
  | .capstanPulse => 0
  | .reelPulse => 0
  | .tapeEndTimeout => 0
  | .reelTimeout => 0
  | .soundTick => 0
  | .baseRampEnd => 0
  | .duckRampEnd => 0
  | .cueWordComplete _ => 0
  | .confirmTimeout => 0
  | .pulseCue => 0
  | .irFrame _ => 0
  | .irFrameError _ => 0
  | .irGapTimeout => 0
  | .pairingWindowExpiry => 0
  | .quietTimeStep => 0
  | .busDestinationDecided _ _ => 0
  | .busFrameEnd _ _ => 0
  | .busGapTimeout _ => 0
  | .busTailQuiet _ => 0
  | .busCollision _ => 0
  | .statusAnswerStart => 0
  | .statusAnswerDone => 0
  | .statusAnswerTimeout => 0
  | .originationStart => 0
  | .originationDone => 0
  | .originationWaitTimeout => 0
  | .backoffEnd => 0
  | .cueDataFallingEdge => 0
  | .startBitRecheck _ => 0
  | .cueBitSample _ => 0
  | .toneBurstStart => 0
  | .shortToneBurstEnd => 0
  | .irCarrierPresent => 0
  | .irLeaderEnd _ => 0
  | .irLeaderTooLong => 0
  | .irByteComplete _ => 0
  | .busByteReceived _ _ => 0
  | .busForwardEnd _ => 0

/-- R184: the fixed count of argument bytes of each request code 1..63; none for SEND FRAME (55), whose count
follows its key and is checked by its owner (R176). -/
def argCount (code : Nat) : Option Nat :=
  match code with
  | 1 => some 24
  | 2 => some 25
  | 3 => some 2
  | 4 => some 1
  | 6 => some 6
  | 7 => some 1
  | 8 => some 1
  | 14 => some 2
  | 18 => some 2
  | 19 => some 5
  | 21 => some 6
  | 23 => some 46
  | 24 => some 1
  | 25 => some 1
  | 30 => some 1
  | 31 => some 2
  | 32 => some 1
  | 33 => some 2
  | 34 => some 1
  | 36 => some 4
  | 37 => some 9
  | 38 => some 19
  | 39 => some 1
  | 40 => some 1
  | 41 => some 1
  | 42 => some 1
  | 47 => some 1
  | 49 => some 1
  | 50 => some 2
  | 51 => some 1
  | 52 => some 1
  | 53 => some 1
  | 54 => some 8
  | 55 => none
  | 59 => some 30
  | 61 => some 1
  | _ => some 0

/-- The byte at place i of an argument list, 0 past its end. -/
def argByte (args : List Nat) (i : Nat) : Nat := args.getD i 0

/-- The two-byte field at place i, high byte first. -/
def argWord (args : List Nat) (i : Nat) : Nat := argByte args i * 256 + argByte args (i + 1)

/-- The four-byte field at place i, most significant byte first. -/
def argLong (args : List Nat) (i : Nat) : Nat := argWord args i * 65536 + argWord args (i + 2)

/-- The signed two-byte field at place i (value plus 32768). -/
def argSigned (args : List Nat) (i : Nat) : Int := (argWord args i : Int) - 32768

/-- A set membership byte: 1 for a member (R184); any other byte is read as no member (log 9). -/
def argMember (args : List Nat) (i : Nat) : Bool := argByte args i == 1

/-- An option of a set: its value where its membership byte names it. -/
def argOption (args : List Nat) (member value : Nat) : Option Nat :=
  if argMember args member then some (argByte args value) else none

/-- A mask of a set: its two-byte value where its membership byte names it. -/
def argMask (args : List Nat) (member value : Nat) : Option Nat :=
  if argMember args member then some (argWord args value) else none

/-- The nine field-set bytes from place i. -/
def argFieldSet (args : List Nat) (i : Nat) : FieldSet where
  dwell := argMember args i
  fadeOut := argMember args (i + 1)
  fadeIn := argMember args (i + 2)
  light := argMember args (i + 3)
  cls := argMember args (i + 4)
  sound := argMember args (i + 5)
  tapeMark := argMember args (i + 6)
  hold := argMember args (i + 7)
  loop := argMember args (i + 8)

/-- Bytes 3..16 of the slot record layout, from place i. -/
def argSlotValues (args : List Nat) (i : Nat) : SlotValues where
  dwell := argWord args i
  fadeOut := argWord args (i + 2)
  fadeIn := argWord args (i + 4)
  light := argWord args (i + 6)
  cls := argByte args (i + 8)
  sound := argByte args (i + 9)
  tapeMark := argByte args (i + 10)
  hold := argByte args (i + 11)
  loop := argByte args (i + 12)
  loopCount := argByte args (i + 13)

/-- Bytes 3..46 of the profile layout, from place i. Byte 47 is laid down as 0; the spec does not say what another value
does, and the model neither reads nor refuses it (DESIGN CHOICE, log 10). -/
def argProfileValues (args : List Nat) (i : Nat) : ProfileValues where
  c := Vector.ofFn (fun j : Fin 8 => argSigned args (i + 2 * j.val))
  cP := argSigned args (i + 16)
  cF := argSigned args (i + 18)
  q := argByte args (i + 20)
  tset := argSigned args (i + 21)
  k := argByte args (i + 23)
  floor := argWord args (i + 24)
  slew := argWord args (i + 26)
  w := argSigned args (i + 28)
  h := argSigned args (i + 30)
  x := argSigned args (i + 32)
  warmCap := argWord args (i + 34)
  hotCap := argWord args (i + 36)
  coolTime := argWord args (i + 38)
  coolLimit := argSigned args (i + 40)
  guardLevel := argWord args (i + 42)

/-- Byte 0, byte 1 and bytes 2..18 of the cue entry layout. -/
def argCueImage (args : List Nat) : CueImage where
  entry := argByte args 0
  want := argByte args 1
  code := argWord args 2
  selector := argByte args 4
  action := argByte args 5
  a0 := argByte args 6
  a1 := argByte args 7
  a2 := argByte args 8
  a3 := argByte args 9
  single := argByte args 10
  tapePresent := argByte args 11
  tapeFrom := argWord args 12
  tapeTo := argWord args 14
  slotPresent := argByte args 16
  slotLo := argByte args 17
  slotHi := argByte args 18

/-- The group set of SET ADDRESS: the groups whose membership byte, from place 1, is 1 (R184). -/
def argGroups (args : List Nat) : List Nat := busGroups.filter (fun g => argMember args (g - 23))

/-- SEND FRAME's arguments: destination, key, the key's arguments and the REPEAT choice, in the order of R176. A
payload too short to hold the three single bytes is read with zeros, which its owner refuses (key 0). -/
def argSendFrame (args : List Nat) : Instr :=
  match args with
  | d :: k :: r :: rest => .sendFrame d k (r :: rest).dropLast ((r :: rest).getLastD 0)
  | _ => .sendFrame (argByte args 0) 0 [] 0

/-- The host request a request code and its argument bytes carry (R184 and the record layouts). -/
def decodeArgs (code : Nat) (args : List Nat) : Option Instr :=
  match code with
  | 1 => some (.writeSlot (argByte args 0) (argFieldSet args 1) (argSlotValues args 10))
  | 2 => some (.loadSlots (argByte args 0) (argByte args 1) (argFieldSet args 2) (argSlotValues args 11))
  | 3 => some (.retireSlot (argByte args 0) (argByte args 1))
  | 4 => some (.readSlot (argByte args 0))
  | 5 => some .readShow
  | 6 => some (.setOptions (argOption args 0 3) (argOption args 1 4) (argOption args 2 5))
  | 7 => some (.step ((argByte args 0 : Int) - 128))
  | 8 => some (.goto (argByte args 0))
  | 9 => some .home
  | 10 => some .hold
  | 11 => some .resume
  | 12 => some .flush
  | 13 => some .readDrive
  | 14 => some (.focus (argByte args 0) (argByte args 1))
  | 15 => some .lampOn
  | 16 => some .lampOff
  | 17 => some .lampReset
  | 18 => some (.setLight (if argWord args 0 = 65535 then none else some (argWord args 0)))
  | 19 => some (.writeExposure (argByte args 0) (argLong args 1))
  | 20 => some .readLamp
  | 21 => some (.writeCalibration (argSigned args 0) (argWord args 2) (argSigned args 4))
  | 22 => some .readCalibration
  | 23 => some (.writeProfile (argByte args 0) (argProfileValues args 1))
  | 24 => some (.readProfile (argByte args 0))
  | 25 => some (.selectProfile (argByte args 0))
  | 26 => some .readThermal
  | 27 => some .tapePlay
  | 28 => some .tapePause
  | 29 => some .tapeStop
  | 30 => some (.tapeWind (argByte args 0))
  | 31 => some (.setTapePosition (argWord args 0))
  | 32 => some (.setGain (argByte args 0))
  | 33 => some (.setDuckDepth (argByte args 0) (argByte args 1))
  | 34 => some (.setMute (argByte args 0))
  | 35 => some .readTape
  | 36 => some (.setCueOptions (argOption args 0 2) (argOption args 1 3))
  | 37 => some (.setMasks (argMask args 0 3) (argMask args 1 5) (argMask args 2 7))
  | 38 => some (.writeCue (argCueImage args))
  | 39 => some (.armCue (argByte args 0))
  | 40 => some (.pauseCue (argByte args 0))
  | 41 => some (.retireCue (argByte args 0))
  | 42 => some (.readCue (argByte args 0))
  | 43 => some .learnOn
  | 44 => some .learnOff
  | 45 => some .readLearn
  | 46 => some .readCueUnit
  | 47 => some (.openPairing (argByte args 0))
  | 48 => some .closePairing
  | 49 => some (.readHandset (argByte args 0))
  | 50 => some (.setRights (argByte args 0) (argByte args 1))
  | 51 => some (.blockHandset (argByte args 0))
  | 52 => some (.unblockHandset (argByte args 0))
  | 53 => some (.retireHandset (argByte args 0))
  | 54 => some (.setAddress (argByte args 0) (argGroups args))
  | 55 => some (argSendFrame args)
  | 56 => some .portAbort
  | 57 => some .portRestart
  | 58 => some .readPort
  | 59 => some (.setNoticeMask args)
  | 60 => some .readNotices
  | 61 => some (.readNotice (argByte args 0))
  | 62 => some .clearNotices
  | 63 => some .reset
  | _ => none

/-- R184: the request in a frame's bytes 1..L + 1 (L, the code, L − 3 arguments and the two checks). -/
def decodeRequest (frame : List Byte) : Option Instr :=
  match frame with
  | l :: code :: rest => decodeArgs code.toNat ((rest.take (l.toNat - 3)).map BitVec.toNat)
  | _ => none

/-- The membership byte and value bytes of an option of a set. -/
def optionBytes (v : Option Nat) : Nat × Nat :=
  match v with
  | none => (0, 0)
  | some n => (1, n)

/-- A membership byte for a Bool. -/
def memberByte (b : Bool) : Nat := if b then 1 else 0

/-- The two bytes of a word, high byte first. -/
def wordBytes (n : Nat) : List Nat := [n / 256, n % 256]

/-- The two bytes of a signed word. -/
def signedBytes (k : Int) : List Nat := wordBytes (k + 32768).toNat

/-- The nine field-set bytes. -/
def fieldSetBytes (f : FieldSet) : List Nat :=
  [memberByte f.dwell, memberByte f.fadeOut, memberByte f.fadeIn, memberByte f.light, memberByte f.cls,
   memberByte f.sound, memberByte f.tapeMark, memberByte f.hold, memberByte f.loop]

/-- Bytes 3..16 of the slot record layout. -/
def slotValueBytes (v : SlotValues) : List Nat :=
  wordBytes v.dwell ++ wordBytes v.fadeOut ++ wordBytes v.fadeIn ++ wordBytes v.light ++
  [v.cls, v.sound, v.tapeMark, v.hold, v.loop, v.loopCount]

/-- Bytes 3..47 of the profile layout. -/
def profileValueBytes (v : ProfileValues) : List Nat :=
  v.c.toList.flatMap signedBytes ++ signedBytes v.cP ++ signedBytes v.cF ++ [v.q] ++ signedBytes v.tset ++ [v.k] ++
  wordBytes v.floor ++ wordBytes v.slew ++ signedBytes v.w ++ signedBytes v.h ++ signedBytes v.x ++
  wordBytes v.warmCap ++ wordBytes v.hotCap ++ wordBytes v.coolTime ++ signedBytes v.coolLimit ++
  wordBytes v.guardLevel ++ [0]

/-- The 19 argument bytes of WRITE CUE. -/
def cueImageBytes (v : CueImage) : List Nat :=
  [v.entry, v.want] ++ wordBytes v.code ++ [v.selector, v.action, v.a0, v.a1, v.a2, v.a3, v.single, v.tapePresent] ++
  wordBytes v.tapeFrom ++ wordBytes v.tapeTo ++ [v.slotPresent, v.slotLo, v.slotHi]

/-- The argument bytes of a host request, in the order its entry names them (R184). -/
def requestArgs : Instr → List Nat
  | .writeSlot n f v => n :: (fieldSetBytes f ++ slotValueBytes v)
  | .loadSlots a b f v => a :: b :: (fieldSetBytes f ++ slotValueBytes v)
  | .retireSlot a b => [a, b]
  | .readSlot n => [n]
  | .setOptions a b c =>
      [(optionBytes a).1, (optionBytes b).1, (optionBytes c).1, (optionBytes a).2, (optionBytes b).2, (optionBytes c).2]
  | .step k => [(k + 128).toNat]
  | .goto n => [n]
  | .focus d t => [d, t]
  | .setLight v => wordBytes (v.getD 65535)
  | .writeExposure c l => [c, l / 16777216, l / 65536 % 256, l / 256 % 256, l % 256]
  | .writeCalibration o g z => signedBytes o ++ wordBytes g ++ signedBytes z
  | .writeProfile p v => p :: profileValueBytes v
  | .readProfile p => [p]
  | .selectProfile p => [p]
  | .tapeWind d => [d]
  | .setTapePosition v => wordBytes v
  | .setGain a => [a]
  | .setDuckDepth d w => [d, w]
  | .setMute b => [b]
  | .setCueOptions a b => [(optionBytes a).1, (optionBytes b).1, (optionBytes a).2, (optionBytes b).2]
  | .setMasks a b c =>
      [(optionBytes a).1, (optionBytes b).1, (optionBytes c).1] ++
      wordBytes (optionBytes a).2 ++ wordBytes (optionBytes b).2 ++ wordBytes (optionBytes c).2
  | .writeCue v => cueImageBytes v
  | .armCue n => [n]
  | .pauseCue n => [n]
  | .retireCue n => [n]
  | .readCue n => [n]
  | .openPairing r => [r]
  | .readHandset n => [n]
  | .setRights n r => [n, r]
  | .blockHandset n => [n]
  | .unblockHandset n => [n]
  | .retireHandset n => [n]
  | .setAddress a gs => a :: busGroups.map (fun g => memberByte (gs.contains g))
  | .sendFrame d k args r => d :: k :: (args ++ [r])
  | .setNoticeMask m => m
  | .readNotice k => [k]
  | _ => []

/-- R184: the bytes of a request's frame after the frame kind: L, the code, the arguments, check A and check B. -/
def encodeRequest (i : Instr) : List Byte :=
  withSums ((((requestArgs i).length + 3) :: requestCode i :: requestArgs i).map (BitVec.ofNat 8))

end Sys2Proof
end

