-- ==== Sys2Proof/Machine/State.lean ====
section
/-! DEFINITION. The state of the PS-140, as plain data: one structure per block of the manual (00_scope, Block
diagram) and the queue of waiting commands, with `State.reset`, the machine right after power-on reset. A timer is
held as the milliseconds it has left; none means that it does not run (log 3). -/

namespace Sys2Proof.Machine

/-! ### The Tray Map and the Changer -/

/-- R10, R16: the four tray sizes, in the order of the lug codes 0..3. -/
inductive TraySize
  | n50
  | n80
  | n100
  | n140
  deriving DecidableEq, Repr

/-- R1: what the part has learned about a tray position. -/
inductive Occupancy
  | unknown
  | present
  | empty
  | jammed
  deriving DecidableEq, Repr

/-- R1: the tape mark of a slot. -/
inductive TapeMark
  | none
  | play
  | pause
  deriving DecidableEq, Repr

/-- R1: the loop mark of a slot; `close` is LOOP-END. -/
inductive LoopMark
  | none
  | start (count : Nat)
  | close
  deriving DecidableEq, Repr

/-- R1: one slot record; absent is `none` of an Option. -/
structure SlotRecord where
  programmed : Bool
  occupancy : Occupancy
  dwell : Nat
  fadeOut : Nat
  fadeIn : Nat
  light : Nat
  cls : Nat
  sound : Option Nat
  tapeMark : TapeMark
  hold : Bool
  loop : LoopMark
  deriving DecidableEq, Repr

/-- R1: the defaults of a slot record. -/
def SlotRecord.default : SlotRecord where
  programmed := false
  occupancy := .unknown
  dwell := 0
  fadeOut := 50
  fadeIn := 50
  light := 1000
  cls := 0
  sound := none
  tapeMark := .none
  hold := false
  loop := .none

/-- R10: the changer states, in the order of R175's list. -/
inductive ChangerState
  | noTray
  | unhomed
  | homing
  | showing
  | fadingOut
  | lifting
  | rotating
  | dropping
  | settling
  | fadingIn
  | jammed
  deriving DecidableEq, Repr

/-- R19: the source of a change request with its identity. -/
inductive Source
  | host
  | cue (entry : Nat)
  | handset (id : Nat)
  | console (station : Nat)
  | auto
  deriving DecidableEq, Repr

/-- R22: the kind of a queue entry. -/
inductive EntryKind
  | step (k : Int)
  | goto (n : Nat)
  deriving DecidableEq, Repr

/-- R22: one entry of the Change Queue. -/
structure Entry where
  source : Source
  kind : EntryKind
  loopback : Bool
  deriving DecidableEq, Repr

/-- A direction of tray travel (R32, R33). -/
inductive Dir
  | forward
  | backward
  deriving DecidableEq, Repr

/-- 02_changing_slides, the current change record: the kind of the change in flight. -/
inductive ChangeKind
  | step (k : Int)
  | goto (n : Nat)
  | home
  deriving DecidableEq, Repr

/-- 02_changing_slides: the current change record. -/
structure Change where
  source : Source
  kind : ChangeKind
  loopback : Bool
  target : Option Nat
  dir : Dir
  deriving DecidableEq, Repr

/-- R44: one frame of the Loop Stack. -/
structure LoopFrame where
  start : Nat
  remaining : Nat
  deriving DecidableEq, Repr

/-- The Changer Controller (R1, R10, R14, R22, R31, R44), less the light override, which the Lamp Controller holds. -/
structure Changer where
  /-- R1: the Slot Table; place i holds slot i + 1. -/
  slots : Vector SlotRecord 140
  /-- R10: none is ABSENT. -/
  tray : Option TraySize
  homed : Bool
  current : Option Nat
  state : ChangerState
  /-- R10: true is HELD. -/
  held : Bool
  /-- R41: dwell elapsed, in tenths. -/
  dwell : Nat
  /-- The model's own field (log 4): the comparison of R42 found the dwell expired at the last tenth counted, and
  the expiry of R43 has not yet been taken. -/
  dwellDue : Bool
  /-- R44: the Loop Stack, top frame first. -/
  loops : List LoopFrame
  /-- R10: the empty-discovery run. -/
  run : Nat
  skipEmpty : Bool
  skipBlank : Bool
  wrap : Bool
  /-- R22: the Change Queue, head first. -/
  queue : List Entry
  /-- The current change record; none is empty. -/
  change : Option Change
  /-- R7: the loop mark the Changer keeps from the last arrival. -/
  keptLoop : LoopMark
  deriving DecidableEq, Repr

/-! ### The Tray Drive -/

/-- R52: the four states of the tray motor bridge. -/
inductive Bridge
  | off
  | forward
  | backward
  | brake
  deriving DecidableEq, Repr

/-- R65: the motion in progress; a TURN carries its ordered direction and target count. -/
inductive Motion
  | none
  | turn (dir : Dir) (target : Nat)
  | homeLift
  | homeSeek
  | homeCentre
  deriving DecidableEq, Repr

/-- R52: what the bridge goes into at the end of the brake in progress. -/
inductive AfterBrake
  /-- OFF, and nothing more (a STOP, a jam, a reset). -/
  | off
  /-- the test of R53 step 3. -/
  | window
  /-- the back-off of R54 step 2. -/
  | backOff
  /-- the resumed drive of R54 step 4. -/
  | resume
  /-- a drive ordered while the brake was in progress. -/
  | drive (dir : Dir)
  deriving DecidableEq, Repr

/-- R58: the lifter drive. -/
inductive LifterDrive
  | upward
  | downward
  | off
  deriving DecidableEq, Repr

/-- R58: the lifter position the end switches show. -/
inductive LifterPosition
  | up
  | down
  | moving
  deriving DecidableEq, Repr

/-- R62, R63: the kind of a focus run; a host run waiting in a pause carries its duration in milliseconds. -/
inductive FocusRun
  | key
  | host (ms : Nat)
  deriving DecidableEq, Repr

/-- R62: the focus state. -/
inductive Focus
  | stopped
  | running (dir : FocusDir) (run : FocusRun)
  | pausing (dir : FocusDir) (run : FocusRun)
  deriving DecidableEq, Repr

/-- The Tray Drive (R48 to R66). -/
structure Drive where
  /-- R49: the position counter. -/
  position : Nat
  /-- R51: the revolution counter. -/
  revolutions : Nat
  bridge : Bridge
  /-- R48: the direction of the last drive since the last reset. -/
  lastDrive : Option Dir
  motion : Motion
  /-- R54: a back-off is in progress (its drive, between the two brakes). -/
  backingOff : Bool
  /-- R54: counts applied in the back-off, 0..12. -/
  backTally : Nat
  afterBrake : AfterBrake
  /-- R53, R54: the stall count and the correction count of the rotation. -/
  stalls : Nat
  corrections : Nat
  /-- R57: the NO_INDEX budget. -/
  budget : Nat
  /-- R54: the stall watchdog. -/
  watchdog : Option Nat
  /-- R52: the brake in progress. -/
  brakeTimer : Option Nat
  /-- R58: the UP and DOWN end switches, true when closed (inputs). -/
  swUp : Bool
  swDown : Bool
  lifterDrive : LifterDrive
  /-- R59, R60: the lifter timer. -/
  lifterTimer : Option Nat
  /-- R60: the settle timer. -/
  settleTimer : Option Nat
  /-- R61: the gate state, true when OCCUPIED. -/
  gate : Bool
  focus : Focus
  /-- R62, R63: the stop timer, the duration left, or the pause left. -/
  focusTimer : Option Nat
  /-- R62: the IN and OUT end switches of the focus motor, true when closed (inputs). -/
  endIn : Bool
  endOut : Bool
  deriving DecidableEq, Repr

/-! ### The Lamp Controller -/

/-- R67: the lamp states, in the order of R175's list. -/
inductive LampState
  | off
  | striking
  | warming
  | run
  | cooldown
  | failed
  deriving DecidableEq, Repr

/-- R67: the cool-down destination. -/
inductive CoolDest
  | off
  | failed
  deriving DecidableEq, Repr

/-- R101: the thermal bands. -/
inductive Band
  | normal
  | warm
  | hot
  | trip
  deriving DecidableEq, Repr

/-- R78: a ramp from a to b over n fade ticks, with k steps counted. -/
structure Ramp where
  a : Nat
  b : Nat
  n : Nat
  k : Nat
  deriving DecidableEq, Repr

/-- The Lamp Controller (R67 to R86). -/
structure Lamp where
  state : LampState
  dest : CoolDest
  /-- R67: ignition pulses issued since STRIKING was last entered. -/
  attempts : Nat
  /-- R71: the confirm window, while it is open. -/
  window : Option Nat
  /-- R71: the time left to the next strike attempt, from the last ignition pulse. -/
  nextStrike : Option Nat
  /-- R67: the warm-up timer, milliseconds left; 0 outside WARMING. -/
  warmUp : Nat
  /-- R67: the cool-down timer, milliseconds left (read in tenths); 0 outside COOLDOWN. -/
  coolDown : Nat
  /-- R73: the current-loss timer, milliseconds of NONE so far, while it runs. -/
  lossTimer : Option Nat
  /-- The current sense, true when FLOWING (an input). -/
  flowing : Bool
  /-- R67: true when the start-up check is DONE. -/
  checkDone : Bool
  bandView : Band
  coolFlag : Bool
  /-- R77: the fade value, its ramp and the dark hold. -/
  fade : Nat
  ramp : Option Ramp
  darkHold : Bool
  /-- R80: the light override. -/
  override : Option Nat
  /-- R79: the applied cap. -/
  appliedCap : Nat
  /-- R76: the delivered light of the most recent fade tick, as it stands on the level line. -/
  delivered : Nat
  /-- R81: the sum of the delivered light over the fade ticks of the period in progress, and their count. -/
  lightSum : Nat
  ticks : Nat
  /-- R81: the exposure account. -/
  exposure : Nat
  /-- R83: the class last read. -/
  govClass : Nat
  /-- R82: the guard is in force. -/
  guard : Bool
  /-- R83: the limits of classes 0, 1 and 2; 0 means no limit. -/
  limits : Vector Nat 3
  deriving DecidableEq, Repr

/-! ### The Thermal Unit -/

/-- R88: the Sensor Calibration record. -/
structure Calibration where
  offset : Int
  gain : Nat
  zero : Int
  deriving DecidableEq, Repr

/-- R96: one profile with its validity. -/
structure Profile where
  valid : Bool
  c : Vector Int 8
  cP : Int
  cF : Int
  q : Nat
  tset : Int
  k : Nat
  floor : Nat
  slew : Nat
  w : Int
  h : Int
  x : Int
  warmCap : Nat
  hotCap : Nat
  coolTime : Nat
  coolLimit : Int
  guardLevel : Nat
  deriving DecidableEq, Repr

/-- R96: profile 0 after power-on reset. -/
def Profile.zeroth : Profile where
  valid := true
  c := #v[8192, 4096, 2048, 1024, 512, 256, 128, 128]
  cP := 3277
  cF := -1638
  q := 14
  tset := 880
  k := 96
  floor := 250
  slew := 100
  w := 1040
  h := 1200
  x := 1360
  warmCap := 700
  hotCap := 300
  coolTime := 120
  coolLimit := 560
  guardLevel := 150

/-- R96: profiles 1..7 after power-on reset, 0 in every field and INVALID. -/
def Profile.blank : Profile where
  valid := false
  c := Vector.replicate 8 0
  cP := 0
  cF := 0
  q := 0
  tset := 0
  k := 0
  floor := 0
  slew := 0
  w := 0
  h := 0
  x := 0
  warmCap := 0
  hotCap := 0
  coolTime := 0
  coolLimit := 0
  guardLevel := 0

/-- R90: the sensor-fault state. -/
inductive SensorState
  | good
  | suspect
  | fault (count goodRun : Nat)
  deriving DecidableEq, Repr

/-- R107: the fan-fault state with its counts. -/
inductive FanState
  | good (slowRun : Nat)
  | fault (time goodRun : Nat)
  deriving DecidableEq, Repr

/-- R81: what the Lamp Controller hands over at a period end, beside its state. -/
structure Handover where
  p : Nat
  coolDone : Bool
  deriving DecidableEq, Repr

/-- R108: the Thermal Snapshot. -/
structure Snapshot where
  raw : Nat
  corrected : Nat
  theta : Int
  est : Int
  band : Band
  namedCap : Nat
  duty : Nat
  demand : Nat
  speed : Option Nat
  active : Fin 8
  next : Option (Fin 8)
  saturated : Bool
  sensor : SensorState
  fan : FanState
  line : Option (Vector Int 8)
  count : Nat
  deriving DecidableEq, Repr

/-- The Thermal Unit (R87 to R110). -/
structure Thermal where
  cal : Calibration
  /-- R87: the sample in hand for the period end. -/
  sample : Option Sample
  /-- R87: the hand-over in hand for the period end. -/
  handover : Option Handover
  /-- R93: the delay line, x0 first; none is UNFILLED. -/
  line : Option (Vector Int 8)
  /-- R95: the estimate T. -/
  est : Int
  /-- R96: the Profile Store. -/
  profiles : Vector Profile 8
  active : Fin 8
  /-- R99: the pending profile. -/
  next : Option (Fin 8)
  band : Band
  namedCap : Nat
  /-- R104: the fan duty. -/
  duty : Nat
  sensor : SensorState
  fan : FanState
  /-- R107: the interval between the last two tach pulses, in microseconds. -/
  tachInterval : Option Nat
  /-- R107: milliseconds since the last tach pulse, saturating just above 100. -/
  tachSilence : Nat
  /-- R95: the saturation mark. -/
  saturated : Bool
  /-- R87: the estimator period count. -/
  count : Nat
  snapshot : Snapshot
  deriving DecidableEq, Repr

/-! ### The Tape and Sound Unit -/

/-- R111: the transport states. -/
inductive Transport
  | noTape
  | stopped
  | playing
  | paused
  | windingFwd
  | windingBack
  deriving DecidableEq, Repr

/-- R111: the pending motion of a run-down. -/
inductive PendingMotion
  | none
  | playing
  | windingFwd
  | windingBack
  deriving DecidableEq, Repr

/-- R111: a run-down in progress. -/
structure RunDown where
  left : Nat
  next : PendingMotion
  deriving DecidableEq, Repr

/-- The Tape and Sound Unit (R111 to R127). -/
structure Tape where
  transport : Transport
  runDown : Option RunDown
  /-- R119: the tape counter, its mark (true is SURE) and the pulse residue. -/
  counter : Nat
  sure : Bool
  residue : Nat
  /-- R117: the tape-end timer and the reel timer. -/
  endTimer : Option Nat
  reelTimer : Option Nat
  /-- R121: the program-sound state. -/
  base : Nat
  baseRamp : Option Ramp
  duckOn : Bool
  duckDepth : Nat
  duckTerm : Nat
  duckRamp : Option Ramp
  mute : Bool
  /-- R121: the output of the last tick, which stands on the attenuator line; none is MUTE. -/
  output : Option Nat
  deriving DecidableEq, Repr

/-! ### The Cue Unit -/

/-- R129: the cue receiver; in WORD with the bits taken so far, first bit first. -/
inductive CueRx
  | idle
  | start
  | word (bits : List Bool)
  deriving DecidableEq, Repr

/-- R135: the states of a cue entry. -/
inductive CueState
  | free
  | armed
  | paused
  | spent
  deriving DecidableEq, Repr

/-- R135, R136: the mask selector. -/
inductive Selector
  | exact
  | global
  | localA
  | localB
  deriving DecidableEq, Repr

/-- R135: the cue actions with their arguments. -/
inductive CueAction
  | step (k : Int)
  | goto (n : Nat)
  | hold
  | resume
  | light (v : Nat)
  | profile (p : Nat)
  | gain (a : Nat)
  | duck (on : Bool)
  | tapePause
  | relay (address key : Nat) (arg : Option Nat)
  | notify (v : Nat)
  deriving DecidableEq, Repr

/-- R135: an inclusive window. -/
structure Window where
  lo : Nat
  hi : Nat
  deriving DecidableEq, Repr

/-- R135: one entry of the Cue Map. -/
structure CueEntry where
  state : CueState
  code : CueCode
  selector : Selector
  action : Option CueAction
  single : Bool
  tapeWindow : Option Window
  slotWindow : Option Window
  hits : Nat
  deriving DecidableEq, Repr

/-- R135: a FREE entry. -/
def CueEntry.blank : CueEntry where
  state := .free
  code := 0
  selector := .exact
  action := none
  single := false
  tapeWindow := none
  slotWindow := none
  hits := 0

/-- R146: learn mode. -/
inductive LearnMode
  | off
  | on
  | overrun
  deriving DecidableEq, Repr

/-- R146: the kind of an accepted code. -/
inductive CodeKind
  | coded
  | pulse
  deriving DecidableEq, Repr

/-- R146: the record of the Learn Buffer. -/
structure LearnRecord where
  code : CueCode
  kind : CodeKind
  counter : Nat
  sure : Bool
  deriving DecidableEq, Repr

/-- R131: a word held for confirmation with its timer. -/
structure HeldWord where
  code : CueCode
  left : Nat
  deriving DecidableEq, Repr

/-- The Cue Unit (R128 to R150). -/
structure CueUnit where
  rx : CueRx
  holding : Option HeldWord
  /-- R133: the length so far of the burst being timed; none is idle. -/
  burst : Option Nat
  /-- The tone line, true while the pilot tone is present (an input). -/
  tone : Bool
  /-- R135: the Cue Map; place i holds entry i + 1. -/
  map : Vector CueEntry 32
  maskGlobal : CueCode
  maskA : CueCode
  maskB : CueCode
  /-- R132: the options confirm pairs and legacy pulse. -/
  confirm : Bool
  legacy : Bool
  learn : LearnMode
  buffer : Option LearnRecord
  deriving DecidableEq, Repr

/-! ### The Remote Unit -/

/-- R156: the states of a handset entry. -/
inductive HandsetState
  | empty
  | active
  | lapsed
  | blocked
  deriving DecidableEq, Repr

/-- R156: the rights of a handset. -/
inductive Rights
  | full
  | showOnly
  | soundOnly
  deriving DecidableEq, Repr

/-- R156: one entry of the Handset Table. -/
structure Handset where
  state : HandsetState
  id : Option Nat
  rights : Rights
  lastSeq : Nat
  quiet : Nat
  deriving DecidableEq, Repr

/-- R156: an EMPTY entry. -/
def Handset.blank : Handset where
  state := .empty
  id := none
  rights := .full
  lastSeq := 0
  quiet := 0

/-- R158: the pairing window while OPEN. -/
structure PairingWindow where
  rights : Rights
  left : Nat
  deriving DecidableEq, Repr

/-- R161: the console record. -/
structure ConsoleRecord where
  station : Nat
  seq : Nat
  deriving DecidableEq, Repr

/-- R153: the IR receiver; in BYTES with the bytes taken so far and, once its destination byte has completed, whether the
frame is for this projector (R154, R170); false before. -/
inductive IrRx
  | idle
  | leader
  | bytes (taken : List Byte) (mine : Bool)
  deriving DecidableEq, Repr

/-- The Remote Unit (R151 to R169). -/
structure Remote where
  /-- R156: the Handset Table; place i holds entry i + 1. -/
  handsets : Vector Handset 8
  /-- R158: none is CLOSED. -/
  window : Option PairingWindow
  ir : IrRx
  /-- R153: the IR gap timer. -/
  irGap : Option Nat
  console : Option ConsoleRecord
  deriving DecidableEq, Repr

/-! ### The Bus Port -/

/-- R171: a port's receiver; in FRAME with the bytes taken so far and whether the frame is consumed (R172). -/
inductive BusRx
  | quiet
  | frame (taken : List Byte) (consume : Bool)
  | tail
  deriving DecidableEq, Repr

/-- R173, R181: a forwarding state; `sending` holds the bytes put on the sending port so far. -/
inductive Forward
  | none
  | holding
  | sending (bytes : List Byte)
  | abandoned
  deriving DecidableEq, Repr

/-- R175: the status answer in hand. -/
structure StatusAnswer where
  frame : List Byte
  seq : Nat
  sending : Bool
  left : Nat
  deriving DecidableEq, Repr

/-- R177: the phase of the frame in the Origination Slot. -/
inductive OrigPhase
  | waiting
  | sending
  | backoff
  deriving DecidableEq, Repr

/-- R176, R177: the frame in the Origination Slot; origin 0 is HOST, 1..32 a cue entry. -/
structure Origination where
  origin : Nat
  dest : Nat
  key : Nat
  seq : Nat
  frame : List Byte
  phase : OrigPhase
  retries : Nat
  wait : Nat
  deriving DecidableEq, Repr

/-- R180: the port states. -/
inductive PortState
  | active
  | passive
  | silent
  deriving DecidableEq, Repr

/-- The Bus Port (R170 to R182). -/
structure Bus where
  address : Nat
  /-- R170: the own group set; place i is group 24 + i. -/
  groups : Vector Bool 7
  rxIn : BusRx
  rxOut : BusRx
  /-- R173: the forward from IN to OUT. -/
  fwdDown : Forward
  /-- R173: the forward from OUT to IN. -/
  fwdUp : Forward
  answer : Option StatusAnswer
  slot : Option Origination
  /-- R176: the running count. -/
  running : Nat
  /-- R179: the error counter and the good-frame run. -/
  errors : Nat
  goodRun : Nat
  state : PortState
  deriving DecidableEq, Repr

/-! ### The Panel Link -/

/-- R183: the link status. -/
inductive LinkStatus
  | ready
  | busy
  | response
  deriving DecidableEq, Repr

/-- 10_panel_link, Status codes. -/
inductive Status
  | done
  | badRequest
  | badIndex
  | badValue
  | inUse
  | duplicate
  | full
  | queueFull
  | notNow
  | notHomed
  | noTape
  | lampFailed
  deriving DecidableEq, Repr

/-- 10_panel_link, Status codes: a reason carried in a notice argument. -/
inductive Reason
  | status (s : Status)
  | displaced
  | rights
  deriving DecidableEq, Repr

/-- R46: the result of a change. -/
inductive ChangeResult
  | shown
  | dark
  | jammed
  | aborted
  | displaced
  deriving DecidableEq, Repr

/-- R40: the reason of a jam. -/
inductive JamReason
  | stall
  | lifter
  | noIndex
  deriving DecidableEq, Repr

/-- 04_lamp_and_light, Notices: the cause of LAMP_FAIL. -/
inductive LampFault
  | strike
  | current
  deriving DecidableEq, Repr

/-- R101: the cause of THERM_HOT. -/
inductive HotCause
  | temp
  | sensor
  | fan
  deriving DecidableEq, Repr

/-- R117, R118: the cause of TAPE_END. -/
inductive TapeEndCause
  | ended
  | removed
  deriving DecidableEq, Repr

/-- R130: the cause of CUE_BAD. -/
inductive CueFault
  | framing
  | parity
  | reserved
  deriving DecidableEq, Repr

/-- The port a REMOTE_BAD names. -/
inductive RemotePort
  | ir
  | bus
  deriving DecidableEq, Repr

/-- The cause of REMOTE_BAD, in the order of the table of notice arguments. -/
inductive FrameFault
  | length
  | framing
  | gap
  | cut
  | check
  | format
  deriving DecidableEq, Repr

/-- R159: the cause of HANDSET_REFUSED. -/
inductive PairFault
  | blocked
  | full
  deriving DecidableEq, Repr

/-- R177, R180: the cause of RELAY_DROPPED. -/
inductive DropCause
  | wait
  | collision
  | port
  deriving DecidableEq, Repr

/-- 10_panel_link, Notice arguments: the 30 notice kinds in kind order, each with its argument. -/
inductive Notice
  | changeDone (source : Source) (result : ChangeResult)
  | slotEmpty (slot : Nat)
  | jam (reason : JamReason) (slot : Option Nat)
  | slip (distance : Int)
  | trayIn (n : Nat)
  | trayOut
  | trayEnd (n : Nat)
  | gateChanged (slot : Nat)
  | loopDepth (slot : Nat)
  | lampFail (cause : LampFault)
  | lampTrip (left : LampState)
  | exposureGuard (slot : Option Nat) (cls : Nat)
  | thermWarn (t : Int)
  | thermHot (t : Int) (cause : HotCause)
  | sensorFault (raw : Nat)
  | fanFault (speed : Option Nat)
  | saturated (count : Nat)
  | tapeEnd (cause : TapeEndCause) (left : Transport) (counter : Nat)
  | cueHit (entry : Nat) (code : CueCode) (v : Nat)
  | cueMissed (entry : Nat) (reason : Reason)
  | cueBad (cause : CueFault)
  | cueUnmatched (code : CueCode)
  | learnReady (code : CueCode)
  | learnOverrun (code : CueCode)
  | remoteBad (port : RemotePort) (cause : FrameFault)
  | keyRefused (source : Source) (key : Nat) (reason : Reason)
  | handsetPaired (entry id : Nat) (rights : Rights) (old : Option Nat)
  | handsetRefused (id : Nat) (cause : PairFault)
  | relayDropped (origin dest key : Nat) (cause : DropCause)
  | portState (state : PortState) (counter : Nat)
  deriving DecidableEq, Repr

/-- R187: one place of the Notice Set: empty (none) or pending with its latest argument, and the mark "raised
since the latch". -/
structure Place where
  arg : Option Notice
  mark : Bool
  deriving DecidableEq, Repr

/-- The Panel Link (R183 to R192). ATTN is a function of these fields (R188). -/
structure Link where
  status : LinkStatus
  /-- The request buffer: bytes 1..L + 1 of the request frame taken. -/
  reqBuf : List Byte
  /-- The response buffer: the response frame. -/
  respBuf : List Byte
  /-- The bytes the part shifted out in the latest chip-select period (an output). -/
  shifted : List Byte
  /-- R187: the Notice Set; place i is kind i + 1. -/
  notices : Vector Place 30
  /-- R188: the notice mask, true for enabled. -/
  mask : Vector Bool 30
  /-- R189: the latched set; none when there is no latch. -/
  latched : Option (Vector Bool 30)
  /-- R191: the RESET pin is held active (an input). -/
  resetPin : Bool
  deriving DecidableEq, Repr

/-! ### The machine -/

/-- The PS-140: its nine blocks (the Tape and Sound Unit being one) and the commands that are waiting, first in,
first out. -/
structure State where
  changer : Changer
  drive : Drive
  lamp : Lamp
  thermal : Thermal
  tape : Tape
  cue : CueUnit
  remote : Remote
  bus : Bus
  link : Link
  pending : List Instr
  deriving DecidableEq, Repr

/-- No command faults: the manual names no condition that stops the part. (Safe: nothing is hidden by a stop.) -/
inductive Fault
  deriving DecidableEq, Repr

/-- Reasons for which a step has no meaning. -/
inductive Refusal
  /-- Raised by an arm of `exec` whose command has no meaning yet (safe: nothing is claimed of it); no arm raises
  it now. -/
  | notModelled (mnemonic : String)
  deriving DecidableEq, Repr

/-! ### After power-on reset -/

/-- R17, R47: the Changer. -/
def Changer.reset : Changer where
  slots := Vector.replicate 140 SlotRecord.default
  tray := none
  homed := false
  current := none
  state := .noTray
  held := false
  dwell := 0
  dwellDue := false
  loops := []
  run := 0
  skipEmpty := true
  skipBlank := false
  wrap := true
  queue := []
  change := none
  keptLoop := .none

/-- R66: the Tray Drive; its end switches are inputs, read as open here (log 5). -/
def Drive.reset : Drive where
  position := 0
  revolutions := 0
  bridge := .off
  lastDrive := none
  motion := .none
  backingOff := false
  backTally := 0
  afterBrake := .off
  stalls := 0
  corrections := 0
  budget := 0
  watchdog := none
  brakeTimer := none
  swUp := false
  swDown := false
  lifterDrive := .off
  lifterTimer := none
  settleTimer := none
  gate := false
  focus := .stopped
  focusTimer := none
  endIn := false
  endOut := false

/-- R85: the Lamp Controller; the current sense is an input, read as NONE here (log 5). -/
def Lamp.reset : Lamp where
  state := .off
  dest := .off
  attempts := 0
  window := none
  nextStrike := none
  warmUp := 0
  coolDown := 0
  lossTimer := none
  flowing := false
  checkDone := false
  bandView := .normal
  coolFlag := false
  fade := 0
  ramp := none
  darkHold := false
  override := none
  appliedCap := 1000
  delivered := 0
  lightSum := 0
  ticks := 0
  exposure := 0
  govClass := 0
  guard := false
  limits := #v[240000, 480000, 1200000]

/-- R109: the Thermal Snapshot; the demand, for which R109 gives no value, is 0 (log 5). -/
def Snapshot.reset : Snapshot where
  raw := 0
  corrected := 0
  theta := 0
  est := 0
  band := .normal
  namedCap := 1000
  duty := 1000
  demand := 0
  speed := none
  active := 0
  next := none
  saturated := false
  sensor := .good
  fan := .good 0
  line := none
  count := 0

/-- R109: the Thermal Unit. -/
def Thermal.reset : Thermal where
  cal := { offset := 0, gain := 2000, zero := -160 }
  sample := none
  handover := none
  line := none
  est := 0
  profiles := #v[Profile.zeroth, Profile.blank, Profile.blank, Profile.blank, Profile.blank, Profile.blank,
    Profile.blank, Profile.blank]
  active := 0
  next := none
  band := .normal
  namedCap := 1000
  duty := 1000
  sensor := .good
  fan := .good 0
  tachInterval := none
  tachSilence := 101
  saturated := false
  count := 0
  snapshot := Snapshot.reset

/-- R126: the Tape and Sound Unit. -/
def Tape.reset : Tape where
  transport := .noTape
  runDown := none
  counter := 0
  sure := false
  residue := 0
  endTimer := none
  reelTimer := none
  base := 0
  baseRamp := none
  duckOn := false
  duckDepth := 20
  duckTerm := 0
  duckRamp := none
  mute := true
  output := none

/-- R149: the Cue Unit; the tone line is an input, read as absent here (log 5). -/
def CueUnit.reset : CueUnit where
  rx := .idle
  holding := none
  burst := none
  tone := false
  map := Vector.replicate 32 CueEntry.blank
  maskGlobal := 4095
  maskA := 4095
  maskB := 4095
  confirm := true
  legacy := true
  learn := .off
  buffer := none

/-- R168: the Remote Unit. -/
def Remote.reset : Remote where
  handsets := Vector.replicate 8 Handset.blank
  window := none
  ir := .idle
  irGap := none
  console := none

/-- R182: the Bus Port. -/
def Bus.reset : Bus where
  address := 1
  groups := Vector.replicate 7 false
  rxIn := .tail
  rxOut := .tail
  fwdDown := .none
  fwdUp := .none
  answer := none
  slot := none
  running := 0
  errors := 0
  goodRun := 0
  state := .active

/-- R187: an empty place. -/
def Place.empty : Place := { arg := none, mark := false }

/-- R191: the Panel Link at the release of the RESET pin. -/
def Link.reset : Link where
  status := .ready
  reqBuf := []
  respBuf := []
  shifted := []
  notices := Vector.replicate 30 Place.empty
  mask := Vector.replicate 30 true
  latched := none
  resetPin := false

/-- The machine right after power-on reset, before any of its filters has run (R17, R66, R126), with no command
waiting. -/
def State.reset : State where
  changer := Changer.reset
  drive := Drive.reset
  lamp := Lamp.reset
  thermal := Thermal.reset
  tape := Tape.reset
  cue := CueUnit.reset
  remote := Remote.reset
  bus := Bus.reset
  link := Link.reset
  pending := []

end Sys2Proof.Machine
end

