-- ==== Sys2Proof/Machine/Ops.lean ====
section
/-! DEFINITION. Operations every block shares: a named update of each block, raising a notice, reading and writing
the numbered tables, the ramp arithmetic of R78, and answering a host request over the Panel Link. -/

namespace Sys2Proof.Machine

/-! ### One named update per block -/

/-- Change the Changer Controller alone. -/
def State.onChanger (f : Changer → Changer) (s : State) : State := { s with changer := f s.changer }
/-- Change the Tray Drive alone. -/
def State.onDrive (f : Drive → Drive) (s : State) : State := { s with drive := f s.drive }
/-- Change the Lamp Controller alone. -/
def State.onLamp (f : Lamp → Lamp) (s : State) : State := { s with lamp := f s.lamp }
/-- Change the Thermal Unit alone. -/
def State.onThermal (f : Thermal → Thermal) (s : State) : State := { s with thermal := f s.thermal }
/-- Change the Tape and Sound Unit alone. -/
def State.onTape (f : Tape → Tape) (s : State) : State := { s with tape := f s.tape }
/-- Change the Cue Unit alone. -/
def State.onCue (f : CueUnit → CueUnit) (s : State) : State := { s with cue := f s.cue }
/-- Change the Remote Unit alone. -/
def State.onRemote (f : Remote → Remote) (s : State) : State := { s with remote := f s.remote }
/-- Change the Bus Port alone. -/
def State.onBus (f : Bus → Bus) (s : State) : State := { s with bus := f s.bus }
/-- Change the Panel Link alone. -/
def State.onLink (f : Link → Link) (s : State) : State := { s with link := f s.link }

/-! ### Notices (R187) -/

/-- The place of a notice's kind in the Notice Set: its kind number less 1 (table of notice arguments). -/
def Notice.place : Notice → Fin 30
  | .changeDone _ _ => 0
  | .slotEmpty _ => 1
  | .jam _ _ => 2
  | .slip _ => 3
  | .trayIn _ => 4
  | .trayOut => 5
  | .trayEnd _ => 6
  | .gateChanged _ => 7
  | .loopDepth _ => 8
  | .lampFail _ => 9
  | .lampTrip _ => 10
  | .exposureGuard _ _ => 11
  | .thermWarn _ => 12
  | .thermHot _ _ => 13
  | .sensorFault _ => 14
  | .fanFault _ => 15
  | .saturated _ => 16
  | .tapeEnd _ _ _ => 17
  | .cueHit _ _ _ => 18
  | .cueMissed _ _ => 19
  | .cueBad _ => 20
  | .cueUnmatched _ => 21
  | .learnReady _ => 22
  | .learnOverrun _ => 23
  | .remoteBad _ _ => 24
  | .keyRefused _ _ _ => 25
  | .handsetPaired _ _ _ _ => 26
  | .handsetRefused _ _ => 27
  | .relayDropped _ _ _ _ => 28
  | .portState _ _ => 29

/-- R187: raising a notice makes its place pending with the latest argument and sets the mark. -/
def raise (n : Notice) (s : State) : State :=
  s.onLink fun l => { l with notices := l.notices.set n.place.val { arg := some n, mark := true } n.place.isLt }

/-! ### The numbered tables -/

/-- R16: the tray size of a lug code. -/
def TraySize.ofLugs (code : BitVec 2) : TraySize :=
  match code.toNat with
  | 0 => .n50
  | 1 => .n80
  | 2 => .n100
  | _ => .n140

/-- R16: the number of slots N of a tray. -/
def TraySize.slots : TraySize → Nat
  | .n50 => 50
  | .n80 => 80
  | .n100 => 100
  | .n140 => 140

/-- R16: the lug code of a tray. -/
def TraySize.lugs : TraySize → Nat
  | .n50 => 0
  | .n80 => 1
  | .n100 => 2
  | .n140 => 3

/-- The record of slot n; a number outside 1..140 names none and reads as the defaults. -/
def Changer.slot (c : Changer) (n : Nat) : SlotRecord :=
  if h : 1 ≤ n ∧ n ≤ 140 then c.slots[n - 1] else SlotRecord.default

/-- The Changer with slot n's record replaced; nothing for a number outside 1..140. -/
def Changer.setSlot (c : Changer) (n : Nat) (r : SlotRecord) : Changer :=
  if h : 1 ≤ n ∧ n ≤ 140 then { c with slots := c.slots.set (n - 1) r } else c

/-- R8: the occupancy of slot n, set. -/
def Changer.setOccupancy (c : Changer) (n : Nat) (o : Occupancy) : Changer :=
  c.setSlot n { c.slot n with occupancy := o }

/-- Entry n of the Cue Map; a number outside 1..32 reads as FREE. -/
def CueUnit.entry (u : CueUnit) (n : Nat) : CueEntry :=
  if h : 1 ≤ n ∧ n ≤ 32 then u.map[n - 1] else CueEntry.blank

/-- The Cue Unit with entry n replaced. -/
def CueUnit.setEntry (u : CueUnit) (n : Nat) (e : CueEntry) : CueUnit :=
  if h : 1 ≤ n ∧ n ≤ 32 then { u with map := u.map.set (n - 1) e } else u

/-- Entry n of the Handset Table; a number outside 1..8 reads as EMPTY. -/
def Remote.handset (r : Remote) (n : Nat) : Handset :=
  if h : 1 ≤ n ∧ n ≤ 8 then r.handsets[n - 1] else Handset.blank

/-- The Remote Unit with handset entry n replaced. -/
def Remote.setHandset (r : Remote) (n : Nat) (e : Handset) : Remote :=
  if h : 1 ≤ n ∧ n ≤ 8 then { r with handsets := r.handsets.set (n - 1) e } else r

/-- R96: the active profile. -/
def Thermal.profile (t : Thermal) : Profile := t.profiles[t.active]

/-- R83: the limit in force for a class; 0 is no limit, and class 3 (or a number above) holds none. -/
def Lamp.limit (l : Lamp) (cls : Nat) : Nat :=
  if h : cls < 3 then l.limits[cls] else 0

/-! ### Numbers -/

/-- 00_scope, Arithmetic: clamped to lo..hi. -/
def clampInt (lo hi x : Int) : Int := if x < lo then lo else if hi < x then hi else x

/-- A count that saturates at m. -/
def satAdd (m x d : Nat) : Nat := min m (x + d)

/-- R78: the value of a ramp at step k: a + (b − a) × k / n, truncated toward zero; exactly b at step n. -/
def Ramp.value (r : Ramp) (k : Nat) : Nat :=
  if r.n ≤ k then r.b else ((r.a : Int) + (((r.b : Int) - r.a) * k).tdiv r.n).toNat

/-- R78: one step counted; no steps are counted past the last. -/
def Ramp.next (r : Ramp) : Ramp := { r with k := min r.n (r.k + 1) }

/-- R78: the ramp stands at its last step. -/
def Ramp.done (r : Ramp) : Bool := r.n ≤ r.k

/-- A millisecond taken off a running timer, which stands at 0 until its expiry is taken (log 3). -/
def countDown (t : Option Nat) : Option Nat := t.map (· - 1)

/-! ### Answering a host request (R184, R185) -/

/-- What an owner answers a host request with: the state after it, a status code and the payload. -/
structure Reply where
  state : State
  status : Status
  payload : List Byte

/-- 10_panel_link, Status codes: the number of a status code. -/
def Status.code : Status → Nat
  | .done => 0
  | .badRequest => 1
  | .badIndex => 2
  | .badValue => 3
  | .inUse => 4
  | .duplicate => 5
  | .full => 6
  | .queueFull => 7
  | .notNow => 8
  | .notHomed => 9
  | .noTape => 10
  | .lampFailed => 11

/-- A request refused with a status code: nothing else changes (R2 and each request's entry). -/
def refuse (st : Status) (s : State) : Reply := { state := s, status := st, payload := [] }

/-- A request taken, answered DONE with a payload. -/
def answer (s : State) (payload : List Byte := []) : Reply := { state := s, status := .done, payload := payload }

/-- What comes of an offer made to an owner by the host, a key or a cue action: the state after it and a status
code, DONE when it is taken. -/
abbrev Offer := State × Status

/-- The offer is taken. -/
def taken (s : State) : Offer := (s, .done)

/-- The offer is refused with a status code, and nothing changes. -/
def turnedAway (st : Status) (s : State) : Offer := (s, st)

/-- The host's answer to an offer. -/
def Reply.ofOffer (o : Offer) : Reply := { state := o.1, status := o.2, payload := [] }

/-- R185: the response frame: L = 4 plus the payload count, the request code answered, the status code, the
payload, and the two checks. A status other than DONE carries no payload. -/
def responseFrame (code : Nat) (st : Status) (payload : List Byte) : List Byte :=
  let p := if st = .done then payload else []
  withSums (u8 (4 + p.length) ++ u8 code ++ u8 st.code ++ p)

/-- R185: the answer is put in the response buffer and the link status becomes RESPONSE. -/
def respond (code : Nat) (st : Status) (payload : List Byte) (s : State) : State :=
  s.onLink fun l => { l with status := .response, reqBuf := [], respBuf := responseFrame code st payload }

/-- R183, R184, R191: the owner's taking of request c can happen: the RESET pin is not held, and the link is BUSY with
that very request in hand, or READY, in which case the command stands for its request frame as well (log 2). -/
def Link.accepts (l : Link) (c : Instr) : Bool :=
  !l.resetPin &&
  match l.status with
  | .ready => true
  | .busy => decodeRequest l.reqBuf == some c
  | .response => false

/-- A host request taken by its owner and answered; ignored whole while the link cannot carry it (R183). -/
def hostRequest (c : Instr) (owner : State → Reply) (s : State) : Host.Outcome State Fault Refusal :=
  if s.link.accepts c then
    let r := owner s
    .next (respond (requestCode c) r.status r.payload r.state)
  else .next s

end Sys2Proof.Machine
end

