-- ==== Sys2Proof/Machine/Flags.lean ====
section
/-! DEFINITION. The values the part derives from its state at once: ATTN, the lamp and tape lines, the positions the
switches show, the window tests of the tray, and the other flags the rules compute. -/

namespace Sys2Proof.Machine

/-! ### Panel Link -/

/-- R188: ATTN is asserted while a pending place is of an enabled kind; R191: it is deasserted while the RESET pin is
held. -/
def Link.attn (l : Link) : Bool :=
  !l.resetPin && (List.finRange 30).any (fun i => l.notices[i].arg.isSome && l.mask[i])

/-! ### Changer -/

/-- R10: the number N of slots of the tray present, 0 with none. -/
def Changer.size (c : Changer) : Nat :=
  match c.tray with
  | none => 0
  | some t => t.slots

/-- R10: the current slot's record, if there is a current slot. -/
def Changer.currentSlot (c : Changer) : Option SlotRecord := c.current.map c.slot

/-- R41: the conditions under which the dwell timer counts. -/
def Changer.dwellRuns (c : Changer) : Bool :=
  c.state == .showing && !c.held && c.queue.isEmpty &&
  match c.currentSlot with
  | none => false
  | some r => r.dwell != 0

/-! ### Tray Drive -/

/-- R58: the lifter position the end switches show. -/
def Drive.lifter (d : Drive) : LifterPosition :=
  if d.swUp && !d.swDown then .up else if !d.swUp && d.swDown then .down else .moving

/-- R49: the modulus of the position counter, 24N, or 0 with no tray. -/
def modulus (n : Nat) : Nat := 24 * n

/-- R49: the signed distance from a target to a count, taken modulo 24N into −12N..12N−1. -/
def signedDistance (n count target : Nat) : Int :=
  ((count : Int) - target + 12 * n) % (24 * n) - 12 * n

/-- R49: the count lies in the window of the target. -/
def inWindow (n count target : Nat) : Bool :=
  decide (-2 ≤ signedDistance n count target) && decide (signedDistance n count target ≤ 2)

/-- The bridge drives the motor (FORWARD or BACKWARD; BRAKE is not drive, R52). -/
def Bridge.drives : Bridge → Bool
  | .off => false
  | .forward => true
  | .backward => true
  | .brake => false

/-- R52: the bridge's gate-drive outputs: the high and the low side of its left and of its right leg (pins LHI, LLO,
RHI and RLO). -/
structure BridgeLines where
  lhi : Bool
  llo : Bool
  rhi : Bool
  rlo : Bool
  deriving DecidableEq, Repr

/-- R52: the sides that are on in a state of the bridge. -/
def Bridge.lines : Bridge → BridgeLines
  | .off => { lhi := false, llo := false, rhi := false, rlo := false }
  | .forward => { lhi := true, llo := false, rhi := false, rlo := true }
  | .backward => { lhi := false, llo := true, rhi := true, rlo := false }
  | .brake => { lhi := false, llo := true, rhi := false, rlo := true }

/-- R52: the sides on in both of two settings. -/
def BridgeLines.common (a b : BridgeLines) : BridgeLines :=
  { lhi := a.lhi && b.lhi, llo := a.llo && b.llo, rhi := a.rhi && b.rhi, rlo := a.rlo && b.rlo }

/-- R52: each leg has at most one side on. -/
def BridgeLines.legsApart (b : BridgeLines) : Bool := !(b.lhi && b.llo) && !(b.rhi && b.rlo)

/-- R52, side order: what the outputs show, in turn, as the bridge moves between states: first the sides the new state
does not use are off, then the sides it adds are on. -/
def Bridge.switching (old new : Bridge) : List BridgeLines := [old.lines.common new.lines, new.lines]

/-- R62: a tray motion is in progress: a TURN, a HOME, a back-off, or a bridge not OFF. -/
def Drive.trayMotion (d : Drive) : Bool := d.motion != .none || d.bridge != .off

/-- R62: the focus motor is running. -/
def Focus.isRunning : Focus → Bool
  | .running _ _ => true
  | .stopped => false
  | .pausing _ _ => false

/-- R62: the end switch of a focus direction is closed. -/
def Drive.endClosed (d : Drive) (dir : FocusDir) : Bool :=
  match dir with
  | .inward => d.endIn
  | .outward => d.endOut

/-! ### Lamp Controller -/

/-- R67 and the table of lamp states: the supply line is on. -/
def Lamp.supply (l : Lamp) : Bool :=
  match l.state with
  | .striking => l.window.isSome
  | .warming => true
  | .run => true
  | .off => false
  | .cooldown => false
  | .failed => false

/-- The lamp is lit: WARMING or RUN (R76). -/
def Lamp.lit (l : Lamp) : Bool := l.state == .warming || l.state == .run

/-- The lamp is lit or striking (R69, R70). -/
def Lamp.active (l : Lamp) : Bool := l.lit || l.state == .striking

/-- R72: the warm cap: 1000 in RUN, 500 in every other state. -/
def Lamp.warmCap (l : Lamp) : Nat := if l.state = .run then 1000 else 500

/-- R74: the cool-down is done: not in COOLDOWN, or in COOLDOWN with the timer at 0. -/
def Lamp.coolDone (l : Lamp) : Bool := l.state != .cooldown || l.coolDown == 0

/-- R76: the base level: the light override if present, otherwise the current slot's light level, otherwise 0. -/
def baseLevel (s : State) : Nat :=
  match s.lamp.override with
  | some v => v
  | none =>
    match s.changer.currentSlot with
    | some r => r.light
    | none => 0

/-- R76: the delivered light L the light chain gives at a fade tick. -/
def lightChain (s : State) : Nat :=
  if !s.lamp.lit || !s.drive.gate || s.drive.lifter != .down || s.lamp.darkHold then 0
  else
    let l := min (min (min s.lamp.fade (baseLevel s)) s.lamp.warmCap) s.lamp.appliedCap
    if s.lamp.guard then min l s.thermal.profile.guardLevel else l

/-! ### Thermal Unit -/

/-- R90: the sensor state is FAULT. -/
def SensorState.isFault : SensorState → Bool
  | .fault _ _ => true
  | .good => false
  | .suspect => false

/-- R107: the fan-fault state is FAULT. -/
def FanState.isFault : FanState → Bool
  | .fault _ _ => true
  | .good _ => false

/-- R107: the fan speed in rpm: 30,000,000 over the interval, truncated and saturating at 30,000; none if no pulse has
come for more than 100 ms. -/
def Thermal.speed (t : Thermal) : Option Nat :=
  if t.tachSilence > Config.tachSlowMs then none
  else t.tachInterval.map (fun us => if us = 0 then 30000 else min 30000 (30000000 / us))

/-- R107: the tach is SLOW: the last interval exceeds 100 ms, or no pulse has come for more than 100 ms. -/
def Thermal.tachSlow (t : Thermal) : Bool :=
  t.tachSilence > Config.tachSlowMs ||
  match t.tachInterval with
  | none => false
  | some us => us > Config.tachSlowMs * 1000

/-- R101: the named cap of a band under a profile. -/
def Band.cap (p : Profile) : Band → Nat
  | .normal => 1000
  | .warm => p.warmCap
  | .hot => p.hotCap
  | .trip => 0

/-! ### Tape and Sound Unit -/

/-- R111: the four command lines DRIVE, ENGAGE, FAST_F and FAST_B of a transport state. -/
def Transport.lines : Transport → Bool × Bool × Bool × Bool
  | .noTape => (false, false, false, false)
  | .stopped => (false, false, false, false)
  | .playing => (true, true, false, false)
  | .paused => (true, false, false, false)
  | .windingFwd => (false, false, true, false)
  | .windingBack => (false, false, false, true)

/-- R117: the transport is winding. -/
def Transport.winding : Transport → Bool
  | .windingFwd => true
  | .windingBack => true
  | .noTape => false
  | .stopped => false
  | .playing => false
  | .paused => false

/-- R121: the output the attenuation terms give: MUTE when mute is ON or the sum is 120 or more. -/
def Tape.mix (t : Tape) : Option Nat :=
  if t.mute || 120 ≤ t.base + t.duckTerm then none else some (t.base + t.duckTerm)

/-! ### Cue Unit -/

/-- R128: the PLAYING gate is open. -/
def cueGateOpen (s : State) : Bool := s.tape.transport == .playing

/-- R136: the mask a selector names. -/
def CueUnit.mask (u : CueUnit) : Selector → CueCode
  | .exact => 4095
  | .global => u.maskGlobal
  | .localA => u.maskA
  | .localB => u.maskB

/-- R136: two codes agree in every bit where the mask has a 1. -/
def codesMatch (mask a b : CueCode) : Bool := a &&& mask == b &&& mask

/-- R135: a number lies in a window; an absent window holds every number. -/
def Window.holds (w : Option Window) (n : Option Nat) : Bool :=
  match w with
  | none => true
  | some w =>
    match n with
    | none => false
    | some x => w.lo ≤ x && x ≤ w.hi

/-! ### Bus Port -/

/-- R173: the forward is putting bytes on its sending port. -/
def Forward.isSending : Forward → Bool
  | .sending _ => true
  | .none => false
  | .holding => false
  | .abandoned => false

/-- R175, R177: no forward is under way in this direction (one that was abandoned sends nothing more). DESIGN CHOICE
(log 21): a length byte held before its destination byte already counts as a forward under way. -/
def Forward.idle : Forward → Bool
  | .none => true
  | .abandoned => true
  | .holding => false
  | .sending _ => false

/-- R177: the frame in the Origination Slot is being sent on OUT. -/
def Bus.originating (b : Bus) : Bool :=
  match b.slot with
  | none => false
  | some o => o.phase == .sending

/-- R175: the status answer is being sent on IN. -/
def Bus.answering (b : Bus) : Bool :=
  match b.answer with
  | none => false
  | some a => a.sending

/-- R171: the port itself transmits. -/
def Bus.transmits (b : Bus) : Port → Bool
  | .out => b.fwdDown.isSending || b.originating
  | .inn => b.fwdUp.isSending || b.answering

/-- R171: the receiver of a port. -/
def Bus.rx (b : Bus) : Port → BusRx
  | .inn => b.rxIn
  | .out => b.rxOut

/-- The Bus Port with a port's receiver set. -/
def Bus.setRx (b : Bus) (p : Port) (r : BusRx) : Bus :=
  match p with
  | .inn => { b with rxIn := r }
  | .out => { b with rxOut := r }

/-- R173: the forward fed by a receiving port. -/
def Bus.fwdFrom (b : Bus) : Port → Forward
  | .inn => b.fwdDown
  | .out => b.fwdUp

/-- The Bus Port with the forward fed by a receiving port set. -/
def Bus.setFwdFrom (b : Bus) (p : Port) (f : Forward) : Bus :=
  match p with
  | .inn => { b with fwdDown := f }
  | .out => { b with fwdUp := f }

/-- The other port. -/
def otherPort : Port → Port
  | .inn => .out
  | .out => .inn

/-- R170: a group number is in the own group set. -/
def Bus.inGroup (b : Bus) (g : Nat) : Bool :=
  if h : 24 ≤ g ∧ g ≤ 30 then b.groups[g - 24] else false

end Sys2Proof.Machine
end

