-- ==== Sys2Proof/Machine/Operands.lean ====
section
/-! DEFINITION. Operand forms: the checks of the values a host request carries, the records they make, and the
number each named value has in a payload or a notice argument (Record layouts: an enumerated field carries the
position of its value in the list of its own chapter). -/

namespace Sys2Proof.Machine

/-- 00_scope, Ranges: the temperature range in eighths. -/
def inTempRange (t : Int) : Bool := decide (-320 ≤ t) && decide (t ≤ 3200)

/-- An on/off value: 1, 0, or neither. -/
def onOff : Nat → Option Bool
  | 0 => some false
  | 1 => some true
  | _ => none

/-- An option value of a set is absent, on or off. -/
def optionInRange : Option Nat → Bool
  | none => true
  | some v => (onOff v).isSome

/-- An option takes the value named for it, and keeps its own when it is not named. -/
def optionTake (old : Bool) : Option Nat → Bool
  | none => old
  | some v => v == 1

/-! ### Slot records (R1, R2) -/

/-- R1: a tape mark from its list position. -/
def TapeMark.fromCode : Nat → Option TapeMark
  | 0 => some .none
  | 1 => some .play
  | 2 => some .pause
  | _ => Option.none

/-- R2 step 3: a loop mark from its list position and count: LOOP-START carries 1..255, the others carry no count. -/
def LoopMark.fromCode (mark count : Nat) : Option LoopMark :=
  match mark with
  | 0 => if count = 0 then some .none else Option.none
  | 1 => if 1 ≤ count ∧ count ≤ 255 then some (.start count) else Option.none
  | 2 => if count = 0 then some .close else Option.none
  | _ => Option.none

/-- R2 step 1: the field set names at least one programmable field. -/
def fieldSetAny (f : FieldSet) : Bool :=
  f.dwell || f.fadeOut || f.fadeIn || f.light || f.cls || f.sound || f.tapeMark || f.hold || f.loop

/-- R2 step 3: every named value lies within the range of its field in the table of R1. -/
def slotValuesInRange (f : FieldSet) (v : SlotValues) : Bool :=
  (!f.dwell || v.dwell ≤ 9999) && (!f.fadeOut || v.fadeOut ≤ 500) && (!f.fadeIn || v.fadeIn ≤ 500) &&
  (!f.light || v.light ≤ 1000) && (!f.cls || v.cls ≤ 3) && (!f.sound || v.sound ≤ 120 || v.sound = 255) &&
  (!f.tapeMark || v.tapeMark ≤ 2) && (!f.hold || v.hold ≤ 1) &&
  (!f.loop || (LoopMark.fromCode v.loop v.loopCount).isSome)

/-- R2 step 2: a slot number lies within 1..140. -/
def slotInRange (n : Nat) : Bool := 1 ≤ n && n ≤ 140

/-- R3: the named values replace the record's fields and the record becomes PROGRAMMED. -/
def SlotRecord.write (r : SlotRecord) (f : FieldSet) (v : SlotValues) : SlotRecord where
  programmed := true
  occupancy := r.occupancy
  dwell := if f.dwell then v.dwell else r.dwell
  fadeOut := if f.fadeOut then v.fadeOut else r.fadeOut
  fadeIn := if f.fadeIn then v.fadeIn else r.fadeIn
  light := if f.light then v.light else r.light
  cls := if f.cls then v.cls else r.cls
  sound := if f.sound then (if v.sound = 255 then none else some v.sound) else r.sound
  tapeMark := if f.tapeMark then (TapeMark.fromCode v.tapeMark).getD r.tapeMark else r.tapeMark
  hold := if f.hold then v.hold == 1 else r.hold
  loop := if f.loop then (LoopMark.fromCode v.loop v.loopCount).getD r.loop else r.loop

/-- R5: the defaults of R1 and BLANK, keeping the occupancy. -/
def SlotRecord.retire (r : SlotRecord) : SlotRecord := { SlotRecord.default with occupancy := r.occupancy }

/-- R4: slot n lies in the range first..last, which wraps from 140 to 1 when first is above last. -/
def inSlotRange (first last n : Nat) : Bool :=
  if first ≤ last then first ≤ n && n ≤ last else first ≤ n || n ≤ last

/-- R4: the count of records a range holds. -/
def slotRangeCount (first last : Nat) : Nat :=
  if first ≤ last then last - first + 1 else 140 - first + 1 + last

/-- R4, R5: every record of a range changed as one event. -/
def Changer.mapSlots (c : Changer) (first last : Nat) (f : SlotRecord → SlotRecord) : Changer :=
  { c with slots := Vector.ofFn (fun i : Fin 140 =>
      if inSlotRange first last (i.val + 1) then f c.slots[i] else c.slots[i]) }

/-! ### Profiles (R96) -/

/-- R96: every field lies in its range and the orderings hold. -/
def profileValuesInRange (v : ProfileValues) : Bool :=
  v.c.toList.all fitsSignedWord && fitsSignedWord v.cP && fitsSignedWord v.cF && 12 ≤ v.q && v.q ≤ 15 &&
  inTempRange v.tset && v.k ≤ 255 && v.floor ≤ 1000 && 10 ≤ v.slew && v.slew ≤ 1000 &&
  inTempRange v.w && inTempRange v.h && inTempRange v.x && v.w < v.h && v.h < v.x &&
  v.warmCap ≤ 1000 && v.hotCap ≤ v.warmCap && 30 ≤ v.coolTime && v.coolTime ≤ 600 &&
  inTempRange v.coolLimit && v.coolLimit < v.w && v.guardLevel ≤ 1000

/-- R97: the profile written, VALID. -/
def Profile.ofValues (v : ProfileValues) : Profile where
  valid := true
  c := v.c
  cP := v.cP
  cF := v.cF
  q := v.q
  tset := v.tset
  k := v.k
  floor := v.floor
  slew := v.slew
  w := v.w
  h := v.h
  x := v.x
  warmCap := v.warmCap
  hotCap := v.hotCap
  coolTime := v.coolTime
  coolLimit := v.coolLimit
  guardLevel := v.guardLevel

/-- A profile number 0..7. -/
def profileIndex (p : Nat) : Option (Fin 8) := if h : p < 8 then some ⟨p, h⟩ else none

/-! ### Keys (R163) -/

/-- R163: the number of arguments of a key code of the key table 1..19. -/
def keyArgs (key : Nat) : Option Nat :=
  if key = 0 ∨ 19 < key then none
  else if key = 3 then some 1
  else if key = 19 then some 4
  else some 0

/-- R163: the key acts on repeats: LIGHT+, LIGHT−, FOCUS IN, FOCUS OUT, VOL+ and VOL−. -/
def keyRepeats (key : Nat) : Bool := 5 ≤ key && key ≤ 10

/-- R162: the key is allowed under the rights of the handset's entry. -/
def Rights.allows : Rights → Nat → Bool
  | .full, key => 1 ≤ key && key ≤ 17
  | .showOnly, key => 1 ≤ key && key ≤ 8
  | .soundOnly, key => 9 ≤ key && key ≤ 14

/-- R135, R176: a key another projector may be sent: of the key table, other than PAIR and STATUS-ANSWER. -/
def keySendable (key : Nat) : Bool := (keyArgs key).isSome && key != 17 && key != 19

/-! ### Cue entries (R135, R137) -/

/-- R136: a selector from its list position. -/
def Selector.fromCode : Nat → Option Selector
  | 0 => some .exact
  | 1 => some .global
  | 2 => some .localA
  | 3 => some .localB
  | _ => none

/-- R137: the state wanted, ARMED or PAUSED, from its list position. -/
def CueState.wanted : Nat → Option CueState
  | 1 => some .armed
  | 2 => some .paused
  | _ => none

/-- R135: a cue action from its number and its argument bytes; none where an argument lies outside its range.
Bytes the action does not use are not read (log 10). -/
def cueActionOf (v : CueImage) : Option CueAction :=
  match v.action with
  | 1 =>
    if 1 ≤ v.a1 ∧ v.a1 ≤ 9 then
      if v.a0 = 0 then some (.step v.a1) else if v.a0 = 1 then some (.step (-(v.a1 : Int))) else none
    else none
  | 2 =>
    let n := v.a0 * 256 + v.a1
    if 1 ≤ n ∧ n ≤ 140 then some (.goto n) else none
  | 3 => some .hold
  | 4 => some .resume
  | 5 =>
    let n := v.a0 * 256 + v.a1
    if n ≤ 1000 then some (.light n) else none
  | 6 => if v.a0 ≤ 7 then some (.profile v.a0) else none
  | 7 => if v.a0 ≤ 120 then some (.gain v.a0) else none
  | 8 => (onOff v.a0).map .duck
  | 9 => some .tapePause
  | 10 =>
    if 1 ≤ v.a0 ∧ v.a0 ≤ 31 ∧ keySendable v.a1 ∧ keyArgs v.a1 = some v.a2 ∧ v.a2 ≤ 1 ∧ v.a3 ≤ 255 then
      some (.relay v.a0 v.a1 (if v.a2 = 1 then some v.a3 else none))
    else none
  | 11 => if v.a0 ≤ 255 then some (.notify v.a0) else none
  | _ => none

/-- R135: a window from its present byte and ends; the outer none is a value outside its range. R184 carries the ends of an
absent window as 0 and does not say what others do; the model ignores them (DESIGN CHOICE, log 10). -/
def windowOf (present lo hi minimum maximum : Nat) : Option (Option Window) :=
  match present with
  | 0 => some none
  | 1 => if minimum ≤ lo ∧ hi ≤ maximum ∧ lo ≤ hi then some (some { lo := lo, hi := hi }) else none
  | _ => none

/-- R137 step 2: the entry as written, with the hit count 0 and in the state wanted; none where the state wanted, a
field or an argument lies outside its range. -/
def cueEntryOf (v : CueImage) : Option CueEntry := do
  let state ← CueState.wanted v.want
  let selector ← Selector.fromCode v.selector
  let action ← cueActionOf v
  let single ← onOff v.single
  let tape ← windowOf v.tapePresent v.tapeFrom v.tapeTo 0 65535
  let slot ← windowOf v.slotPresent v.slotLo v.slotHi 1 140
  if v.code ≤ 4095 then
    some { state := state, code := BitVec.ofNat 12 v.code, selector := selector, action := some action,
           single := single, tapeWindow := tape, slotWindow := slot, hits := 0 }
  else none

/-! ### Handsets (R156) -/

/-- R158, R165: rights from their list position. -/
def Rights.fromCode : Nat → Option Rights
  | 0 => some .full
  | 1 => some .showOnly
  | 2 => some .soundOnly
  | _ => none

/-- R164: an entry number of the Handset Table. -/
def handsetInRange (n : Nat) : Bool := 1 ≤ n && n ≤ 8

/-- R137: an entry number of the Cue Map. -/
def cueInRange (n : Nat) : Bool := 1 ≤ n && n ≤ 32

/-! ### List positions (Record layouts) -/

def Occupancy.code : Occupancy → Nat
  | .unknown => 0
  | .present => 1
  | .empty => 2
  | .jammed => 3

def TapeMark.code : TapeMark → Nat
  | .none => 0
  | .play => 1
  | .pause => 2

/-- A loop mark's list position and its count. -/
def LoopMark.code : LoopMark → Nat × Nat
  | .none => (0, 0)
  | .start c => (1, c)
  | .close => (2, 0)

/-- R175: the changer state's number. -/
def ChangerState.code : ChangerState → Nat
  | .noTray => 0
  | .unhomed => 1
  | .homing => 2
  | .showing => 3
  | .fadingOut => 4
  | .lifting => 5
  | .rotating => 6
  | .dropping => 7
  | .settling => 8
  | .fadingIn => 9
  | .jammed => 10

/-- R175: the lamp state's number. -/
def LampState.code : LampState → Nat
  | .off => 0
  | .striking => 1
  | .warming => 2
  | .run => 3
  | .cooldown => 4
  | .failed => 5

/-- R175: the band's number. -/
def Band.code : Band → Nat
  | .normal => 0
  | .warm => 1
  | .hot => 2
  | .trip => 3

def Transport.code : Transport → Nat
  | .noTape => 0
  | .stopped => 1
  | .playing => 2
  | .paused => 3
  | .windingFwd => 4
  | .windingBack => 5

def PendingMotion.code : PendingMotion → Nat
  | .none => 0
  | .playing => 1
  | .windingFwd => 2
  | .windingBack => 3

def Bridge.code : Bridge → Nat
  | .off => 0
  | .forward => 1
  | .backward => 2
  | .brake => 3

def LifterPosition.code : LifterPosition → Nat
  | .up => 0
  | .down => 1
  | .moving => 2

def LifterDrive.code : LifterDrive → Nat
  | .upward => 0
  | .downward => 1
  | .off => 2

def focusDirCode : FocusDir → Nat
  | .inward => 0
  | .outward => 1

def focusDirOf : Nat → Option FocusDir
  | 0 => some .inward
  | 1 => some .outward
  | _ => none

def FocusRun.code : FocusRun → Nat
  | .key => 0
  | .host _ => 1

def CueState.code : CueState → Nat
  | .free => 0
  | .armed => 1
  | .paused => 2
  | .spent => 3

def Selector.code : Selector → Nat
  | .exact => 0
  | .global => 1
  | .localA => 2
  | .localB => 3

def LearnMode.code : LearnMode → Nat
  | .off => 0
  | .on => 1
  | .overrun => 2

def CodeKind.code : CodeKind → Nat
  | .coded => 0
  | .pulse => 1

def HandsetState.code : HandsetState → Nat
  | .empty => 0
  | .active => 1
  | .lapsed => 2
  | .blocked => 3

def Rights.code : Rights → Nat
  | .full => 0
  | .showOnly => 1
  | .soundOnly => 2

def PortState.code : PortState → Nat
  | .active => 0
  | .passive => 1
  | .silent => 2

def OrigPhase.code : OrigPhase → Nat
  | .waiting => 0
  | .sending => 1
  | .backoff => 2

def ChangeResult.code : ChangeResult → Nat
  | .shown => 0
  | .dark => 1
  | .jammed => 2
  | .aborted => 3
  | .displaced => 4

def JamReason.code : JamReason → Nat
  | .stall => 0
  | .lifter => 1
  | .noIndex => 2

def LampFault.code : LampFault → Nat
  | .strike => 0
  | .current => 1

def HotCause.code : HotCause → Nat
  | .temp => 0
  | .sensor => 1
  | .fan => 2

def TapeEndCause.code : TapeEndCause → Nat
  | .ended => 0
  | .removed => 1

def CueFault.code : CueFault → Nat
  | .framing => 0
  | .parity => 1
  | .reserved => 2

def RemotePort.code : RemotePort → Nat
  | .ir => 0
  | .bus => 1

def FrameFault.code : FrameFault → Nat
  | .length => 0
  | .framing => 1
  | .gap => 2
  | .cut => 3
  | .check => 4
  | .format => 5

def PairFault.code : PairFault → Nat
  | .blocked => 0
  | .full => 1

def DropCause.code : DropCause → Nat
  | .wait => 0
  | .collision => 1
  | .port => 2

/-- 10_panel_link, Status codes: status codes 0..11, DISPLACED 12 and RIGHTS 13. -/
def Reason.code : Reason → Nat
  | .status s => s.code
  | .displaced => 12
  | .rights => 13

/-- R19: the source kind's list position. -/
def Source.code : Source → Nat
  | .host => 0
  | .cue _ => 1
  | .handset _ => 2
  | .console _ => 3
  | .auto => 4

end Sys2Proof.Machine
end

