-- ==== Sys2Proof/Machine/BusOps.lean ====
section
/-! DEFINITION. Operations of the Bus Port that several commands share: remote frames as bytes (R151, R152), the
Origination Slot (R176, R177), the error counter and the port states (R179, R180), the status answer (R175) and the
forwards (R173). -/

namespace Sys2Proof.Machine

/-! ### Remote frames (R151, R152) -/

/-- R151: a remote frame's fields; REPEAT is the lowest bit of the flags byte. -/
structure RemoteFrame where
  dest : Nat
  source : Nat
  seq : Nat
  key : Nat
  rep : Bool
  args : List Nat
  deriving DecidableEq, Repr

/-- The byte at place i of a frame, 0 past its end. -/
def frameByte (bytes : List Byte) (i : Nat) : Nat := (bytes.getD i 0).toNat

/-- R151: the fields of a frame's bytes, length byte first, both checks included. -/
def RemoteFrame.ofBytes (bytes : List Byte) : RemoteFrame where
  dest := frameByte bytes 1
  source := frameByte bytes 2 * 256 + frameByte bytes 3
  seq := frameByte bytes 4
  key := frameByte bytes 5
  rep := (bytes.getD 6 0).getLsbD 0
  args := ((bytes.drop 7).take (bytes.length - 9)).map BitVec.toNat

/-- R151, R152: the bytes of a frame, with L and the two checks. -/
def RemoteFrame.toBytes (f : RemoteFrame) : List Byte :=
  withSums (u8 (8 + f.args.length) ++ u8 f.dest ++ u16 f.source ++ u8 f.seq ++ u8 f.key ++ flag f.rep ++
    f.args.flatMap u8)

/-- R152: the two checks a frame carries equal the sums computed over its bytes. -/
def frameGood (bytes : List Byte) : Bool := withSums bytes.dropLast.dropLast == bytes

/-- R151, R171: a length byte of a remote frame. -/
def frameLength (b : Byte) : Bool := 8 ≤ b.toNat && b.toNat ≤ 12

/-- R151: with these bytes taken the frame is complete: the length byte and the L bytes it names. -/
def frameComplete (taken : List Byte) : Bool := taken.length == frameByte taken 0 + 1

/-- R154, R174: the key is of the key table, with its count of arguments, and the source is neither 0 nor 65535. -/
def RemoteFrame.wellFormed (f : RemoteFrame) : Bool :=
  keyArgs f.key == some f.args.length && f.source != 0 && f.source != 65535

/-! ### What a port stops sending -/

/-- R171: a port stops transmitting: its receiver enters TAIL. -/
def Bus.stopSending (p : Port) (b : Bus) : Bus := b.setRx p .tail

/-- R177: the Origination Slot is emptied; a frame being sent stops. -/
def Bus.emptySlot (b : Bus) : Bus :=
  let b' := { b with slot := none }
  if b.originating then b'.stopSending .out else b'

/-- R175: the status answer is abandoned; one being sent stops. -/
def Bus.abandonAnswer (b : Bus) : Bus :=
  let b' := { b with answer := none }
  if b.answering then b'.stopSending .inn else b'

/-- R173: the forward fed by a receiving port comes to an end, with its sending port's receiver in TAIL. -/
def Bus.endForward (p : Port) (b : Bus) : Bus :=
  let b' := b.setFwdFrom p .none
  if (b.fwdFrom p).isSending then b'.stopSending (otherPort p) else b'

/-- R173, R180: a forward under way stops part way: what it had begun to send is abandoned. -/
def Bus.cutForward (p : Port) (b : Bus) : Bus :=
  match b.fwdFrom p with
  | .sending _ => (b.setFwdFrom p .abandoned).stopSending (otherPort p)
  | .holding => b.setFwdFrom p .none
  | .none => b
  | .abandoned => b

/-! ### Originations (R176, R177) -/

/-- R176: the slot is empty and the port ACTIVE. -/
def Bus.canOriginate (b : Bus) : Bool := b.slot.isNone && b.state == .active

/-- R176: the running count a frame carries: raised by 1, wrapping, but for a REPEAT. -/
def Bus.nextSeq (b : Bus) (rep : Bool) : Nat := if rep then b.running else (b.running + 1) % 256

/-- R176: a frame offered to the Origination Slot by a cue entry (its number) or the host (0), composed at once. -/
def offerFrame (origin dest key : Nat) (args : List Nat) (rep : Bool) (s : State) : Offer :=
  if s.bus.canOriginate = false then turnedAway .notNow s
  else
    let seq := s.bus.nextSeq rep
    let f : RemoteFrame :=
      { dest := dest, source := s.bus.address, seq := seq, key := key, rep := rep, args := args }
    taken (s.onBus fun b =>
      { b with
        running := seq
        slot := some
          { origin := origin, dest := dest, key := key, seq := seq, frame := f.toBytes, phase := .waiting,
            retries := 0, wait := Config.busWaitMs } })

/-- R177, R180: the frame in the slot is dropped with RELAY_DROPPED and its cause. -/
def dropFrame (cause : DropCause) (s : State) : State :=
  match s.bus.slot with
  | none => s
  | some o => raise (.relayDropped o.origin o.dest o.key cause) (s.onBus Bus.emptySlot)

/-- R177: after a collision or a forced stop of the frame being sent: BACKOFF, or dropped at the fourth failure. -/
def retryFrame (s : State) : State :=
  match s.bus.slot with
  | none => s
  | some o =>
    if o.phase ≠ .sending then s
    else if o.retries + 1 < 4 then
      s.onBus fun b =>
        { b with slot := some { o with phase := .backoff, retries := o.retries + 1 } }.stopSending .out
    else dropFrame .collision s

/-! ### The error counter and the port states (R179, R180) -/

/-- R180: the port enters a state, with PORT_STATE. Leaving ACTIVE drops the slot and the answer; entering SILENT stops
the forwards and sets the run to 0; entering ACTIVE from SILENT sets counter and run to 0. -/
def enterPort (new : PortState) (s : State) : State :=
  let s := match new with
    | .active =>
      s.onBus fun b => if b.state = .silent then { b with state := .active, errors := 0, goodRun := 0 }
        else { b with state := .active }
    | .passive => (dropFrame .port s).onBus fun b => { b.abandonAnswer with state := .passive }
    | .silent => (dropFrame .port s).onBus fun b =>
        { (b.abandonAnswer.cutForward .inn).cutForward .out with state := .silent, goodRun := 0 }
  raise (.portState new s.bus.errors) s

/-- R180: the port state decided after a change of the counter or the run. -/
def decidePort (s : State) : State :=
  match s.bus.state with
  | .active => if 96 ≤ s.bus.errors then enterPort .passive s else s
  | .passive =>
    if 160 ≤ s.bus.errors then enterPort .silent s else if s.bus.errors < 64 then enterPort .active s else s
  | .silent => if 32 ≤ s.bus.goodRun then enterPort .active s else s

/-- R179: a frame received on either port ends good. -/
def countGood (s : State) : State :=
  decidePort (s.onBus fun b => { b with errors := b.errors - 1, goodRun := satAdd 32 b.goodRun 1 })

/-- R179: a frame received on either port ends bad. -/
def countBad (s : State) : State :=
  decidePort (s.onBus fun b => { b with errors := satAdd 255 b.errors 1, goodRun := 0 })

/-- R179: a collision in a forward, an origination or a status answer. -/
def countCollision (s : State) : State := decidePort (s.onBus fun b => { b with errors := satAdd 255 b.errors 8 })

/-! ### The status answer (R175) -/

/-- R175: the frame of a status answer, from values taken at one instant. -/
def statusFrame (seq : Nat) (s : State) : RemoteFrame where
  dest := 0
  source := s.bus.address
  seq := seq
  key := 19
  rep := false
  args := [s.changer.current.getD 0, s.changer.state.code, s.lamp.state.code, s.thermal.band.code]

/-- R175: a STATUS addressed to the own address is answered when the port is ACTIVE and no answer is held. -/
def answerStatus (seq : Nat) (s : State) : State :=
  if s.bus.state = .active ∧ s.bus.answer = none then
    s.onBus fun b =>
      { b with answer := some { frame := (statusFrame seq s).toBytes, seq := seq, sending := false,
                                left := Config.busWaitMs } }
  else s

/-! ### Forwards (R172, R173) -/


/-- R173: a later byte goes on the sending port. -/
def Bus.forwardByte (p : Port) (byte : Byte) (b : Bus) : Bus :=
  match b.fwdFrom p with
  | .sending bytes => b.setFwdFrom p (.sending (bytes ++ [byte]))
  | .none => b
  | .holding => b
  | .abandoned => b

/-- R173: a held length byte is not sent after all. -/
def Bus.dropHeld (p : Port) (b : Bus) : Bus := if b.fwdFrom p = .holding then b.setFwdFrom p .none else b

/-- R173, R175, R177: what is being sent on the other port gives way to a forward from a port: an origination backs off
or is dropped, an answer is abandoned. One that only waits goes on waiting. -/
def giveWay (p : Port) (s : State) : State :=
  match p with
  | .inn => retryFrame s
  | .out => if s.bus.answering then s.onBus Bus.abandonAnswer else s

/-- R173: the forward of the frame being received on a port starts: the length byte, then the destination. The other port
now transmits and receives nothing (R171), so a length byte held there is not sent. -/
def startForward (p : Port) (bytes : List Byte) (s : State) : State :=
  (giveWay p s).onBus fun b => (b.dropHeld (otherPort p)).setFwdFrom p (.sending bytes)

/-- R172: whether a frame on IN with this destination is consumed. -/
def Bus.consumes (b : Bus) (dest : Nat) : Bool := dest == b.address || dest == 31 || b.inGroup dest

/-- R172: whether a frame on IN with this destination is forwarded. -/
def Bus.forwards (b : Bus) (dest : Nat) : Bool := 1 ≤ dest && dest ≤ 31 && dest != b.address

/-- R182: the Bus Port at a RESET request: a frame in the slot and an answer stop, the counters are 0, the port ACTIVE. -/
def Bus.resetRequest (b : Bus) : Bus :=
  { b.emptySlot.abandonAnswer with errors := 0, goodRun := 0, state := .active }

end Sys2Proof.Machine
end

