-- ==== Sys2Proof/Machine/DriveOps.lean ====
section
/-! DEFINITION. Operations of the Tray Drive on its own mechanisms: the bridge with its brakes (R52), the window test and
the corrections (R53), the counts (R48, R49), the stop of a motion, and the focus motor (R62, R63). What the drive
reports to the Changer stands in ChangerOps.lean. -/

namespace Sys2Proof.Machine

/-! ### Directions -/

/-- The bridge state that drives in a direction. -/
def Dir.bridge : Dir → Bridge
  | .forward => .forward
  | .backward => .backward

/-- The other direction. -/
def Dir.opposite : Dir → Dir
  | .forward => .backward
  | .backward => .forward

/-! ### The bridge (R52) -/

/-- R52, R54: the bridge enters drive: the focus motor's run or pause has ended (R63) and the watchdog starts. -/
def Drive.energize (dir : Dir) (d : Drive) : Drive :=
  { d with
    bridge := dir.bridge
    lastDrive := some dir
    watchdog := some Config.watchdogMs
    brakeTimer := none
    afterBrake := .off
    focus := .stopped
    focusTimer := none }

/-- R52: the bridge enters BRAKE for 40 ms, and what follows it. -/
def Drive.brake (after : AfterBrake) (d : Drive) : Drive :=
  { d with bridge := .brake, brakeTimer := some Config.brakeMs, watchdog := none, afterBrake := after }

/-- R52: the brake ends and the bridge goes OFF. -/
def Drive.release (d : Drive) : Drive :=
  { d with bridge := .off, brakeTimer := none, watchdog := none, afterBrake := .off }

/-- R52: a drive ordered: at once from OFF; after the brake that is in progress; through BRAKE from the other
direction. -/
def Drive.start (dir : Dir) (d : Drive) : Drive :=
  match d.bridge with
  | .off => d.energize dir
  | .brake => { d with afterBrake := .drive dir }
  | .forward => if dir = .forward then d.energize dir else d.brake (.drive dir)
  | .backward => if dir = .backward then d.energize dir else d.brake (.drive dir)

/-- R52, R58, R66: the bridge stops: a drive enters BRAKE, a brake in progress runs to its end, then OFF. -/
def Drive.halt (d : Drive) : Drive :=
  match d.bridge with
  | .off => d
  | .brake => { d with afterBrake := .off }
  | .forward => d.brake .off
  | .backward => d.brake .off

/-- R65: the rotation or homing in progress has ended. -/
def Drive.endRotation (d : Drive) : Drive :=
  { d with motion := .none, backingOff := false, backTally := 0, stalls := 0, budget := 0 }

/-! ### Counts and targets -/

/-- R53, R56: the target count of a motion that has one: a TURN's, or 0 in the centre phase of a homing. -/
def Motion.target : Motion → Option Nat
  | .turn _ t => some t
  | .homeCentre => some 0
  | .none => Option.none
  | .homeLift => Option.none
  | .homeSeek => Option.none

/-- R54: the direction in which a motion resumes after a back-off. -/
def Motion.resumeDir : Motion → Dir
  | .turn dir _ => dir
  | .none => .forward
  | .homeLift => .forward
  | .homeSeek => .forward
  | .homeCentre => .forward

/-- R53: the counter lies in the window of the motion's target. -/
def Drive.onTarget (n : Nat) (d : Drive) : Bool :=
  match d.motion.target with
  | none => false
  | some t => inWindow n d.position t

/-- R53 step 2: while driving toward the target, a counter in the window brings the BRAKE. -/
def Drive.testWindow (n : Nat) (d : Drive) : Drive :=
  if d.bridge.drives && !d.backingOff && d.onTarget n then d.brake .window else d

/-- R53 step 3: the shorter way back to the target. -/
def Drive.correctionDir (n : Nat) (d : Drive) : Dir :=
  match d.motion.target with
  | none => .forward
  | some t => if 0 < signedDistance n d.position t then .backward else .forward

/-- R48: the direction in which a count is applied. -/
def Drive.countDir (d : Drive) : Dir :=
  match d.bridge with
  | .forward => .forward
  | .backward => .backward
  | .off => d.lastDrive.getD .forward
  | .brake => d.lastDrive.getD .forward

/-- R49: the counter after one count in a direction, on a tray of n slots. -/
def nextPosition (n count : Nat) : Dir → Nat
  | .forward => if count + 1 < modulus n then count + 1 else 0
  | .backward => if count = 0 then modulus n - 1 else count - 1

/-- R57: the limit of the NO_INDEX budget. -/
def budgetLimit (n : Nat) : Nat := 24 * n + 48

/-- R48, R54, R57: an accepted count applied to the counter, the watchdog, the back-off tally and the budget. -/
def Drive.count (n : Nat) (d : Drive) : Drive :=
  { d with
    position := nextPosition n d.position d.countDir
    watchdog := if d.bridge.drives then some Config.watchdogMs else d.watchdog
    backTally := if d.backingOff then min 12 (d.backTally + 1) else d.backTally
    budget := if d.motion = .homeSeek ∧ d.bridge = .forward ∧ d.backingOff = false then
        min (budgetLimit n) (d.budget + 1) else d.budget }

/-! ### Stops -/

/-- R64: the tray switch opens: the mechanisms stop where they stand. -/
def Drive.trayRemoved (d : Drive) : Drive :=
  let d := if d.bridge = .off then d else d.brake .off
  { d.endRotation with lifterDrive := .off, lifterTimer := none, settleTimer := none, position := 0 }

/-- R66: the drive after either reset. -/
def Drive.atReset (d : Drive) : Drive :=
  { d.halt.endRotation with
    corrections := 0
    position := 0
    revolutions := 0
    lastDrive := none
    lifterDrive := .off
    lifterTimer := none
    settleTimer := none
    gate := false
    focus := .stopped
    focusTimer := none }

/-! ### The focus motor -/

/-- R62, R63: a focus run or pause ends with the motor off. -/
def Drive.stopFocus (d : Drive) : Drive := { d with focus := .stopped, focusTimer := none }

/-- R62, R63: how long a run lasts: a key run 250 ms from its last key, a host run its duration. -/
def FocusRun.ms : FocusRun → Nat
  | .key => Config.focusStopMs
  | .host ms => ms

/-- R62, R63: a run in a direction, of either kind, asked of the focus motor. -/
def Drive.runFocus (dir : FocusDir) (run : FocusRun) (d : Drive) : Drive :=
  match d.focus with
  | .stopped => { d with focus := .running dir run, focusTimer := some run.ms }
  | .running old _ =>
    if old = dir then { d with focus := .running dir run, focusTimer := some run.ms }
    else { d with focus := .pausing dir run, focusTimer := some Config.focusPauseMs }
  | .pausing _ _ => { d with focus := .pausing dir run }

/-- R62: a FOCUS key handed by the Remote Unit; ignored during a tray motion or at a closed end switch. -/
def Drive.focusKey (dir : FocusDir) (d : Drive) : Drive :=
  if d.trayMotion || d.endClosed dir then d else d.runFocus dir .key

/-- R63: a host FOCUS taken; at a closed end switch the motor is not started. The spec does not say whether a run the
other way or a reversal pause in progress then ends; the model leaves it as it stands (DESIGN CHOICE, log 17). -/
def Drive.focusHost (dir : FocusDir) (ms : Nat) (d : Drive) : Drive :=
  if d.endClosed dir then d else d.runFocus dir (.host ms)

/-- R31: FOCUS STOP, given when an entry is taken with the focus motor running. -/
def Drive.focusStopOrder (d : Drive) : Drive := if d.focus.isRunning then d.stopFocus else d

/-- R62: the reversal pause ends and the run that follows it starts, unless its end switch is closed. -/
def Drive.endPause (d : Drive) : Drive :=
  match d.focus with
  | .pausing dir run =>
    if d.endClosed dir then d.stopFocus else { d with focus := .running dir run, focusTimer := some run.ms }
  | .stopped => d
  | .running _ _ => d

/-- R62: an end switch of the focus motor changes; a closing ends a run in its direction. -/
def Drive.endSwitch (dir : FocusDir) (closed : Bool) (d : Drive) : Drive :=
  let d := match dir with
    | .inward => { d with endIn := closed }
    | .outward => { d with endOut := closed }
  match d.focus with
  | .running old _ => if closed && old == dir then d.stopFocus else d
  | .stopped => d
  | .pausing _ _ => d

end Sys2Proof.Machine
end

