-- ==== Sys2Proof/Machine/LampOps.lean ====
section
/-! DEFINITION. Operations of the Lamp Controller that several commands share: a change of lamp state with the fan's
answer to it (R106), the cool-down, striking, the orders of the Changer to the light chain (R77), the period report
of the Thermal Unit (R79), the override and the exposure account. -/

namespace Sys2Proof.Machine

/-! ### Changes of lamp state -/

/-- R106: what a change of lamp state does to the fan duty at once. -/
def Thermal.fanOnLamp (old new : LampState) (t : Thermal) : Thermal :=
  match new with
  | .striking => { t with duty := max t.duty t.profile.floor }
  | .cooldown => { t with duty := 1000 }
  | .off =>
    if old = .cooldown then
      if t.band = .trip ∨ t.sensor.isFault = true then t else { t with duty := 0 }
    else t
  | .warming => t
  | .run => t
  | .failed => t

/-- R67: the lamp enters a state, which is handed to the Thermal Unit at once (R106). -/
def enterLamp (new : LampState) (s : State) : State :=
  { s with
    lamp := { s.lamp with state := new }
    thermal := s.thermal.fanOnLamp s.lamp.state new }

/-- R69: the cool-down time of the profile active now, in milliseconds. -/
def coolTimeMs (s : State) : Nat := s.thermal.profile.coolTime * 1000

/-- R69, R73, R75, R85: the lamp enters COOLDOWN with a destination and a loaded timer; the supply goes off and the
window, the wait, the warm-up timer and the current-loss timer are cancelled. The attempt count keeps its value. -/
def startCoolDown (dest : CoolDest) (ms : Nat) (s : State) : State :=
  enterLamp .cooldown (s.onLamp fun l =>
    { l with dest := dest, window := none, nextStrike := none, warmUp := 0, lossTimer := none, coolDown := ms })

/-- R74: the state a cool-down destination names. -/
def CoolDest.state : CoolDest → LampState
  | .off => .off
  | .failed => .failed

/-- R74: COOLDOWN ends when its timer stands at 0 and the cool-limit flag is set. -/
def endCoolDownIfDone (s : State) : State :=
  if s.lamp.state = .cooldown ∧ s.lamp.coolDown = 0 ∧ s.lamp.coolFlag = true then enterLamp s.lamp.dest.state s else s

/-! ### Striking (R68, R71, R72) -/

/-- R72: a strike is confirmed: the window closes and WARMING begins with 45 s. -/
def confirmStrike (s : State) : State :=
  enterLamp .warming (s.onLamp fun l =>
    { l with window := none, nextStrike := none, warmUp := Config.warmUpMs, lossTimer := none })

/-- R71: one strike attempt: the count rises, the supply goes on with a pulse, and the confirm window opens. A current
that is already FLOWING confirms it. -/
def strikeAttempt (s : State) : State :=
  let s := s.onLamp fun l =>
    { l with
      attempts := l.attempts + 1
      window := some Config.strikeWindowMs
      nextStrike := if l.attempts + 1 < 3 then some Config.strikeSpacingMs else none }
  if s.lamp.flowing then confirmStrike s else s

/-- R68: LAMP ON offered by the host or a key. -/
def offerLampOn (s : State) : Offer :=
  match s.lamp.state with
  | .off =>
    if s.lamp.checkDone = true ∧ s.lamp.bandView ≠ .trip then
      taken (strikeAttempt (enterLamp .striking (s.onLamp fun l => { l with attempts := 0 })))
    else turnedAway .notNow s
  | .cooldown => turnedAway .notNow s
  | .striking => taken s
  | .warming => taken s
  | .run => taken s
  | .failed => turnedAway .lampFailed s

/-- R69: LAMP OFF, taken in every state. -/
def lampOff (s : State) : State := if s.lamp.active then startCoolDown .off (coolTimeMs s) s else s

/-- R70: a trip from the Thermal Unit. -/
def lampTrip (s : State) : State :=
  let s' := s.onLamp fun l => { l with bandView := .trip }
  if s.lamp.active then raise (.lampTrip s.lamp.state) (lampOff s') else s'

/-- R85: the start-up check on the first sample's code, once. The timer is loaded with profile 0's cool-down time. -/
def startUpCheck (theta : Int) (s : State) : State :=
  if s.lamp.checkDone then s
  else
    let s := s.onLamp fun l => { l with checkDone := true }
    if 400 ≤ theta then startCoolDown .off (s.thermal.profiles[0].coolTime * 1000) s else s

/-! ### The period report (R70, R74, R79) -/

/-- R79: the applied cap follows the named cap, down at once and up by at most 100. -/
def nextAppliedCap (applied named : Nat) : Nat :=
  if named ≤ applied then named else applied + min 100 (named - applied)

/-- R79, R103: the Thermal Unit's report of a period: the band, its cap and the cool-limit flag, which may end a
cool-down (R74). -/
def periodReport (band : Band) (named : Nat) (flag : Bool) (s : State) : State :=
  endCoolDownIfDone (s.onLamp fun l =>
    { l with bandView := band, coolFlag := flag, appliedCap := nextAppliedCap l.appliedCap named })

/-! ### Orders to the light chain (R77) -/

/-- R77, DARK: any ramp is cancelled, the fade value becomes 0 and the dark hold is set. -/
def Lamp.dark (l : Lamp) : Lamp := { l with fade := 0, ramp := none, darkHold := true }

/-- R77, FADE OUT with n ticks, from the delivered light of the most recent tick. With n = 0 it has ended at once. -/
def Lamp.fadeOut (n : Nat) (l : Lamp) : Lamp :=
  if n = 0 then l.dark else { l with fade := l.delivered, ramp := some { a := l.delivered, b := 0, n := n, k := 0 } }

/-- R77, FADE IN with n ticks. With n = 0 it has ended at once. -/
def Lamp.fadeIn (n : Nat) (l : Lamp) : Lamp :=
  if n = 0 then { l with fade := 1000, ramp := none, darkHold := false }
  else { l with fade := 0, ramp := some { a := 0, b := 1000, n := n, k := 0 }, darkHold := false }

/-- R77: entry to SHOWING dark or to JAMMED: the dark hold is cleared and the fade value stays. -/
def Lamp.clearHold (l : Lamp) : Lamp := { l with darkHold := false }

/-- R77, R80: tray removal: the ramp is cancelled, the fade value 0, the hold and the override cleared. -/
def Lamp.trayRemoved (l : Lamp) : Lamp := { l with fade := 0, ramp := none, darkHold := false, override := none }

/-- R77, R78: one step of the fade ramp. At its last step the value is exactly b, the ramp is over, and a fade-out has
set the dark hold. -/
def Lamp.stepFade (l : Lamp) : Lamp :=
  match l.ramp with
  | none => l
  | some r =>
    let r' := r.next
    if r'.done then { l with fade := r.b, ramp := none, darkHold := if r.b = 0 then true else l.darkHold }
    else { l with fade := r'.value r'.k, ramp := some r' }

/-- R76, R81: the delivered light of a tick goes on the level line and is counted into the period's 25 ticks. -/
def Lamp.deliver (light : Nat) (l : Lamp) : Lamp :=
  if l.ticks < Config.ticksPerPeriod then
    { l with delivered := light, lightSum := l.lightSum + light, ticks := l.ticks + 1 }
  else { l with delivered := light }

/-! ### The override (R80) -/

/-- R80: the override set, or cleared to absent. -/
def setOverride (v : Option Nat) (s : State) : State := s.onLamp fun l => { l with override := v }

/-- R80: a LIGHT+ or LIGHT− frame: the base level at that moment plus or minus 50, clamped to 0..1000. -/
def lightKey (up : Bool) (s : State) : State :=
  setOverride (some (if up then min 1000 (baseLevel s + 50) else baseLevel s - 50)) s

/-! ### The exposure account (R81, R82) -/

/-- R81, R82: a drop event or a hand insertion: the account is 0 and the guard leaves force at that moment. -/
def Lamp.clearExposure (l : Lamp) : Lamp := { l with exposure := 0, guard := false }

/-- R81 step 3: the account bounded by the limit in force, or by 4,000,000 with none. -/
def boundExposure (limit e : Nat) : Nat := min e (if limit = 0 then Config.exposureMax else limit)

/-- R83: the class that governs now: the current slot's, or the class last read while the current slot is none. -/
def governingClass (s : State) : Nat :=
  match s.changer.currentSlot with
  | some r => r.cls
  | none => s.lamp.govClass

/-- R81, R82: the account and the guard at a period's end, with the period average p. -/
def Lamp.account (p cls : Nat) (l : Lamp) : Lamp :=
  let limit := l.limit cls
  let e := boundExposure limit (l.exposure + p)
  { l with exposure := e, govClass := cls, guard := limit != 0 && e == limit, lightSum := 0, ticks := 0 }

/-- R86: the Lamp Controller at a RESET request. -/
def lampResetRequest (s : State) : State :=
  (lampOff s).onLamp fun l =>
    { l with fade := 0, ramp := none, darkHold := false, override := none, exposure := 0, govClass := 0, guard := false }

end Sys2Proof.Machine
end

