-- ==== Sys2Proof/Machine/TapeOps.lean ====
section
/-! DEFINITION. Operations of the Tape and Sound Unit that several commands share: the changes of transport state with
the PLAYING gate of the Cue Unit (R128), the tape requests of all sources (R112), and the settings of the base, the
duck term and the mute. -/

namespace Sys2Proof.Machine

/-! ### The transport -/

/-- R128: the Cue Unit at a change of the PLAYING gate: a closing abandons the word, the held word and the burst; an
opening puts the receiver in IDLE and times a tone that is already present. -/
def CueUnit.gate (wasOpen isOpen : Bool) (u : CueUnit) : CueUnit :=
  if wasOpen = isOpen then u
  else if isOpen then { u with rx := .idle, burst := if u.tone then some 0 else none }
  else { u with rx := .idle, holding := none, burst := none }

/-- R111: the transport enters a state, which is handed to the Cue Unit at once. -/
def setTransport (new : Transport) (s : State) : State :=
  { s with
    tape := { s.tape with transport := new }
    cue := s.cue.gate (s.tape.transport == .playing) (new == .playing) }

/-- R113, R117: entry to PLAYING; the tape-end timer starts. -/
def enterPlaying (s : State) : State :=
  setTransport .playing (s.onTape fun t =>
    { t with runDown := none, endTimer := some Config.tapeEndMs, reelTimer := none })

/-- R116, R117, R119: entry to a winding state: the counter becomes UNSURE with residue 0 and the reel timer starts. -/
def enterWinding (w : Transport) (s : State) : State :=
  setTransport w (s.onTape fun t =>
    { t with runDown := none, sure := false, residue := 0, endTimer := none, reelTimer := some Config.tapeEndMs })

/-- R114: entry to PAUSED; the tape-end timer stops. -/
def enterPaused (s : State) : State := setTransport .paused (s.onTape fun t => { t with endTimer := none })

/-- R115, R117: entry to STOPPED with or without a run-down; both timers stop. -/
def enterStopped (r : Option RunDown) (s : State) : State :=
  setTransport .stopped (s.onTape fun t => { t with runDown := r, endTimer := none, reelTimer := none })

/-- R111: a run-down of 300 ms with its pending motion. -/
def freshRunDown (next : PendingMotion) : Option RunDown := some { left := Config.runDownMs, next := next }

/-- R111: the pending motion of the run-down in progress, set; nothing with none in progress. -/
def setPendingMotion (next : PendingMotion) (s : State) : State :=
  s.onTape fun t => { t with runDown := t.runDown.map fun r => { r with next := next } }

/-! ### Tape requests (R112) -/

/-- R113: TAPE PLAY, of any source. -/
def offerTapePlay (s : State) : Offer :=
  match s.tape.transport with
  | .noTape => turnedAway .noTape s
  | .stopped => taken (if s.tape.runDown.isSome then setPendingMotion .playing s else enterPlaying s)
  | .paused => taken (enterPlaying s)
  | .playing => turnedAway .notNow s
  | .windingFwd => turnedAway .notNow s
  | .windingBack => turnedAway .notNow s

/-- R114: TAPE PAUSE, of any source. -/
def offerTapePause (s : State) : Offer :=
  match s.tape.transport with
  | .noTape => turnedAway .noTape s
  | .playing => taken (enterPaused s)
  | .stopped => turnedAway .notNow s
  | .paused => turnedAway .notNow s
  | .windingFwd => turnedAway .notNow s
  | .windingBack => turnedAway .notNow s

/-- R115: TAPE STOP. -/
def offerTapeStop (s : State) : Offer :=
  match s.tape.transport with
  | .noTape => turnedAway .noTape s
  | .playing => taken (enterStopped none s)
  | .paused => taken (enterStopped none s)
  | .windingFwd => taken (enterStopped (freshRunDown .none) s)
  | .windingBack => taken (enterStopped (freshRunDown .none) s)
  | .stopped => if s.tape.runDown.isSome then taken (setPendingMotion .none s) else turnedAway .notNow s

/-- R116: the pending motion that winds in a direction. -/
def Dir.pendingWind : Dir → PendingMotion
  | .forward => .windingFwd
  | .backward => .windingBack

/-- R116: the winding state of a direction. -/
def Dir.winding : Dir → Transport
  | .forward => .windingFwd
  | .backward => .windingBack

/-- R116: TAPE WIND in a direction. -/
def offerTapeWind (d : Dir) (s : State) : Offer :=
  match s.tape.transport with
  | .noTape => turnedAway .noTape s
  | .stopped => taken (if s.tape.runDown.isSome then setPendingMotion d.pendingWind s else enterWinding d.winding s)
  | .paused => taken (enterWinding d.winding s)
  | .playing => turnedAway .notNow s
  | .windingFwd => taken (if d = .forward then s else enterStopped (freshRunDown d.pendingWind) s)
  | .windingBack => taken (if d = .backward then s else enterStopped (freshRunDown d.pendingWind) s)

/-- R112, R38: a slot's tape mark at arrival; one that does not apply is ignored. -/
def applyTapeMark (m : TapeMark) (s : State) : State :=
  match m with
  | .none => s
  | .play => (offerTapePlay s).1
  | .pause => (offerTapePause s).1

/-! ### Program sound (R121 to R124) -/

/-- R122: a direct setting of the base ends a base ramp at the new value. -/
def Tape.setBase (a : Nat) (t : Tape) : Tape := { t with base := a, baseRamp := none }

/-- R122: a VOL+ (louder) or VOL− (softer) frame. -/
def Tape.volume (louder : Bool) (t : Tape) : Tape := t.setBase (if louder then t.base - 2 else min 120 (t.base + 2))

/-- R122: the sound-target ramp of an arrival over n ticks; with n = 0 the base becomes the target at once. -/
def Tape.soundTarget (target n : Nat) (t : Tape) : Tape :=
  if n = 0 then t.setBase target else { t with baseRamp := some { a := t.base, b := target, n := n, k := 0 } }

/-- R123: a duck ramp from the term as it stands over 20 ticks. -/
def Tape.duckTo (target : Nat) (t : Tape) : Tape :=
  { t with duckRamp := some { a := t.duckTerm, b := target, n := Config.duckTicks, k := 0 } }

/-- R123: the duck switch set. -/
def Tape.setDuck (on : Bool) (t : Tape) : Tape :=
  { t.duckTo (if on then t.duckDepth else 0) with duckOn := on }

/-- R123: the duck depth set; with the switch ON the term follows it. -/
def Tape.setDepth (d : Nat) (t : Tape) : Tape :=
  let t := { t with duckDepth := d }
  if t.duckOn then t.duckTo d else t

/-- R124: the mute set. -/
def Tape.setMute (on : Bool) (t : Tape) : Tape := { t with mute := on }

/-- R121: one step of the base ramp. -/
def Tape.stepBase (t : Tape) : Tape :=
  match t.baseRamp with
  | none => t
  | some r => { t with base := r.next.value r.next.k, baseRamp := some r.next }

/-- R121: one step of the duck ramp. -/
def Tape.stepDuck (t : Tape) : Tape :=
  match t.duckRamp with
  | none => t
  | some r => { t with duckTerm := r.next.value r.next.k, duckRamp := some r.next }

/-- R127: a ramp in progress is brought to its end value at once. -/
def Tape.endRamps (t : Tape) : Tape :=
  { t with
    base := match t.baseRamp with | none => t.base | some r => r.b
    baseRamp := none
    duckTerm := match t.duckRamp with | none => t.duckTerm | some r => r.b
    duckRamp := none }

/-- R127: the transport at a RESET request. -/
def tapeResetTransport (s : State) : State :=
  match s.tape.transport with
  | .noTape => s
  | .stopped => setPendingMotion .none s
  | .playing => enterStopped none s
  | .paused => enterStopped none s
  | .windingFwd => enterStopped (freshRunDown .none) s
  | .windingBack => enterStopped (freshRunDown .none) s

/-- R127: the Tape and Sound Unit at a RESET request. -/
def tapeResetRequest (s : State) : State := (tapeResetTransport s).onTape Tape.endRamps

end Sys2Proof.Machine
end

