-- ==== Sys2Proof/Machine/ChangerOps.lean ====
section
/-! DEFINITION. Operations of the Changer Controller with the reports of the Tray Drive: the phases of a change cycle in
the order in which each may lead at once into the next (settle, drop, window, turn, lift, fade-out), homing, the
target of R32 and R33, the Change Queue (R22 to R26), the dwell expiry and the resets. -/

namespace Sys2Proof.Machine

/-! ### The change in flight -/

/-- The target of the change in flight, if it has one. -/
def Changer.target (c : Changer) : Option Nat := c.change.bind Change.target

/-- Only a STEP chains and pushes loop frames (R37, R44). -/
def ChangeKind.isStep : ChangeKind → Bool
  | .step _ => true
  | .goto _ => false
  | .home => false

/-- R36, R37, R40, R15: the change leaves the current change record and CHANGE_DONE is raised with its source. -/
def finishChange (r : ChangeResult) (s : State) : State :=
  match s.changer.change with
  | none => s
  | some ch => raise (.changeDone ch.source r) (s.onChanger fun c => { c with change := none })

/-! ### Jams (R40) -/

/-- R40: the target slot of a jam: none for a homing before its drop. -/
def Changer.jamTarget (c : Changer) : Option Nat :=
  match c.change with
  | none => none
  | some ch => if ch.kind = .home ∧ c.state ≠ .dropping then none else ch.target

/-- R40: the Changer at a JAMMED report, but for its notices and the change record. -/
def Changer.jammed (c : Changer) : Changer :=
  let c := match c.jamTarget with
    | none => c
    | some t => c.setOccupancy t .jammed
  { c with queue := [], loops := [], homed := false, current := none, dwell := 0, dwellDue := false, run := 0,
           state := .jammed }

/-- R55, R58 to R60: the drive at a JAMMED report: the bridge stops through its brake, the rotation or homing ends, and
the lifter stands with its drive off. -/
def Drive.jammed (d : Drive) : Drive := { d.halt.endRotation with lifterDrive := .off, lifterTimer := none }

/-- R40: the drive reports JAMMED: its motion has ended, and the Changer enters JAMMED with the dark hold cleared
(R77). -/
def jam (reason : JamReason) (s : State) : State :=
  let t := s.changer.jamTarget
  let s := (s.onDrive Drive.jammed).onLamp Lamp.clearHold
  finishChange .jammed (raise (.jam reason t) (s.onChanger Changer.jammed))

/-! ### DROPPING and SETTLING (R35, R60) -/

/-- R35, R60: DOWN is reported: SETTLING begins and the settle timer starts. -/
def enterSettling (s : State) : State :=
  (s.onChanger fun c => { c with state := .settling }).onDrive fun d => { d with settleTimer := some Config.settleMs }

/-- R35, R60: entry to DROPPING with the order DROP. -/
def enterDropping (s : State) : State :=
  let s := s.onChanger fun c => { c with state := .dropping }
  if s.drive.lifter = .down then enterSettling s
  else s.onDrive fun d => { d with lifterDrive := .downward, lifterTimer := some Config.lifterMs }

/-- R12, R35: the window is reached: the current slot becomes the target and the changer enters DROPPING. -/
def windowReached (s : State) : State :=
  enterDropping (s.onChanger fun c => { c with current := c.target })

/-! ### ROTATING (R35, R53 to R55) -/

/-- R53 step 1, R35: entry to ROTATING with the order TURN. -/
def enterRotating (s : State) : State :=
  let s := s.onChanger fun c => { c with state := .rotating }
  match s.changer.change with
  | none => s
  | some ch =>
    let count := 24 * (ch.target.getD 1 - 1)
    let s := s.onDrive fun d => { d with stalls := 0, corrections := 0 }
    if inWindow s.changer.size s.drive.position count then windowReached s
    else if s.drive.lifter ≠ .up then jam .lifter s
    else s.onDrive fun d => { d with motion := .turn ch.dir count }.start ch.dir

/-- R54, R55: a stall of the rotation: the first brings the back-off, the second the jam. -/
def stall (s : State) : State :=
  if s.drive.stalls = 0 then
    s.onDrive fun d => { d.brake .backOff with stalls := 1, backingOff := false, backTally := 0 }
  else jam .stall (s.onDrive (Drive.brake .off))

/-- R53 steps 3 and 4: a brake ends outside the window: a correction the shorter way, or after the third a stall. -/
def windowMiss (s : State) : State :=
  if s.drive.corrections < 3 then
    s.onDrive fun d => { d with corrections := d.corrections + 1 }.energize (d.correctionDir s.changer.size)
  else stall s

/-- R53 step 3, R56: a brake at the target ends: in the window, the window or count 0 is reached; outside it, a miss. -/
def windowBrakeEnd (s : State) : State :=
  match s.drive.motion with
  | .turn _ _ =>
    if s.drive.onTarget s.changer.size then windowReached (s.onDrive Drive.endRotation) else windowMiss s
  | .homeCentre =>
    if s.drive.onTarget s.changer.size then enterDropping (s.onDrive Drive.endRotation) else windowMiss s
  | .none => s
  | .homeLift => s
  | .homeSeek => s

/-- R52 to R54, R58: the 40 ms of a brake end: OFF, and then the test, the back-off, the resumed drive or the ordered
drive that the brake led to. The lifter not UP bars them all. -/
def brakeEnd (s : State) : State :=
  let after := s.drive.afterBrake
  let s := s.onDrive Drive.release
  if after = .off then s
  else if s.drive.lifter ≠ .up then jam .lifter s
  else
    match after with
    | .off => s
    | .window => windowBrakeEnd s
    | .backOff =>
      s.onDrive fun d =>
        { d with backingOff := true, backTally := 0 }.energize (d.lastDrive.getD .forward).opposite
    | .resume => s.onDrive fun d => { d with corrections := 0 }.energize d.motion.resumeDir
    | .drive dir => s.onDrive (Drive.energize dir)

/-! ### LIFTING and FADING_OUT (R34, R59) -/

/-- R59: the lifter drive goes UPWARD for at most 600 ms. -/
def Drive.lift (d : Drive) : Drive := { d with lifterDrive := .upward, lifterTimer := some Config.lifterMs }

/-- R34, R59: entry to LIFTING with the order LIFT. -/
def enterLifting (s : State) : State :=
  let s := s.onChanger fun c => { c with state := .lifting }
  if s.drive.lifter = .up then enterRotating s else s.onDrive Drive.lift

/-- R31, R34: entry to FADING_OUT over the current slot's fade-out, or straight to LIFTING with the light at 0. -/
def enterFadingOut (s : State) : State :=
  if s.lamp.delivered = 0 then enterLifting (s.onLamp Lamp.dark)
  else
    let n := match s.changer.currentSlot with
      | none => 0
      | some r => r.fadeOut
    let s := s.onLamp (Lamp.fadeOut n)
    if n = 0 then enterLifting s else s.onChanger fun c => { c with state := .fadingOut }

/-! ### Targets (R32, R33) -/

/-- The next slot of a tray of n in a direction, wrapping. -/
def neighbour (n slot : Nat) : Dir → Nat
  | .forward => if slot < n then slot + 1 else 1
  | .backward => if slot ≤ 1 then n else slot - 1

/-- R32: a slot that a walk passes. -/
def Changer.passes (c : Changer) (src : Source) (slot : Nat) : Bool :=
  let r := c.slot slot
  (c.skipEmpty && r.occupancy == .empty) || (src == .auto && c.skipBlank && !r.programmed)

/-- R32: how a walk ends. -/
inductive WalkEnd
  | found (slot : Nat)
  | all
  | trayEnd
  deriving DecidableEq, Repr

/-- R32: the walk over at most `fuel` slots; with `stop` it does not move past slot n. -/
def walk (pass : Nat → Bool) (dir : Dir) (n : Nat) (stop : Bool) : Nat → Nat → WalkEnd
  | 0, _ => .all
  | fuel + 1, slot =>
    if !pass slot then .found slot
    else if stop && slot == n then .trayEnd
    else walk pass dir n stop fuel (neighbour n slot dir)

/-- R32: the direction of a STEP. -/
def stepDir (k : Int) : Dir := if 0 < k then .forward else .backward

/-- R32: the slot a STEP computes, before its walk. -/
def stepSlot (n current : Nat) (k : Int) : Nat := (((current : Int) - 1 + k) % n).toNat + 1

/-- R33: the direction of a GOTO: the shorter way round, forward at a tie. -/
def gotoDir (n current target : Nat) : Dir :=
  let d := (((target : Int) - current) % n).toNat
  if d ≤ n - d then .forward else .backward

/-- R32, R33: the target and direction of an entry; none where an AUTO entry ends at slot N with wrap off. -/
def Changer.aim (c : Changer) (e : Entry) : Option (Nat × Dir) :=
  let n := c.size
  let current := c.current.getD 1
  match e.kind with
  | .goto t => some (t, gotoDir n current t)
  | .step k =>
    let dir := stepDir k
    let first := stepSlot n current k
    match walk (c.passes e.source) dir n (e.source == .auto && !c.wrap) n first with
    | .found t => some (t, dir)
    | .all => some (first, dir)
    | .trayEnd => none

/-! ### Taking the head (R31) -/

/-- The kind of the change an entry becomes. -/
def EntryKind.change : EntryKind → ChangeKind
  | .step k => .step k
  | .goto n => .goto n

/-- R31 step 3: a GOTO with LOOPBACK clear empties the Loop Stack. -/
def Entry.clearsLoops (e : Entry) : Bool :=
  match e.kind with
  | .goto _ => !e.loopback
  | .step _ => false

/-- R31: the Changer as an entry leaves the queue for the current change record. -/
def Changer.take (e : Entry) (rest : List Entry) (t : Nat) (dir : Dir) (c : Changer) : Changer :=
  { c with
    queue := rest
    change := some { source := e.source, kind := e.kind.change, loopback := e.loopback, target := some t, dir := dir }
    run := 0
    loops := if e.clearsLoops then [] else c.loops
    keptLoop := .none
    dwellDue := false }

/-- R32: the entry is discarded at slot N with wrap off: hold becomes HELD and TRAY_END is raised. The spec does not say
whether R31's FOCUS STOP is given for an entry that is discarded; the model gives none, and a focus run goes on
(DESIGN CHOICE, log 17). -/
def discardAtTrayEnd (rest : List Entry) (s : State) : State :=
  raise (.trayEnd s.changer.size) (s.onChanger fun c => { c with queue := rest, run := 0, held := true, dwellDue := false })

/-- R31: the head is taken into execution; an entry that ends without a cycle leaves the next one the head. -/
def takeFrom : List Entry → State → State
  | [], s => s
  | e :: rest, s =>
    match s.changer.aim e with
    | none => takeFrom rest (discardAtTrayEnd rest s)
    | some (t, dir) => enterFadingOut ((s.onChanger (Changer.take e rest t dir)).onDrive Drive.focusStopOrder)

/-- R31: in SHOWING the head is taken whenever the queue is non-empty. -/
def pump (s : State) : State := if s.changer.state = .showing then takeFrom s.changer.queue s else s

/-! ### Arrival, an empty gate and the end of the cycle (R36 to R38) -/

/-- R36: the fade-in has ended: SHOWING, with CHANGE_DONE SHOWN, and the next head is taken. -/
def enterShowing (s : State) : State :=
  pump (finishChange .shown (s.onChanger fun c => { c with state := .showing, dwellDue := false }))

/-- R44: the push of a LOOP-START arrival; LOOP_DEPTH with two frames held. -/
def pushLoop (slot count : Nat) (s : State) : State :=
  match s.changer.loops with
  | [] => s.onChanger fun c => { c with loops := [{ start := slot, remaining := count }] }
  | top :: more =>
    if top.start = slot then s
    else if more = [] then s.onChanger fun c => { c with loops := { start := slot, remaining := count } :: c.loops }
    else raise (.loopDepth slot) s

/-- R38: the loop mark at an arrival: kept, and pushed if a STEP has reached a LOOP-START. -/
def arriveLoop (slot : Nat) (mark : LoopMark) (isStep : Bool) (s : State) : State :=
  let s := s.onChanger fun c => { c with keptLoop := mark }
  match mark with
  | .start count => if isStep then pushLoop slot count s else s
  | .none => s
  | .close => s

/-- R38: the sound target of a slot's record, over its fade-in. -/
def arriveSound (r : SlotRecord) (t : Tape) : Tape :=
  match r.sound with
  | none => t
  | some target => t.soundTarget target r.fadeIn

/-- R38: the arrival actions of a slot's record. -/
def arrive (slot : Nat) (r : SlotRecord) (isStep : Bool) (s : State) : State :=
  let s := (applyTapeMark r.tapeMark s).onTape (arriveSound r)
  let s := s.onChanger fun c => { c with held := c.held || r.hold }
  setOverride none (arriveLoop slot r.loop isStep s)

/-- R36: a slide is found at the settle: the arrival, then FADING_IN over the slot's fade-in, or SHOWING at once. -/
def slideFound (slot : Nat) (isStep : Bool) (s : State) : State :=
  let s := s.onChanger fun c => { c.setOccupancy slot .present with run := 0, dwell := 0 }
  let r := s.changer.slot slot
  let s := arrive slot r isStep (s.onLamp Lamp.clearExposure)
  let s := (s.onLamp (Lamp.fadeIn r.fadeIn)).onChanger fun c => { c with state := .fadingIn }
  if r.fadeIn = 0 then enterShowing s else s

/-- R37: the change chains on from an empty gate at a slot. -/
def Changer.chains (c : Changer) (ch : Change) (slot : Nat) : Bool :=
  c.skipEmpty && ch.kind.isStep && decide (c.run < 3) && !(ch.source == .auto && !c.wrap && slot == c.size)

/-- R37: SHOWING dark, with CHANGE_DONE DARK, and the next head is taken. -/
def showDark (s : State) : State :=
  pump (finishChange .dark ((s.onLamp Lamp.clearHold).onChanger fun c =>
    { c with state := .showing, dwell := 0, dwellDue := false, keptLoop := .none }))

/-- R37: the gate is empty at the settle: the next cycle of the chain, or SHOWING dark. -/
def gateEmpty (slot : Nat) (ch : Change) (s : State) : State :=
  let s := raise (.slotEmpty slot) (s.onChanger fun c => c.setOccupancy slot .empty)
  if s.changer.chains ch slot then
    enterLifting (s.onChanger fun c =>
      { c with run := c.run + 1, change := some { ch with target := some (neighbour c.size slot ch.dir) } })
  else showDark s

/-- R35 to R37: the settle ends with the gate state reported. -/
def settleEnd (s : State) : State :=
  match s.changer.change with
  | none => s
  | some ch =>
    let slot := ch.target.getD 1
    if s.drive.gate then slideFound slot ch.kind.isStep s else gateEmpty slot ch s

/-! ### Homing (R29, R30, R56) -/

/-- R56 step 2: the seek begins. -/
def startSeek (s : State) : State :=
  s.onDrive fun d => { d with stalls := 0, corrections := 0, budget := 0, motion := .homeSeek }.start .forward

/-- R30 step 1, R56 step 1: entry to HOMING with the order HOME, for a source. -/
def startHoming (src : Source) (s : State) : State :=
  let s := (s.onLamp Lamp.dark).onChanger fun c =>
    { c with
      state := .homing
      change := some { source := src, kind := .home, loopback := false, target := none, dir := .forward }
      keptLoop := .none
      dwellDue := false }
  if s.drive.lifter = .up then startSeek s else s.onDrive fun d => { d with motion := .homeLift }.lift

/-- R29: HOME taken in SHOWING: the queue, the stack and the position are given up, and homing starts. -/
def rehome (s : State) : State :=
  startHoming .host (s.onChanger fun c =>
    { c with queue := [], loops := [], homed := false, current := none, dwell := 0, run := 0 })

/-- R56, R12: the index is seen in the seek: the counter is 0, the tray is homed at slot 1, and the centre phase
begins with a BRAKE. The spec does not say what a pass in the brake of a first stall does, before or after its back-off;
the model takes it as the index seen: the brake under way keeps its time, and the window test of the centre phase
replaces the back-off or the drive that was to follow it (DESIGN CHOICE, log 14). -/
def indexSeen (s : State) : State :=
  let s := s.onDrive fun d =>
    let d := { d with position := 0, motion := .homeCentre, budget := 0 }
    if d.bridge = .brake then { d with afterBrake := .window } else d.brake .window
  s.onChanger fun c =>
    { c with homed := true, current := some 1, change := c.change.map fun ch => { ch with target := some 1 } }

/-! ### The Change Queue (R20 to R26) -/

/-- The sign of two counts agrees. -/
def sameSign (j k : Int) : Bool := (0 < j) == (0 < k)

/-- R23: a merged count, saturating at magnitude 9. -/
def mergeCount (j k : Int) : Int := clampInt (-9) 9 (j + k)

/-- R22: a new entry at the tail, if the queue holds fewer than 4. -/
def appendEntry (q : List Entry) (e : Entry) : Option (List Entry) := if q.length < 4 then some (q ++ [e]) else none

/-- The STEP entry of a source. -/
def stepEntry (src : Source) (k : Int) : Entry := { source := src, kind := .step k, loopback := false }

/-- R23 to R25: a STEP offered to the queue; none is QUEUE_FULL. -/
def queueStep (q : List Entry) (src : Source) (k : Int) : Option (List Entry) :=
  match q.getLast? with
  | none => appendEntry q (stepEntry src k)
  | some tail =>
    match tail.kind with
    | .goto _ => appendEntry q (stepEntry src k)
    | .step j =>
      if sameSign j k then
        if j.natAbs < 9 then some (q.dropLast ++ [{ tail with kind := .step (mergeCount j k) }])
        else appendEntry q (stepEntry src k)
      else if j + k = 0 then some q.dropLast
      else if k.natAbs < j.natAbs then some (q.dropLast ++ [{ tail with kind := .step (j + k) }])
      else some (q.dropLast ++ [stepEntry src (j + k)])

/-- R163, R26: the key that offered a displaced entry: NEXT or BACK for a STEP, GOTO for a GOTO. -/
def EntryKind.key : EntryKind → Nat
  | .step k => if 0 < k then 1 else 2
  | .goto _ => 3

/-- R26: a displaced tail is reported as refused to its own source. -/
def reportDisplaced (e : Entry) (s : State) : State :=
  let s := raise (.changeDone e.source .displaced) s
  match e.source with
  | .cue n => raise (.cueMissed n .displaced) s
  | .handset _ => raise (.keyRefused e.source e.kind.key .displaced) s
  | .console _ => raise (.keyRefused e.source e.kind.key .displaced) s
  | .host => s
  | .auto => s

/-- R20 step 3: homed no refuses the request, and in UNHOMED starts homing for its source. -/
def refuseUnhomed (src : Source) (s : State) : Offer :=
  turnedAway .notHomed (if s.changer.state = .unhomed then startHoming src s else s)

/-- The queue set, and the head taken in SHOWING (R31). -/
def enqueue (q : List Entry) (s : State) : State := pump (s.onChanger fun c => { c with queue := q })

/-- R20: a STEP offered to the Changer by a source. -/
def offerStep (src : Source) (k : Int) (s : State) : Offer :=
  if k = 0 ∨ 9 < k.natAbs then turnedAway .badValue s
  else if s.changer.tray = none then turnedAway .notHomed s
  else if s.changer.homed = false then refuseUnhomed src s
  else
    match queueStep s.changer.queue src k with
    | none => turnedAway .queueFull s
    | some q => taken (enqueue q s)

/-- R26: a GOTO enters the queue, in the tail's place when the queue is full. -/
def queueGoto (e : Entry) (s : State) : State :=
  match appendEntry s.changer.queue e with
  | some q => enqueue q s
  | none =>
    let s' := match s.changer.queue.getLast? with
      | none => s
      | some tail => reportDisplaced tail s
    enqueue (s.changer.queue.dropLast ++ [e]) s'

/-- R20: a GOTO offered to the Changer by a source. -/
def offerGoto (src : Source) (loopback : Bool) (n : Nat) (s : State) : Offer :=
  if n = 0 ∨ 140 < n then turnedAway .badIndex s
  else if s.changer.tray = none then turnedAway .notHomed s
  else if s.changer.size < n then turnedAway .badIndex s
  else if s.changer.homed = false then refuseUnhomed src s
  else taken (queueGoto { source := src, kind := .goto n, loopback := loopback } s)

/-- R28: hold set or released; taken in every state. -/
def setHold (held : Bool) (s : State) : State :=
  s.onChanger fun c => { c with held := held, dwellDue := !held && c.dwellDue }

/-! ### Dwell expiry (R43, R45) -/

/-- R43: at slot N with wrap off: HELD and TRAY_END; otherwise STEP +1 from AUTO. -/
def autoStep (s : State) : State :=
  if s.changer.wrap = false ∧ s.changer.current = some s.changer.size then
    raise (.trayEnd s.changer.size) (setHold true s)
  else (offerStep .auto 1 s).1

/-- R45: the loop-back at a LOOP-END expiry, by the top frame. -/
def loopBack (top : LoopFrame) (more : List LoopFrame) (s : State) : State :=
  if top.remaining = 0 then autoStep (s.onChanger fun c => { c with loops := more })
  else
    (offerGoto .auto true top.start
      (s.onChanger fun c => { c with loops := { top with remaining := top.remaining - 1 } :: more })).1

/-- R43: the dwell expiry. -/
def expireDwell (s : State) : State :=
  let s := s.onChanger fun c => { c with dwellDue := false }
  match s.changer.keptLoop, s.changer.loops with
  | .close, top :: more => loopBack top more s
  | _, _ => autoStep s

/-! ### The tray and the resets (R15, R18, R47) -/

/-- R15, R18: every record's occupancy becomes UNKNOWN. -/
def Changer.forget (c : Changer) : Changer := c.mapSlots 1 140 fun r => { r with occupancy := .unknown }

/-- R47: the running state of the Changer after either reset, before the tray switch is read. -/
def Changer.stopped (c : Changer) : Changer :=
  { c with
    queue := []
    change := none
    loops := []
    keptLoop := .none
    dwell := 0
    dwellDue := false
    run := 0
    held := false
    homed := false
    current := none
    tray := none
    state := .noTray }

/-- R15: the Changer as the tray is lifted off, but for its notices and the change record. Hold keeps its value. -/
def Changer.trayRemoved (c : Changer) : Changer :=
  { c.forget with
    queue := []
    loops := []
    state := .noTray
    tray := none
    homed := false
    current := none
    dwell := 0
    dwellDue := false
    run := 0 }

end Sys2Proof.Machine
end

