-- ==== Sys2Proof/Machine/RemoteOps.lean ====
section
/-! DEFINITION. Operations of the Remote Unit that several commands share: the keys handed to their owners (R163), the
classification of presses (R160, R161), the rights check (R162), pairing (R159) and a complete IR frame (R154, R155). -/

namespace Sys2Proof.Machine

/-! ### Keys (R162, R163) -/

/-- R163: a key offered to its owner, with its source; the focus keys are never refused. PAIR, STATUS and STATUS-ANSWER
have no owner here. -/
def offerKey (src : Source) (key : Nat) (args : List Nat) (s : State) : Offer :=
  match key with
  | 1 => offerStep src 1 s
  | 2 => offerStep src (-1) s
  | 3 => offerGoto src false (args.getD 0 0) s
  | 4 => taken (setHold (!s.changer.held) s)
  | 5 => taken (lightKey true s)
  | 6 => taken (lightKey false s)
  | 7 => taken (s.onDrive (Drive.focusKey .inward))
  | 8 => taken (s.onDrive (Drive.focusKey .outward))
  | 9 => taken (s.onTape (Tape.volume true))
  | 10 => taken (s.onTape (Tape.volume false))
  | 11 => taken (s.onTape fun t => t.setMute (!t.mute))
  | 12 => taken (s.onTape fun t => t.setDuck (!t.duckOn))
  | 13 => offerTapePlay s
  | 14 => offerTapePause s
  | 15 => offerLampOn s
  | 16 => taken (lampOff s)
  | _ => taken s

/-- R163: an allowed key becomes a request to its owner; a refusal raises KEY_REFUSED with the status code. -/
def actKey (src : Source) (key : Nat) (args : List Nat) (s : State) : State :=
  let o := offerKey src key args s
  if o.2 = .done then o.1 else raise (.keyRefused src key (.status o.2)) o.1

/-- R162: a handset key checked against the rights of its entry. PAIR has no action and is not checked (R155, R159). -/
def actHandsetKey (rights : Rights) (f : RemoteFrame) (s : State) : State :=
  if f.key = 17 then s
  else if rights.allows f.key then actKey (.handset f.source) f.key f.args s
  else raise (.keyRefused (.handset f.source) f.key .rights) s

/-! ### Presses (R157, R160, R161) -/

/-- R160: the class of a frame. -/
inductive Press
  | new
  | again
  | duplicate
  deriving DecidableEq, Repr

/-- R160, R161: a frame's class: whether it agrees with the last press, and its REPEAT flag. -/
def pressOf (same rep : Bool) : Press := if !same then .new else if rep then .again else .duplicate

/-- R157, R160: the class of a frame from a handset's entry; one that returns from LAPSED is a new press. -/
def Handset.press (h : Handset) (f : RemoteFrame) : Press :=
  if h.state = .lapsed then .new else pressOf (h.lastSeq == f.seq) f.rep

/-- R155, R157, R160: the entry after a frame dealt with through it: ACTIVE, quiet 0, and a new press's sequence. -/
def Handset.heard (h : Handset) (f : RemoteFrame) : Handset :=
  { h with
    state := .active
    quiet := 0
    lastSeq := if h.press f = .new then f.seq else h.lastSeq }

/-- R160: a frame from an ACTIVE or LAPSED entry. -/
def handsetFrame (n : Nat) (f : RemoteFrame) (s : State) : State :=
  let h := s.remote.handset n
  let s := s.onRemote fun r => r.setHandset n (h.heard f)
  match h.press f with
  | .new => actHandsetKey h.rights f s
  | .again => if keyRepeats f.key then actHandsetKey h.rights f s else s
  | .duplicate => s

/-- R161: a wired frame against the console record; a PAIR from the wire is dropped. -/
def consoleFrame (f : RemoteFrame) (s : State) : State :=
  if f.key = 17 then s
  else
    match pressOf (s.remote.console == some { station := f.source, seq := f.seq }) f.rep with
    | .new =>
      actKey (.console f.source) f.key f.args
        (s.onRemote fun r => { r with console := some { station := f.source, seq := f.seq } })
    | .again => if keyRepeats f.key then actKey (.console f.source) f.key f.args s else s
    | .duplicate => s

/-! ### Pairing (R159) -/

/-- The entry numbers of the Handset Table. -/
def handsetNumbers : List Nat := [1, 2, 3, 4, 5, 6, 7, 8]

/-- R155: the entry that holds an ID. -/
def Remote.find (r : Remote) (id : Nat) : Option Nat := handsetNumbers.find? fun n => (r.handset n).id == some id

/-- R159: the lowest-numbered EMPTY entry. -/
def Remote.firstEmpty (r : Remote) : Option Nat := handsetNumbers.find? fun n => (r.handset n).state == .empty

/-- R159: of two LAPSED entries the one with the longer quiet time, the first at a tie. -/
def Remote.longer (r : Remote) (best : Option Nat) (n : Nat) : Option Nat :=
  if (r.handset n).state ≠ .lapsed then best
  else
    match best with
    | none => some n
    | some m => if (r.handset m).quiet < (r.handset n).quiet then some n else some m

/-- R159: the LAPSED entry with the longest quiet time, the lowest-numbered among equals. -/
def Remote.longestLapsed (r : Remote) : Option Nat := handsetNumbers.foldl r.longer none

/-- R159: an entry takes an ID with the window's rights; HANDSET_PAIRED is raised and the window closes. -/
def pairEntry (n : Nat) (w : PairingWindow) (f : RemoteFrame) (old : Option Nat) (s : State) : State :=
  let s := s.onRemote fun r =>
    { r.setHandset n { state := .active, id := some f.source, rights := w.rights, lastSeq := f.seq, quiet := 0 } with
      window := none }
  raise (.handsetPaired n f.source w.rights old) s

/-- R159: a PAIR frame from an ID in no entry. -/
def pairNew (w : PairingWindow) (f : RemoteFrame) (s : State) : State :=
  match s.remote.firstEmpty with
  | some n => pairEntry n w f none s
  | none =>
    match s.remote.longestLapsed with
    | some n => pairEntry n w f (s.remote.handset n).id s
    | none => raise (.handsetRefused f.source .full) s

/-! ### A complete IR frame (R154, R155) -/

/-- R155: a frame for this projector, by the entry that holds its source. -/
def senderFrame (f : RemoteFrame) (s : State) : State :=
  match s.remote.find f.source, (if f.key = 17 then s.remote.window else none) with
  | none, none => s
  | none, some w => pairNew w f s
  | some n, w =>
    match (s.remote.handset n).state, w with
    | .blocked, none => s
    | .blocked, some _ => raise (.handsetRefused f.source .blocked) s
    | .active, some w => pairEntry n w f none s
    | .lapsed, some w => pairEntry n w f none s
    | .active, none => handsetFrame n f s
    | .lapsed, none => handsetFrame n f s
    | .empty, _ => s

/-- R154, R170: a destination is for this projector, by the address and the groups as they stand. -/
def Bus.hears (b : Bus) (dest : Nat) : Bool := dest == 0 || dest == 31 || dest == b.address || b.inGroup dest

/-- R154: a complete IR frame, checked in order; the first step that fails settles it. R170: `mine` is what was decided as
its destination byte completed. -/
def irFrameDone (bytes : List Byte) (mine : Bool) (s : State) : State :=
  let f := RemoteFrame.ofBytes bytes
  if !frameGood bytes then raise (.remoteBad .ir .check) s
  else if 31 < f.dest then raise (.remoteBad .ir .format) s
  else if !mine then s
  else if !f.wellFormed then raise (.remoteBad .ir .format) s
  else if f.key = 18 ∨ f.key = 19 then s
  else senderFrame f s

/-- R153: the IR receiver returns to IDLE. -/
def Remote.irIdle (r : Remote) : Remote := { r with ir := .idle, irGap := none }

/-- R153: the IR receiver stands in BYTES with these bytes taken, this decision of R170 and the gap timer started. -/
def Remote.irBytes (bytes : List Byte) (mine : Bool) (r : Remote) : Remote :=
  { r with ir := .bytes bytes mine, irGap := some Config.irGapMs }

/-- R153: an IR frame in reception is discarded with REMOTE_BAD. -/
def irDiscard (cause : FrameFault) (s : State) : State := raise (.remoteBad .ir cause) (s.onRemote Remote.irIdle)

/-- R153: a byte completes in BYTES with its stop bit present. R170: the destination byte decides whether the frame is for
this projector; a later change of the address or the groups leaves that decision. -/
def irByte (before : List Byte) (mine : Bool) (b : Byte) (s : State) : State :=
  let bytes := before ++ [b]
  let mine := if before.length == 1 then s.bus.hears b.toNat else mine
  if !frameLength (bytes.getD 0 0) then irDiscard .length s
  else if frameComplete bytes then irFrameDone bytes mine (s.onRemote Remote.irIdle)
  else s.onRemote (Remote.irBytes bytes mine)

/-- R169: the Remote Unit at a RESET request. -/
def Remote.resetRequest (r : Remote) : Remote := { r.irIdle with window := none, console := none }

end Sys2Proof.Machine
end

