-- ==== Sys2Proof/Machine/BusFrames.lean ====
section
/-! DEFINITION. Receiving on the wired bus (R171 to R174): a byte on a port, the decision at the destination byte, the
end of a frame and the frames taken in. -/

namespace Sys2Proof.Machine

/-! ### The end of a frame (R171, R174, R179) -/

/-- R174: REMOTE_BAD for a frame on IN that is consumed, or whose handling cannot be decided. -/
def reportBad (p : Port) (named : Bool) (cause : FrameFault) (s : State) : State :=
  match p with
  | .inn => if named then raise (.remoteBad .bus cause) s else s
  | .out => s

/-- R171, R179: a frame ends bad on a port, whose receiver enters `rx`: it is reported if it is consumed or undecided,
a length byte held for it is not sent, and the error counter rises. -/
def endBad (p : Port) (rx : BusRx) (named : Bool) (cause : FrameFault) (s : State) : State :=
  countBad (reportBad p named cause (s.onBus fun b => (b.dropHeld p).setRx p rx))

/-- R174: a good, consumed and well-formed frame: STATUS to the status answer, STATUS-ANSWER dropped, any other key to
the Remote Unit. A frame consumed with a destination in 1..23 carried the own address as its destination byte completed
(R170, R172); one to a group or to 31 is not answered. -/
def takeFrame (f : RemoteFrame) (s : State) : State :=
  if f.key = 18 then (if f.dest ≤ 23 then answerStatus f.seq s else s)
  else if f.key = 19 then s
  else consoleFrame f s

/-- R171, R174: a complete frame is judged; one that is consumed is dealt with first, and then the error counter moves. -/
def endComplete (p : Port) (bytes : List Byte) (consume : Bool) (s : State) : State :=
  if !frameGood bytes then endBad p .tail consume .check s
  else
    let f := RemoteFrame.ofBytes bytes
    if consume && !f.wellFormed then endBad p .tail true .format s
    else
      let s := s.onBus fun b => b.setRx p .tail
      countGood (if consume then takeFrame f s else s)

/-! ### A byte on a port (R171 to R173) -/

/-- R172: the destination byte on IN: consumed or not, forwarded or not; a destination that is neither is FORMAT. In
SILENT nothing is forwarded. Of a frame with only its length byte taken as the port leaves SILENT, R180 can be read both
ways; its destination byte completes in ACTIVE, and the model forwards it (DESIGN CHOICE, log 21). -/
def decideIn (length b : Byte) (s : State) : State :=
  let dest := b.toNat
  if dest = 0 ∨ 31 < dest then endBad .inn .tail true .format s
  else
    let consume := s.bus.consumes dest
    let forward := s.bus.forwards dest && s.bus.state != .silent
    let s := s.onBus fun u => u.setRx .inn (.frame [length, b] consume)
    if forward then startForward .inn [length, b] s else s.onBus (Bus.dropHeld .inn)

/-- R173: the destination byte on OUT: every frame goes upstream, but in SILENT. -/
def decideOut (length b : Byte) (s : State) : State :=
  let s := s.onBus fun u => u.setRx .out (.frame [length, b] false)
  if s.bus.state = .silent then s.onBus (Bus.dropHeld .out) else startForward .out [length, b] s

/-- R172, R173: the destination byte of a frame completes on a port. -/
def decideDestination (p : Port) (length b : Byte) (s : State) : State :=
  match p with
  | .inn => decideIn length b s
  | .out => decideOut length b s

/-- R171, R173: a byte in QUIET is the length byte of a new frame, held for its forward; outside 8..12 the frame ends
bad at once. -/
def firstByte (p : Port) (b : Byte) (s : State) : State :=
  let s := s.onBus (Bus.endForward p)
  if frameLength b then
    s.onBus fun u => (if u.state = .silent then u else u.setFwdFrom p .holding).setRx p (.frame [b] false)
  else endBad p .tail true .length s

/-- R171, R173: a later byte of a frame: sent on by a forward, and with the last the frame is complete. -/
def laterByte (p : Port) (before : List Byte) (consume : Bool) (b : Byte) (s : State) : State :=
  let bytes := before ++ [b]
  let s := s.onBus (Bus.forwardByte p b)
  if frameComplete bytes then endComplete p bytes consume s
  else s.onBus fun u => u.setRx p (.frame bytes consume)

/-- R171: a byte completes on a port. While the port transmits, the byte is its own read-back and is not received. -/
def busByte (p : Port) (b : Byte) (s : State) : State :=
  if s.bus.transmits p then s
  else
    match s.bus.rx p with
    | .quiet => firstByte p b s
    | .tail => s
    | .frame [length] _ => decideDestination p length b s
    | .frame before consume => laterByte p before consume b s

/-- R171: a byte in error completes on a port. -/
def busErrorByte (p : Port) (s : State) : State :=
  if s.bus.transmits p then s
  else
    match s.bus.rx p with
    | .quiet => endBad p .tail true .framing (s.onBus (Bus.endForward p))
    | .tail => s
    | .frame before consume => endBad p .tail (consume || before.length == 1) .framing s

/-- R171: two byte times without a byte in FRAME. The spec does not say what becomes of a frame in reception whose own port
starts to transmit a forward; the model leaves its receiver in FRAME with no gap counted, and the end of the
transmission puts it in TAIL, the frame being neither good nor bad (DESIGN CHOICE, log 21). -/
def busGap (p : Port) (s : State) : State :=
  if s.bus.transmits p then s
  else
    match s.bus.rx p with
    | .frame before consume => endBad p .quiet (consume || before.length == 1) .gap s
    | .quiet => s
    | .tail => s

/-- R171: the byte would complete the frame a port is receiving. -/
def BusRx.completes (r : BusRx) (b : Byte) : Bool :=
  match r with
  | .frame before _ => frameComplete (before ++ [b])
  | .quiet => false
  | .tail => false

/-- R171: exactly the length byte of a frame has been taken. -/
def BusRx.atDestination : BusRx → Bool
  | .frame before _ => before.length == 1
  | .quiet => false
  | .tail => false

/-- R171: the receiver is in FRAME. -/
def BusRx.inFrame : BusRx → Bool
  | .frame _ _ => true
  | .quiet => false
  | .tail => false

/-- R173, R175, R177: a collision in what a port is sending: a forward is abandoned, an origination retried, a status
answer abandoned; the error counter rises by 8. -/
def collide (p : Port) (s : State) : State :=
  match p with
  | .out =>
    if s.bus.fwdDown.isSending then countCollision (s.onBus (Bus.cutForward .inn))
    else if s.bus.originating then retryFrame (countCollision s)
    else s
  | .inn =>
    if s.bus.fwdUp.isSending then countCollision (s.onBus (Bus.cutForward .out))
    else if s.bus.answering then countCollision (s.onBus Bus.abandonAnswer)
    else s

end Sys2Proof.Machine
end

