-- ==== Sys2Proof/Machine/Payload.lean ====
section
/-! DEFINITION. The payload bytes of the responses: the record layouts of 10_panel_link, the table of notice
arguments, and the payloads without a layout by the conventions of R184 (log 11). -/

namespace Sys2Proof.Machine

/-- R184: a single value that may be absent, in one byte: 255 for absent. -/
def optByte (v : Option Nat) : List Byte := u8 (v.getD 255)

/-- R184: a single value that may be absent, in two bytes: 65535 for absent. -/
def optWord (v : Option Nat) : List Byte := u16 (v.getD 65535)

/-- A number that is 0 for none (the layouts and the notice arguments that say so). -/
def orZero (v : Option Nat) : Nat := v.getD 0

/-- A timer in tenths of a second: a tenth begun counts as one (log 3). -/
def tenths (ms : Nat) : Nat := (ms + 99) / 100

/-- A timer in seconds: a second begun counts as one (log 3). -/
def seconds (ms : Nat) : Nat := (ms + 999) / 1000

/-! ### Record layouts -/

/-- The slot record layout, 17 bytes. -/
def slotBytes (n : Nat) (r : SlotRecord) : List Byte :=
  u8 n ++ flag r.programmed ++ u8 r.occupancy.code ++ u16 r.dwell ++ u16 r.fadeOut ++ u16 r.fadeIn ++ u16 r.light ++
  u8 r.cls ++ optByte r.sound ++ u8 r.tapeMark.code ++ flag r.hold ++ u8 r.loop.code.1 ++ u8 r.loop.code.2

/-- The two bytes of a loop frame; 0, 0 if absent. -/
def loopFrameBytes (f : Option LoopFrame) : List Byte :=
  match f with
  | none => u8 0 ++ u8 0
  | some f => u8 f.start ++ u8 f.remaining

/-- The Show Context layout, 15 bytes (R13). -/
def showBytes (s : State) : List Byte :=
  let c := s.changer
  u8 c.size ++ flag c.homed ++ u8 (orZero c.current) ++ u8 c.state.code ++ flag c.held ++ u16 c.dwell ++
  u8 c.loops.length ++ loopFrameBytes c.loops[0]? ++ loopFrameBytes c.loops[1]? ++ optWord s.lamp.override ++ u8 c.run

/-- R14: the three options, in the order of its table. -/
def optionBytesOf (c : Changer) : List Byte := flag c.skipEmpty ++ flag c.skipBlank ++ flag c.wrap

/-- The action number and the four argument bytes of the cue entry layout. -/
def cueActionBytes (a : Option CueAction) : List Byte :=
  match a with
  | none => u8 0 ++ u32 0
  | some (.step k) => u8 1 ++ u8 (if k < 0 then 1 else 0) ++ u8 k.natAbs ++ u16 0
  | some (.goto n) => u8 2 ++ u16 n ++ u16 0
  | some .hold => u8 3 ++ u32 0
  | some .resume => u8 4 ++ u32 0
  | some (.light v) => u8 5 ++ u16 v ++ u16 0
  | some (.profile p) => u8 6 ++ u8 p ++ u8 0 ++ u16 0
  | some (.gain a) => u8 7 ++ u8 a ++ u8 0 ++ u16 0
  | some (.duck on) => u8 8 ++ flag on ++ u8 0 ++ u16 0
  | some .tapePause => u8 9 ++ u32 0
  | some (.relay address key arg) => u8 10 ++ u8 address ++ u8 key ++ flag arg.isSome ++ u8 (orZero arg)
  | some (.notify v) => u8 11 ++ u8 v ++ u8 0 ++ u16 0

/-- The tape window of the cue entry layout: present, from, to. -/
def tapeWindowBytes (w : Option Window) : List Byte :=
  match w with
  | none => u8 0 ++ u16 0 ++ u16 0
  | some w => u8 1 ++ u16 w.lo ++ u16 w.hi

/-- The slot window of the cue entry layout: present, lo, hi. -/
def slotWindowBytes (w : Option Window) : List Byte :=
  match w with
  | none => u8 0 ++ u8 0 ++ u8 0
  | some w => u8 1 ++ u8 w.lo ++ u8 w.hi

/-- The cue entry layout, 20 bytes. -/
def cueEntryBytes (n : Nat) (e : CueEntry) : List Byte :=
  u8 n ++ u8 e.state.code ++ u16 e.code.toNat ++ u8 e.selector.code ++ cueActionBytes e.action ++ flag e.single ++
  tapeWindowBytes e.tapeWindow ++ slotWindowBytes e.slotWindow ++ u8 e.hits

/-- Bytes 0..7 of the handset entry layout. -/
def handsetBytes (n : Nat) (h : Handset) : List Byte :=
  u8 n ++ u8 h.state.code ++ u16 (orZero h.id) ++ u8 h.rights.code ++ u8 h.lastSeq ++ u16 h.quiet

/-- Bytes 8..10 of the handset entry layout: the pairing window. -/
def windowBytes (w : Option PairingWindow) : List Byte :=
  match w with
  | none => u8 0 ++ u8 0 ++ u8 0
  | some w => u8 1 ++ u8 w.rights.code ++ u8 (seconds w.left)

/-- Bytes 11..14 of the handset entry layout: the console record. -/
def consoleBytes (c : Option ConsoleRecord) : List Byte :=
  match c with
  | none => u8 0 ++ u16 0 ++ u8 0
  | some c => u8 1 ++ u16 c.station ++ u8 c.seq

/-- R98: the role of profile p: neither 0, active 1, pending 2. -/
def Thermal.role (t : Thermal) (p : Fin 8) : Nat :=
  if t.active = p then 1 else if t.next = some p then 2 else 0

/-- The profile layout, 48 bytes. -/
def profileBytes (t : Thermal) (i : Fin 8) : List Byte :=
  let p := t.profiles[i]
  u8 i.val ++ flag p.valid ++ u8 (t.role i) ++ p.c.toList.flatMap s16 ++ s16 p.cP ++ s16 p.cF ++ u8 p.q ++ s16 p.tset ++
  u8 p.k ++ u16 p.floor ++ u16 p.slew ++ s16 p.w ++ s16 p.h ++ s16 p.x ++ u16 p.warmCap ++ u16 p.hotCap ++
  u16 p.coolTime ++ s16 p.coolLimit ++ u16 p.guardLevel ++ u8 0

/-- The sensor-fault state, its fault-period count and good run. -/
def sensorBytes : SensorState → List Byte
  | .good => u8 0 ++ u8 0 ++ u8 0
  | .suspect => u8 1 ++ u8 0 ++ u8 0
  | .fault c g => u8 2 ++ u8 c ++ u8 g

/-- The fan-fault state, its slow run, fault-time count and good run. -/
def fanBytes : FanState → List Byte
  | .good r => u8 0 ++ u8 r ++ u8 0 ++ u8 0
  | .fault t g => u8 1 ++ u8 0 ++ u8 t ++ u8 g

/-- The delay line: FILLED, then x0..x7, 0 while UNFILLED. -/
def lineBytes (l : Option (Vector Int 8)) : List Byte :=
  match l with
  | none => u8 0 ++ List.replicate 16 0
  | some v => u8 1 ++ v.toList.flatMap s16

/-- The Thermal Snapshot layout, 48 bytes (R108). -/
def snapshotBytes (n : Snapshot) : List Byte :=
  u16 n.raw ++ u16 n.corrected ++ s16 n.theta ++ s16 n.est ++ u8 n.band.code ++ u16 n.namedCap ++ u16 n.duty ++
  u16 n.demand ++ optWord n.speed ++ u8 n.active.val ++ optByte (n.next.map Fin.val) ++ flag n.saturated ++
  sensorBytes n.sensor ++ fanBytes n.fan ++ lineBytes n.line ++ u32 n.count

/-! ### Payloads without a layout, by the conventions of R184 -/

/-- A ramp in progress: 1, a, b, n and the steps counted; or 0 and zeros. Light values take two bytes. -/
def lightRampBytes (r : Option Ramp) : List Byte :=
  match r with
  | none => List.replicate 9 0
  | some r => u8 1 ++ u16 r.a ++ u16 r.b ++ u16 r.n ++ u16 r.k

/-- A base ramp in progress; attenuation values take one byte. -/
def soundRampBytes (r : Option Ramp) : List Byte :=
  match r with
  | none => List.replicate 7 0
  | some r => u8 1 ++ u8 r.a ++ u8 r.b ++ u16 r.n ++ u16 r.k

/-- A duck ramp in progress: 1, a, b and the steps counted. -/
def duckRampBytes (r : Option Ramp) : List Byte :=
  match r with
  | none => List.replicate 4 0
  | some r => u8 1 ++ u8 r.a ++ u8 r.b ++ u8 r.k

/-- A timer: 1 and the milliseconds left, or 0 and zeros. -/
def timerBytes (t : Option Nat) : List Byte :=
  match t with
  | none => u8 0 ++ u16 0
  | some ms => u8 1 ++ u16 ms

/-- R65: the motion and the phase of a HOME. DESIGN CHOICE (log 11): the motion is carried by its place in the list, none at
0, with no byte of presence before it, and the phase is 0 for every motion but a HOME. -/
def motionBytes (d : Drive) : List Byte :=
  if d.backingOff then u8 3 ++ u8 0
  else
    match d.motion with
    | .none => u8 0 ++ u8 0
    | .turn _ _ => u8 1 ++ u8 0
    | .homeLift => u8 2 ++ u8 0
    | .homeSeek => u8 2 ++ u8 1
    | .homeCentre => u8 2 ++ u8 2

/-- R65: the focus state, its parts in turn: its list position, the direction and the kind of run. The direction part is
PAUSING's alone and is 0 in RUNNING_IN and RUNNING_OUT, whose list position gives the direction (log 11). -/
def focusBytes (f : Focus) : List Byte :=
  match f with
  | .stopped => u8 0 ++ u8 0 ++ u8 0
  | .running dir run => u8 (1 + focusDirCode dir) ++ u8 0 ++ u8 run.code
  | .pausing dir run => u8 3 ++ u8 (focusDirCode dir) ++ u8 run.code

/-- R65: READ DRIVE's payload. -/
def driveBytes (s : State) : List Byte :=
  let d := s.drive
  flag s.changer.tray.isSome ++ u8 ((s.changer.tray.map TraySize.lugs).getD 0) ++ u16 d.position ++
  u16 (modulus s.changer.size) ++ u16 d.revolutions ++ u8 d.bridge.code ++ motionBytes d ++ u8 d.stalls ++
  u8 d.corrections ++ u16 d.budget ++ u8 d.lifter.code ++ u8 d.lifterDrive.code ++ u8 (if d.gate then 0 else 1) ++
  focusBytes d.focus ++ flag d.endIn ++ flag d.endOut

/-- R84: READ LAMP's payload; a limit of 0 is no limit (R83). -/
def lampBytes (s : State) : List Byte :=
  let l := s.lamp
  u8 l.state.code ++ u8 (if l.dest = .off then 0 else 1) ++ u8 l.attempts ++ u16 (tenths l.warmUp) ++
  u16 (tenths l.coolDown) ++ u8 (if l.flowing then 0 else 1) ++ u8 (if l.checkDone then 1 else 0) ++
  u8 l.bandView.code ++ flag l.coolFlag ++ u16 l.delivered ++ u16 l.fade ++ lightRampBytes l.ramp ++
  flag l.darkHold ++ u16 (baseLevel s) ++ optWord l.override ++ u16 l.warmCap ++ u16 l.appliedCap ++ u32 l.exposure ++
  u8 l.govClass ++ u32 (l.limit l.govClass) ++ flag l.guard ++ u16 s.thermal.profile.guardLevel

/-- R83: the limits of all four classes; class 3 holds none. -/
def limitBytes (l : Lamp) : List Byte := u32 (l.limit 0) ++ u32 (l.limit 1) ++ u32 (l.limit 2) ++ u32 (l.limit 3)

/-- R88: the calibration record. -/
def calibrationBytes (c : Calibration) : List Byte := s16 c.offset ++ u16 c.gain ++ s16 c.zero

/-- R119: the tape counter, its mark (SURE 0, UNSURE 1) and residue. -/
def counterBytes (t : Tape) : List Byte := u16 t.counter ++ u8 (if t.sure then 0 else 1) ++ u8 t.residue

/-- R125: the output, 0..119, or the byte of MUTE. -/
def outputBytes (o : Option Nat) : List Byte :=
  match o with
  | none => [Config.muteByte]
  | some v => u8 v

/-- R111: the run-down: present, time left and pending motion. -/
def runDownBytes (r : Option RunDown) : List Byte :=
  match r with
  | none => u8 0 ++ u16 0 ++ u8 0
  | some r => u8 1 ++ u16 r.left ++ u8 r.next.code

/-- R125: READ TAPE's payload. -/
def tapeBytes (t : Tape) : List Byte :=
  u8 t.transport.code ++ runDownBytes t.runDown ++ u8 (if t.transport = .noTape then 0 else 1) ++ counterBytes t ++
  timerBytes t.endTimer ++ timerBytes t.reelTimer ++ u8 t.base ++ soundRampBytes t.baseRamp ++ flag t.duckOn ++
  u8 t.duckDepth ++ u8 t.duckTerm ++ duckRampBytes t.duckRamp ++ flag t.mute ++ outputBytes t.output

/-- R123: SET DUCK DEPTH's answer: the switch, the depth and the term. -/
def duckBytes (t : Tape) : List Byte := flag t.duckOn ++ u8 t.duckDepth ++ u8 t.duckTerm

/-- R146: the Learn Buffer: present, code, kind, counter value and mark. -/
def learnRecordBytes (r : Option LearnRecord) : List Byte :=
  match r with
  | none => u8 0 ++ u16 0 ++ u8 0 ++ u16 0 ++ u8 0
  | some r => u8 1 ++ u16 r.code.toNat ++ u8 r.kind.code ++ u16 r.counter ++ u8 (if r.sure then 0 else 1)

/-- R129: the receiver and its count of bits taken. -/
def cueRxBytes : CueRx → List Byte
  | .idle => u8 0 ++ u8 0
  | .start => u8 1 ++ u8 0
  | .word bits => u8 2 ++ u8 bits.length

/-- R131: the holding word: present, code and time left. -/
def holdingBytes (h : Option HeldWord) : List Byte :=
  match h with
  | none => u8 0 ++ u16 0 ++ u8 0
  | some h => u8 1 ++ u16 h.code.toNat ++ u8 h.left

/-- R133: the pulse detector: timing, and the length so far. -/
def burstBytes (b : Option Nat) : List Byte :=
  match b with
  | none => u8 0 ++ u32 0
  | some ms => u8 1 ++ u32 ms

/-- R136: the three masks. -/
def maskBytes (u : CueUnit) : List Byte := u16 u.maskGlobal.toNat ++ u16 u.maskA.toNat ++ u16 u.maskB.toNat

/-- R148: the count of entries in a state. -/
def CueUnit.count (u : CueUnit) (st : CueState) : Nat := u.map.toList.countP (fun e => e.state == st)

/-- R148: READ CUE UNIT's payload. -/
def cueUnitBytes (s : State) : List Byte :=
  let u := s.cue
  u8 (if cueGateOpen s then 0 else 1) ++ cueRxBytes u.rx ++ holdingBytes u.holding ++ burstBytes u.burst ++
  flag u.confirm ++ flag u.legacy ++ maskBytes u ++ u8 u.learn.code ++ learnRecordBytes u.buffer ++
  u8 (u.count .free) ++ u8 (u.count .armed) ++ u8 (u.count .paused) ++ u8 (u.count .spent)

/-- R170: the own address and the group set, seven bytes for 24..30. -/
def addressBytes (b : Bus) : List Byte := u8 b.address ++ b.groups.toList.flatMap flag

/-- R171: a receiver and its bytes taken. -/
def busRxBytes : BusRx → List Byte
  | .quiet => u8 0 ++ u8 0
  | .frame taken _ => u8 1 ++ u8 taken.length
  | .tail => u8 2 ++ u8 0

/-- R181: a forwarding state. -/
def Forward.code : Forward → Nat
  | .none => 0
  | .holding => 1
  | .sending _ => 2
  | .abandoned => 3

/-- R181: the status answer: held, and the sequence answered. -/
def answerBytes (a : Option StatusAnswer) : List Byte :=
  match a with
  | none => u8 0 ++ u8 0
  | some a => u8 1 ++ u8 a.seq

/-- R181: the Origination Slot. -/
def originationBytes (o : Option Origination) : List Byte :=
  match o with
  | none => List.replicate 9 0
  | some o => u8 1 ++ u8 o.origin ++ u8 o.dest ++ u8 o.key ++ u8 o.seq ++ u8 o.phase.code ++ u8 o.retries ++ u16 o.wait

/-- R181: READ PORT's payload. -/
def portBytes (b : Bus) : List Byte :=
  addressBytes b ++ u8 b.state.code ++ u8 b.errors ++ u8 b.goodRun ++ busRxBytes b.rxIn ++ busRxBytes b.rxOut ++
  u8 b.fwdDown.code ++ u8 b.fwdUp.code ++ answerBytes b.answer ++ originationBytes b.slot ++ u8 b.running

/-! ### Notice arguments -/

/-- R19: the two identity bytes of a source; HOST and AUTO carry none (log 6). -/
def identityBytes : Source → List Byte
  | .host => u16 Config.noIdentity.toNat
  | .cue e => u16 e
  | .handset i => u16 i
  | .console st => u16 st
  | .auto => u16 Config.noIdentity.toNat

/-- The argument fields of a notice, in order (table of notice arguments). -/
def Notice.fields : Notice → List Byte
  | .changeDone src r => u8 src.code ++ identityBytes src ++ u8 r.code
  | .slotEmpty n => u8 n
  | .jam r n => u8 r.code ++ u8 (orZero n)
  | .slip d => s16 d
  | .trayIn n => u8 n
  | .trayOut => []
  | .trayEnd n => u8 n
  | .gateChanged n => u8 n
  | .loopDepth n => u8 n
  | .lampFail c => u8 c.code
  | .lampTrip st => u8 st.code
  | .exposureGuard n c => u8 (orZero n) ++ u8 c
  | .thermWarn t => s16 t
  | .thermHot t c => s16 t ++ u8 c.code
  | .sensorFault r => u16 r
  | .fanFault sp => optWord sp
  | .saturated n => u32 n
  | .tapeEnd c st n => u8 c.code ++ u8 st.code ++ u16 n
  | .cueHit e code v => u8 e ++ u16 code.toNat ++ u8 v
  | .cueMissed e r => u8 e ++ u8 r.code
  | .cueBad c => u8 c.code
  | .cueUnmatched code => u16 code.toNat
  | .learnReady code => u16 code.toNat
  | .learnOverrun code => u16 code.toNat
  | .remoteBad p c => u8 p.code ++ u8 c.code
  | .keyRefused src key r => u8 src.code ++ identityBytes src ++ u8 key ++ u8 r.code
  | .handsetPaired e i r old => u8 e ++ u16 i ++ u8 r.code ++ u16 (orZero old)
  | .handsetRefused i c => u16 i ++ u8 c.code
  | .relayDropped o d k c => u8 o ++ u8 d ++ u8 k ++ u8 c.code
  | .portState st n => u8 st.code ++ u8 n

/-- Notice arguments: padded with 0 to six bytes; an empty place gives six bytes of 0 (R189). -/
def Place.bytes (p : Place) : List Byte :=
  match p.arg with
  | none => List.replicate 6 0
  | some n => (n.fields ++ List.replicate 6 0).take 6

end Sys2Proof.Machine
end

