-- ==== Sys2Proof/Machine/BusCmds.lean ====
section
/-! DEFINITION. The commands of the Bus Port (09_wired_bus_and_link_through). -/

namespace Sys2Proof.Machine

/-! ### Host requests -/

/-- R170: the own group set as the seven places of 24..30. -/
def groupSet (groups : List Nat) : Vector Bool 7 := Vector.ofFn fun i : Fin 7 => groups.contains (24 + i.val)

/-- R170: SET ADDRESS, answered with the address and the groups. -/
def execSetAddress (address : Nat) (groups : List Nat) (s : State) : Host.Outcome State Fault Refusal :=
  hostRequest (.setAddress address groups) (fun s =>
    if 1 ≤ address ∧ address ≤ 23 ∧ groups.all (fun g => 24 ≤ g && g ≤ 30) = true then
      let s := s.onBus fun b => { b with address := address, groups := groupSet groups }
      answer s (addressBytes s.bus)
    else refuse .badValue s) s

/-- R176: the values of a SEND FRAME pass its first check. -/
def sendFrameInRange (dest key : Nat) (args : List Nat) (rep : Nat) : Bool :=
  1 ≤ dest && dest ≤ 31 && keySendable key && keyArgs key == some args.length && (onOff rep).isSome

/-- R176: SEND FRAME. A REPEAT choice other than set and clear is refused with BAD_VALUE (log 12). -/
def execSendFrame (dest key : Nat) (args : List Nat) (rep : Nat) (s : State) : Host.Outcome State Fault Refusal :=
  hostRequest (.sendFrame dest key args rep) (fun s =>
    if sendFrameInRange dest key args rep then .ofOffer (offerFrame 0 dest key args (rep == 1) s)
    else refuse .badValue s) s

/-- R178: PORT ABORT, answered with whether a frame was removed. -/
def execPortAbort (s : State) : Host.Outcome State Fault Refusal :=
  hostRequest .portAbort (fun s => answer (s.onBus Bus.emptySlot) (flag s.bus.slot.isSome)) s

/-- R180: PORT RESTART. -/
def execPortRestart (s : State) : Host.Outcome State Fault Refusal :=
  hostRequest .portRestart (fun s =>
    let s := s.onBus fun b => { b with errors := 0, goodRun := 0 }
    answer (if s.bus.state = .active then s else enterPort .active s)) s

/-- R181: READ PORT. -/
def execReadPort (s : State) : Host.Outcome State Fault Refusal :=
  hostRequest .readPort (fun s => answer s (portBytes s.bus)) s

/-! ### Receiving -/

/-- R172: the destination byte of a frame completes. -/
def execBusDestinationDecided (p : Port) (b : Byte) (s : State) : Host.Outcome State Fault Refusal :=
  .next (if (s.bus.rx p).atDestination then busByte p b s else s)

/-- R171: a frame ends: with its last byte, or with a byte in error (none). -/
def execBusFrameEnd (p : Port) (last : Option Byte) (s : State) : Host.Outcome State Fault Refusal :=
  match last with
  | some b => .next (if (s.bus.rx p).completes b then busByte p b s else s)
  | none => .next (busErrorByte p s)

/-- R171: two byte times pass with no byte in FRAME. -/
def execBusGapTimeout (p : Port) (s : State) : Host.Outcome State Fault Refusal := .next (busGap p s)

/-- R171: two byte times of quiet in TAIL. -/
def execBusTailQuiet (p : Port) (s : State) : Host.Outcome State Fault Refusal :=
  .next (if s.bus.rx p = .tail ∧ s.bus.transmits p = false then s.onBus fun b => b.setRx p .quiet else s)

/-- R171: a byte completes on a port. -/
def execBusByteReceived (p : Port) (b : Byte) (s : State) : Host.Outcome State Fault Refusal := .next (busByte p b s)

/-! ### Sending -/

/-- R173, R175, R177: a byte read back changed while a port sends. -/
def execBusCollision (p : Port) (s : State) : Host.Outcome State Fault Refusal := .next (collide p s)

/-- R173: a forward ends on its sending port, once the frame has ended on the receiving port. -/
def execBusForwardEnd (sender : Port) (s : State) : Host.Outcome State Fault Refusal :=
  .next (if (s.bus.rx (otherPort sender)).inFrame then s else s.onBus (Bus.endForward (otherPort sender)))

/-- R175: the held answer starts once IN is quiet and no upstream forward is under way. -/
def execStatusAnswerStart (s : State) : Host.Outcome State Fault Refusal :=
  match s.bus.answer with
  | some a =>
    if a.sending = false ∧ s.bus.state = .active ∧ s.bus.rxIn = .quiet ∧ s.bus.fwdUp.idle = true then
      .next (s.onBus fun b => { b with answer := some { a with sending := true } })
    else .next s
  | none => .next s

/-- R175: the last byte of the answer is sent. -/
def execStatusAnswerDone (s : State) : Host.Outcome State Fault Refusal :=
  .next (if s.bus.answering then s.onBus Bus.abandonAnswer else s)

/-- R175: 500 ms pass before the held answer starts. -/
def execStatusAnswerTimeout (s : State) : Host.Outcome State Fault Refusal :=
  .next (if s.bus.answering then s else s.onBus Bus.abandonAnswer)

/-- R177: the waiting frame goes to SENDING once OUT is quiet and no downstream forward is under way. -/
def execOriginationStart (s : State) : Host.Outcome State Fault Refusal :=
  match s.bus.slot with
  | some o =>
    if o.phase = .waiting ∧ s.bus.state = .active ∧ s.bus.rxOut = .quiet ∧ s.bus.fwdDown.idle = true then
      .next (s.onBus fun b => { b with slot := some { o with phase := .sending } })
    else .next s
  | none => .next s

/-- R177: the last byte of the frame is read back unchanged: it has gone. -/
def execOriginationDone (s : State) : Host.Outcome State Fault Refusal :=
  .next (if s.bus.originating then s.onBus Bus.emptySlot else s)

/-- R177: the wait clock runs out. -/
def execOriginationWaitTimeout (s : State) : Host.Outcome State Fault Refusal :=
  match s.bus.slot with
  | some o => .next (if o.phase = .waiting then dropFrame .wait s else s)
  | none => .next s

/-- R177: the back-off ends and the frame waits again. -/
def execBackoffEnd (s : State) : Host.Outcome State Fault Refusal :=
  match s.bus.slot with
  | some o =>
    if o.phase = .backoff then
      .next (s.onBus fun b => { b with slot := some { o with phase := .waiting, wait := Config.busWaitMs } })
    else .next s
  | none => .next s

end Sys2Proof.Machine
end

