-- ==== Sys2Proof/Machine/Changing.lean ====
section
/-! DEFINITION. The commands of changing slides (02_changing_slides): the host's change requests, the ends of the fades
and of the settle, and the dwell timer. -/

namespace Sys2Proof.Machine

/-- R20: STEP. -/
def execStep (k : Int) (s : State) : Host.Outcome State Fault Refusal :=
  hostRequest (.step k) (fun s => .ofOffer (offerStep .host k s)) s

/-- R20, R26: GOTO. -/
def execGoto (n : Nat) (s : State) : Host.Outcome State Fault Refusal :=
  hostRequest (.goto n) (fun s => .ofOffer (offerGoto .host false n s)) s

/-- R29: HOME by changer state. -/
def offerHome (s : State) : Offer :=
  match s.changer.state with
  | .noTray => turnedAway .notHomed s
  | .unhomed => taken (startHoming .host s)
  | .jammed => taken (startHoming .host s)
  | .homing => taken s
  | .showing => taken (rehome s)
  | .fadingOut => turnedAway .notNow s
  | .lifting => turnedAway .notNow s
  | .rotating => turnedAway .notNow s
  | .dropping => turnedAway .notNow s
  | .settling => turnedAway .notNow s
  | .fadingIn => turnedAway .notNow s

/-- R29: HOME. -/
def execHome (s : State) : Host.Outcome State Fault Refusal :=
  hostRequest .home (fun s => .ofOffer (offerHome s)) s

/-- R28: HOLD. -/
def execHold (s : State) : Host.Outcome State Fault Refusal :=
  hostRequest .hold (fun s => answer (setHold true s)) s

/-- R28: RESUME. -/
def execResume (s : State) : Host.Outcome State Fault Refusal :=
  hostRequest .resume (fun s => answer (setHold false s)) s

/-- R27: FLUSH, answered with the number of entries removed. -/
def execFlush (s : State) : Host.Outcome State Fault Refusal :=
  hostRequest .flush (fun s =>
    answer (s.onChanger fun c => { c with queue := [] }) (u8 s.changer.queue.length)) s

/-- R34: the fade-out has ended. -/
def execFadeOutEnd (s : State) : Host.Outcome State Fault Refusal :=
  if s.changer.state = .fadingOut ∧ s.lamp.ramp = none then .next (enterLifting s) else .next s

/-- R36: the fade-in has ended. -/
def execFadeInEnd (s : State) : Host.Outcome State Fault Refusal :=
  if s.changer.state = .fadingIn ∧ s.lamp.ramp = none then .next (enterShowing s) else .next s

/-- R60: the 80 ms of the settle end with the gate report. -/
def execSettleEnd (s : State) : Host.Outcome State Fault Refusal :=
  if s.changer.state = .settling ∧ s.drive.settleTimer.isSome = true then
    .next (settleEnd (s.onDrive fun d => { d with settleTimer := none }))
  else .next s

/-- R41, R42: one tenth counted and compared with the current slot's dwell. -/
def Changer.countDwell (c : Changer) : Changer :=
  match c.currentSlot with
  | none => c
  | some r =>
    let e := satAdd 9999 c.dwell 1
    { c with dwell := e, dwellDue := decide (r.dwell ≤ e) }

/-- R41: a tenth of a second, counted while the dwell timer's conditions hold. -/
def execDwellTenth (s : State) : Host.Outcome State Fault Refusal :=
  if s.changer.dwellRuns then .next (s.onChanger Changer.countDwell) else .next s

/-- R43: the dwell expires at the tenth that found it due. -/
def execDwellExpiry (s : State) : Host.Outcome State Fault Refusal :=
  if s.changer.dwellDue = true ∧ s.changer.dwellRuns = true then .next (expireDwell s) else .next s

end Sys2Proof.Machine
end

