-- ==== Sys2Proof/Machine/ThermalOps.lean ====
section
/-! DEFINITION. The Thermal Unit's period computation, stage by stage (R87 to R108), and SELECT PROFILE, which the host
and a cue action share. -/

namespace Sys2Proof.Machine

/-! ### Profiles (R99, R100) -/

/-- R99: SELECT PROFILE p, of any source. -/
def offerProfile (p : Nat) (s : State) : Offer :=
  match profileIndex p with
  | none => turnedAway .badIndex s
  | some i =>
    if s.thermal.profiles[i].valid = false then turnedAway .badValue s
    else taken (s.onThermal fun t => { t with next := if i = t.active then none else some i })

/-- R100, stage 1: a pending profile becomes active. -/
def Thermal.activate (t : Thermal) : Thermal := { t with active := t.next.getD t.active, next := none }

/-! ### Stages 2 and 3: the sample (R89 to R93) -/

/-- R89: a sample is bad at either end of the converter's range. -/
def sampleBad (r : Sample) : Bool := r.toNat ≤ 15 || 4080 ≤ r.toNat

/-- R89: the corrected count s. -/
def corrected (cal : Calibration) (r : Sample) : Nat := (clampInt 0 4095 ((r.toNat : Int) - cal.offset)).toNat

/-- R92: the temperature code of a corrected count. -/
def tempCode (cal : Calibration) (s : Nat) : Int :=
  clampInt (-320) 3200 ((((s * cal.gain + 2048) / 4096 : Nat) : Int) + cal.zero)

/-- R90, R91: the sensor-fault state moves on a period's sample. -/
def SensorState.move (bad : Bool) : SensorState → SensorState
  | .good => if bad then .suspect else .good
  | .suspect => if bad then .fault 1 0 else .good
  | .fault c g =>
    if bad then .fault (min 80 (c + 1)) 0 else if g + 1 < 4 then .fault (min 80 (c + 1)) (g + 1) else .good

/-- R90, R91: the sample is used: it is good, and in FAULT it is the fourth of its run. DESIGN CHOICE (log 19): so also
where the delay line is still UNFILLED in FAULT, which R93 leaves open. -/
def SensorState.uses (bad : Bool) : SensorState → Bool
  | .good => !bad
  | .suspect => !bad
  | .fault _ g => !bad && decide (4 ≤ g + 1)

/-- R93: every place of the delay line takes one code. -/
def fillLine (theta : Int) : Vector Int 8 := Vector.replicate 8 theta

/-- R93: the line shifts: the code becomes x0 and x7 is dropped. -/
def shiftLine (x : Vector Int 8) (theta : Int) : Vector Int 8 :=
  #v[theta, x[0], x[1], x[2], x[3], x[4], x[5], x[6]]

/-- R91, R93: the delay line as a used sample finds it: filled while UNFILLED or at the end of a fault, shifted
otherwise. -/
def nextLine (old : SensorState) (line : Option (Vector Int 8)) (theta : Int) : Option (Vector Int 8) :=
  match line with
  | none => some (fillLine theta)
  | some x => some (if old.isFault then fillLine theta else shiftLine x theta)

/-- R90 to R93, stages 2 and 3: the sensor state and the delay line. -/
def Thermal.takeSample (bad : Bool) (theta : Int) (t : Thermal) : Thermal :=
  { t with
    sensor := t.sensor.move bad
    line := if t.sensor.uses bad then nextLine t.sensor t.line theta else t.line }

/-! ### Stage 4: the estimate (R94, R95) -/

/-- R94: the sum of the taps' products. -/
def tapSum (taps x : Vector Int 8) : Int := ((List.finRange 8).map fun i : Fin 8 => taps[i] * x[i]).sum

/-- R94: the accumulator. -/
def accumulator (p : Profile) (x : Vector Int 8) (light duty : Nat) : Int :=
  tapSum p.c x + p.cP * light + p.cF * duty

/-- R95 step 1: round half up and shift by q. -/
def scaled (q : Nat) (acc : Int) : Int := (acc + 2 ^ (q - 1)) / 2 ^ q

/-- R95 step 2: the scaled result lies outside 16 bits. -/
def saturates (y : Int) : Bool := decide (y < -32768) || decide (32767 < y)

/-- R95 steps 2 and 3: saturated, then clamped to the temperature range. -/
def estimateOf (y : Int) : Int := clampInt (-320) 3200 (clampInt (-32768) 32767 y)

/-- R94, R95, stage 4: with a used sample the estimate is formed; SATURATED carries the period count. -/
def estimateStage (used : Bool) (light duty : Nat) (s : State) : State :=
  match used, s.thermal.line with
  | true, some x =>
    let p := s.thermal.profile
    let y := scaled p.q (accumulator p x light duty)
    let s := s.onThermal fun t => { t with est := estimateOf y, saturated := saturates y }
    if saturates y then raise (.saturated s.thermal.count) s else s
  | _, _ => s.onThermal fun t => { t with saturated := false }

/-! ### Stage 5: the band and the trip (R101, R102) -/

/-- R102: a trip cause holds. -/
def Thermal.tripCause (t : Thermal) : Bool :=
  decide (t.profile.x ≤ t.est) ||
  (match t.sensor with
   | .fault n _ => n == 80
   | .good => false
   | .suspect => false) ||
  (match t.fan with
   | .fault n _ => n == 40
   | .good _ => false)

/-- R103: the cool-limit flag: T below the active profile's cool limit, and the sensor not in FAULT. -/
def Thermal.coolFlag (t : Thermal) : Bool := decide (t.est < t.profile.coolLimit) && !t.sensor.isFault

/-- R101: the one move of the band when no trip cause holds and it is not TRIP; R102: how TRIP is left. -/
def Thermal.nextBand (coolDone : Bool) (t : Thermal) : Band :=
  let fault := t.sensor.isFault || t.fan.isFault
  if t.tripCause then .trip
  else
    match t.band with
    | .normal => if fault then .hot else if t.profile.w ≤ t.est then .warm else .normal
    | .warm =>
      if fault then .hot else if t.profile.h ≤ t.est then .hot
      else if t.est < t.profile.w - 40 then .normal else .warm
    | .hot => if !fault && decide (t.est < t.profile.h - 40) then .warm else .hot
    | .trip => if t.coolFlag && coolDone then (if t.fan.isFault then .hot else .normal) else .trip

/-- R101: the cause THERM_HOT names; with both faults in force it is free (log 8). -/
def Thermal.hotCause (t : Thermal) : HotCause :=
  if t.sensor.isFault && t.fan.isFault then (if Config.bothFaultsSayFan then .fan else .sensor)
  else if t.sensor.isFault then .sensor
  else if t.fan.isFault then .fan
  else .temp

/-- R101, R102: what the entry to a band brings: its notice, or the trip to the Lamp Controller. WARM entered from HOT
raises nothing (log 15). -/
def bandEntered (before : Band) (s : State) : State :=
  match before, s.thermal.band with
  | .normal, .warm => raise (.thermWarn s.thermal.est) s
  | .normal, .hot => raise (.thermHot s.thermal.est s.thermal.hotCause) s
  | .warm, .hot => raise (.thermHot s.thermal.est s.thermal.hotCause) s
  | .trip, .hot => raise (.thermHot s.thermal.est s.thermal.hotCause) s
  | .normal, .trip => lampTrip s
  | .warm, .trip => lampTrip s
  | .hot, .trip => lampTrip s
  | _, _ => s

/-- R101 to R103, stage 5: the band, its named cap, and what the entry brings. -/
def bandStage (coolDone : Bool) (s : State) : State :=
  let before := s.thermal.band
  bandEntered before (s.onThermal fun t =>
    { t with band := t.nextBand coolDone, namedCap := (t.nextBand coolDone).cap t.profile })

/-! ### Stage 6: the tach and the fan (R104, R105, R107) -/

/-- R107: the fan is driven at the duty F. -/
def Thermal.driven (duty : Nat) (t : Thermal) : Bool := decide (t.profile.floor ≤ duty) && duty != 0

/-- R107: the fan-fault state moves on a period's tach. -/
def FanState.move (driven slow : Bool) : FanState → FanState
  | .good run => if driven && slow then (if run + 1 < 8 then .good (run + 1) else .fault 0 0) else .good 0
  | .fault time g =>
    if !driven then .fault time g
    else if slow then .fault (min 40 (time + 1)) 0
    else if g + 1 < 8 then .fault time (g + 1) else .good 0

/-- R107: the tach is judged against the duty F; the entry to FAULT raises FAN_FAULT with the speed. -/
def tachStage (duty : Nat) (s : State) : State :=
  let before := s.thermal.fan
  let s := s.onThermal fun t => { t with fan := t.fan.move (t.driven duty) t.tachSlow }
  if !before.isFault && s.thermal.fan.isFault then raise (.fanFault s.thermal.speed) s else s

/-- R104: the fan's demand D. -/
def Thermal.demand (t : Thermal) : Nat :=
  let p := t.profile
  (clampInt p.floor 1000 ((p.floor : Int) + ((t.est - p.tset) * p.k) / 16)).toNat

/-- R104: the slewed duty from the duty in force F toward the demand D. -/
def slewedDuty (slew duty demand : Nat) : Nat :=
  if duty + slew < demand then duty + slew else if demand + slew < duty then duty - slew else demand

/-- R105: the new duty of stage 6, by the first line that applies. -/
def Thermal.newDuty (lamp : LampState) (duty : Nat) (t : Thermal) : Nat :=
  if t.band = .trip then 1000
  else if t.sensor.isFault then 1000
  else
    match lamp with
    | .cooldown => 1000
    | .off => 0
    | .striking => max t.profile.floor (slewedDuty t.profile.slew duty t.demand)
    | .warming => max t.profile.floor (slewedDuty t.profile.slew duty t.demand)
    | .run => max t.profile.floor (slewedDuty t.profile.slew duty t.demand)
    | .failed => max t.profile.floor (slewedDuty t.profile.slew duty t.demand)

/-- R105: the new fan duty set, by the lamp state last handed. -/
def dutyStage (duty : Nat) (s : State) : State :=
  s.onThermal fun t => { t with duty := t.newDuty s.lamp.state duty }

/-! ### Stages 7 and 8 (R103, R108) -/

/-- R103, stage 7: the period report. -/
def reportStage (s : State) : State := periodReport s.thermal.band s.thermal.namedCap s.thermal.coolFlag s

/-- R108, stage 8: the snapshot of a period whose stage 6 set `duty`, with the period count risen (log 16). -/
def Thermal.snap (r : Sample) (corr : Nat) (theta : Int) (duty : Nat) (t : Thermal) : Thermal :=
  let count := satAdd Config.periodCountMax t.count 1
  { t with
    count := count
    snapshot :=
      { raw := r.toNat, corrected := corr, theta := theta, est := t.est, band := t.band, namedCap := t.namedCap,
        duty := duty, demand := t.demand, speed := t.speed, active := t.active, next := t.next,
        saturated := t.saturated, sensor := t.sensor, fan := t.fan, line := t.line, count := count } }

/-! ### The computation (R87) -/

/-- R90, R93, R85: stages 2 and 3: the sample is classified and taken, a second bad sample in a row raises
SENSOR_FAULT, and the first computation hands the start-up check its code, 3200 for a bad sample. -/
def sampleStage (r : Sample) (theta : Int) (s : State) : State :=
  let bad := sampleBad r
  let declared := s.thermal.sensor == .suspect && bad
  let s := s.onThermal (Thermal.takeSample bad theta)
  startUpCheck (if bad then 3200 else theta) (if declared then raise (.sensorFault r.toNat) s else s)

/-- R87: the period computation on a sample and a hand-over, as one event. F, the duty in force at the period's end, is
read before any stage moves it (R94). -/
def periodComputation (r : Sample) (h : Handover) (s : State) : State :=
  let duty := s.thermal.duty
  let s := s.onThermal fun t => { t.activate with sample := none, handover := none }
  let corr := corrected s.thermal.cal r
  let theta := tempCode s.thermal.cal corr
  let used := s.thermal.sensor.uses (sampleBad r)
  let s := estimateStage used h.p duty (sampleStage r theta s)
  let s := dutyStage duty (tachStage duty (bandStage h.coolDone s))
  let set := s.thermal.duty
  (reportStage s).onThermal (Thermal.snap r corr theta set)

/-- R110: the Thermal Unit at a RESET request. -/
def Thermal.resetRequest (t : Thermal) : Thermal := { t with next := none }

end Sys2Proof.Machine
end

