-- ==== Sys2Proof/Machine/CueOps.lean ====
section
/-! DEFINITION. Operations of the Cue Unit that several commands share: the check of a word (R130), the confirm stage
(R131), the lookup (R141), the actions (R143 to R145), the hit (R142) and the Learn Buffer (R146). -/

namespace Sys2Proof.Machine

/-! ### Words (R130) -/

/-- R130: the code of the data bits, least significant bit first. -/
def wordCode : List Bool → Nat
  | [] => 0
  | b :: rest => (if b then 1 else 0) + 2 * wordCode rest

/-- R130: the data bits and the parity bit hold an even number of 1s. -/
def evenParity (bits : List Bool) : Bool := bits.countP (fun b => b) % 2 == 0

/-- R130: the check of a complete word: its twelve data bits and parity bit, and its stop bit. -/
inductive WordCheck
  | bad (cause : CueFault)
  | good (code : CueCode)
  deriving DecidableEq, Repr

/-- R130: framing, then parity, then the reserved code FFFh. -/
def checkWord (bits : List Bool) (stop : Bool) : WordCheck :=
  let code := wordCode (bits.take 12)
  if !stop then .bad .framing
  else if !evenParity bits then .bad .parity
  else if code = 4095 then .bad .reserved
  else .good (BitVec.ofNat 12 code)

/-! ### Lookup (R141) -/

/-- The entry numbers of the Cue Map. -/
def cueNumbers : List Nat := (List.range 32).map (· + 1)

/-- R141: the tape window holds: absent, or the counter is SURE and lies within it. -/
def tapeWindowHolds (w : Option Window) (t : Tape) : Bool := w.isNone || (t.sure && Window.holds w (some t.counter))

/-- R141: an ARMED entry matches an accepted code. -/
def cueMatches (s : State) (code : CueCode) (e : CueEntry) : Bool :=
  e.state == .armed && codesMatch (s.cue.mask e.selector) code e.code && tapeWindowHolds e.tapeWindow s.tape &&
  Window.holds e.slotWindow s.changer.current

/-- R141: the lowest-numbered matching entry. -/
def cueWinner (s : State) (code : CueCode) : Option Nat := cueNumbers.find? fun n => cueMatches s code (s.cue.entry n)

/-! ### Actions (R142 to R145) -/

/-- R143 to R145: an action offered to its owner with the source CUE and the entry's number. -/
def offerAction (n : Nat) (a : CueAction) (s : State) : Offer :=
  match a with
  | .step k => offerStep (.cue n) k s
  | .goto t => offerGoto (.cue n) false t s
  | .hold => taken (setHold true s)
  | .resume => taken (setHold false s)
  | .light v => taken (setOverride (some v) s)
  | .profile p => offerProfile p s
  | .gain g => taken (s.onTape (Tape.setBase g))
  | .duck on => taken (s.onTape (Tape.setDuck on))
  | .tapePause => offerTapePause s
  | .relay address key arg => offerFrame n address key arg.toList false s
  | .notify _ => taken s

/-- R142: the value CUE_HIT carries: v for NOTIFY, else 0. -/
def CueAction.notifyValue : CueAction → Nat
  | .notify v => v
  | _ => 0

/-- R142: the entry after an accepted action: a hit more, and SPENT if it is single-shot. -/
def CueEntry.hit (e : CueEntry) : CueEntry :=
  { e with hits := satAdd 255 e.hits 1, state := if e.single then .spent else e.state }

/-- R142: the winner's action is offered, and accepted or refused. -/
def cueHit (n : Nat) (code : CueCode) (s : State) : State :=
  match (s.cue.entry n).action with
  | none => s
  | some a =>
    let o := offerAction n a s
    if o.2 = .done then
      raise (.cueHit n code a.notifyValue) (o.1.onCue fun u => u.setEntry n (u.entry n).hit)
    else raise (.cueMissed n (.status o.2)) o.1

/-- R134: the legacy default: STEP +1 with entry number 0. -/
def legacyStep (code : CueCode) (s : State) : State :=
  let o := offerStep (.cue 0) 1 s
  if o.2 = .done then raise (.cueHit 0 code 0) o.1 else raise (.cueMissed 0 (.status o.2)) o.1

/-- R134, R141: an accepted code with learn mode OFF. -/
def lookUp (code : CueCode) (kind : CodeKind) (s : State) : State :=
  match cueWinner s code with
  | some n => cueHit n code s
  | none =>
    if kind = .pulse ∧ s.cue.legacy = true then legacyStep code s else raise (.cueUnmatched code) s

/-! ### Learn mode (R146) -/

/-- R146: an accepted code in learn mode ON: it fills the Learn Buffer, or is lost to a full one. -/
def learn (code : CueCode) (kind : CodeKind) (s : State) : State :=
  match s.cue.buffer with
  | none =>
    raise (.learnReady code) (s.onCue fun u =>
      { u with buffer := some { code := code, kind := kind, counter := s.tape.counter, sure := s.tape.sure } })
  | some _ => raise (.learnOverrun code) (s.onCue fun u => { u with learn := .overrun })

/-- R134: an accepted code. -/
def acceptCode (code : CueCode) (kind : CodeKind) (s : State) : State :=
  match s.cue.learn with
  | .off => lookUp code kind s
  | .on => learn code kind s
  | .overrun => s

/-! ### The confirm stage (R131) -/

/-- R131: a good word with confirm pairs on is held, or confirms the held word and is accepted. -/
def confirmWord (code : CueCode) (s : State) : State :=
  match s.cue.holding with
  | some h =>
    if h.code = code then acceptCode code .coded (s.onCue fun u => { u with holding := none })
    else s.onCue fun u => { u with holding := some { code := code, left := Config.confirmMs } }
  | none => s.onCue fun u => { u with holding := some { code := code, left := Config.confirmMs } }

/-- R130, R131: a complete word, with the receiver back in IDLE. -/
def wordDone (bits : List Bool) (stop : Bool) (s : State) : State :=
  let s := s.onCue fun u => { u with rx := .idle }
  match checkWord bits stop with
  | .bad cause => raise (.cueBad cause) s
  | .good code => if s.cue.confirm then confirmWord code s else acceptCode code .coded s

/-- R150: the Cue Unit at a RESET request. -/
def CueUnit.resetRequest (u : CueUnit) : CueUnit :=
  { u with
    map := Vector.ofFn fun i : Fin 32 => { u.map[i] with hits := 0 }
    rx := .idle
    holding := none
    burst := none
    learn := .off
    buffer := none }

end Sys2Proof.Machine
end

