-- ==== Sys2Proof/Machine/CueCmds.lean ====
section
/-! DEFINITION. The commands of the Cue Unit (07_cues_and_the_cue_map). -/

namespace Sys2Proof.Machine

/-! ### Host requests -/

/-- R132: the named options take their values; turning confirm pairs off discards a held word. -/
def CueUnit.setOptions (confirm legacy : Option Nat) (u : CueUnit) : CueUnit :=
  let on := optionTake u.confirm confirm
  { u with confirm := on, legacy := optionTake u.legacy legacy, holding := if on then u.holding else none }

/-- R132: SET CUE OPTIONS, answered with both options. A value other than on and off is refused with BAD_VALUE
(log 12). -/
def execSetCueOptions (confirm legacy : Option Nat) (s : State) : Host.Outcome State Fault Refusal :=
  hostRequest (.setCueOptions confirm legacy) (fun s =>
    if confirm = none ∧ legacy = none then refuse .badRequest s
    else if optionInRange confirm && optionInRange legacy then
      let s := s.onCue (CueUnit.setOptions confirm legacy)
      answer s (flag s.cue.confirm ++ flag s.cue.legacy)
    else refuse .badValue s) s

/-- R136: a mask of the set takes its value; one that is not named keeps its own. -/
def maskTake (old : CueCode) : Option Nat → CueCode
  | none => old
  | some v => BitVec.ofNat 12 v

/-- R136: SET MASKS, answered with all three. -/
def execSetMasks (global localA localB : Option Nat) (s : State) : Host.Outcome State Fault Refusal :=
  hostRequest (.setMasks global localA localB) (fun s =>
    if global = none ∧ localA = none ∧ localB = none then refuse .badRequest s
    else if global.getD 0 ≤ 4095 ∧ localA.getD 0 ≤ 4095 ∧ localB.getD 0 ≤ 4095 then
      let s := s.onCue fun u =>
        { u with maskGlobal := maskTake u.maskGlobal global, maskA := maskTake u.maskA localA,
                 maskB := maskTake u.maskB localB }
      answer s (maskBytes s.cue)
    else refuse .badValue s) s

/-- R137, R138: another ARMED entry holds the same code and the same selector. -/
def CueUnit.duplicate (u : CueUnit) (n : Nat) (code : CueCode) (sel : Selector) : Bool :=
  cueNumbers.any fun m =>
    m != n && (u.entry m).state == .armed && (u.entry m).code == code && (u.entry m).selector == sel

/-- R137 step 1: the entry a WRITE CUE names, 0 for the lowest-numbered FREE one, or the refusal. -/
def cueNamed (u : CueUnit) (n : Nat) : Except Status Nat :=
  if n = 0 then
    match cueNumbers.find? fun m => (u.entry m).state == .free with
    | some m => .ok m
    | none => .error .full
  else if cueInRange n then .ok n else .error .badIndex

/-- R137: WRITE CUE checked in order and written, answered with the entry as written. -/
def writeCue (v : CueImage) (s : State) : Reply :=
  match cueNamed s.cue v.entry with
  | .error st => refuse st s
  | .ok n =>
    match cueEntryOf v with
    | none => refuse .badValue s
    | some e =>
      if e.state = .armed ∧ s.cue.duplicate n e.code e.selector = true then refuse .duplicate s
      else
        let s := s.onCue fun u => u.setEntry n e
        answer s (cueEntryBytes n (s.cue.entry n))

/-- R137: WRITE CUE. -/
def execWriteCue (v : CueImage) (s : State) : Host.Outcome State Fault Refusal :=
  hostRequest (.writeCue v) (writeCue v) s

/-- R138: the entry put in a state, answered with the state as it stands. -/
def setCueState (n : Nat) (st : CueState) (s : State) : Reply :=
  answer (s.onCue fun u => u.setEntry n { u.entry n with state := st }) (u8 st.code)

/-- R138: ARM CUE by the entry's state. -/
def armCue (n : Nat) (s : State) : Reply :=
  let e := s.cue.entry n
  match e.state with
  | .free => refuse .notNow s
  | .armed => answer s (u8 CueState.armed.code)
  | .paused => if s.cue.duplicate n e.code e.selector then refuse .duplicate s else setCueState n .armed s
  | .spent => if s.cue.duplicate n e.code e.selector then refuse .duplicate s else setCueState n .armed s

/-- R138: ARM CUE. -/
def execArmCue (n : Nat) (s : State) : Host.Outcome State Fault Refusal :=
  hostRequest (.armCue n) (fun s => if cueInRange n then armCue n s else refuse .badIndex s) s

/-- R138: PAUSE CUE by the entry's state. -/
def pauseCue (n : Nat) (s : State) : Reply :=
  match (s.cue.entry n).state with
  | .free => refuse .notNow s
  | .armed => setCueState n .paused s
  | .paused => answer s (u8 CueState.paused.code)
  | .spent => refuse .notNow s

/-- R138: PAUSE CUE. -/
def execPauseCue (n : Nat) (s : State) : Host.Outcome State Fault Refusal :=
  hostRequest (.pauseCue n) (fun s => if cueInRange n then pauseCue n s else refuse .badIndex s) s

/-- R139: RETIRE CUE. -/
def execRetireCue (n : Nat) (s : State) : Host.Outcome State Fault Refusal :=
  hostRequest (.retireCue n) (fun s =>
    if cueInRange n then answer (s.onCue fun u => u.setEntry n CueEntry.blank) else refuse .badIndex s) s

/-- R140: READ CUE. -/
def execReadCue (n : Nat) (s : State) : Host.Outcome State Fault Refusal :=
  hostRequest (.readCue n) (fun s =>
    if cueInRange n then answer s (cueEntryBytes n (s.cue.entry n)) else refuse .badIndex s) s

/-- R146: learn mode from OFF becomes ON with the buffer empty; ON and OVERRUN are left. -/
def CueUnit.learnOn (u : CueUnit) : CueUnit :=
  match u.learn with
  | .off => { u with learn := .on, buffer := none }
  | .on => u
  | .overrun => u

/-- R146: LEARN ON. -/
def execLearnOn (s : State) : Host.Outcome State Fault Refusal :=
  hostRequest .learnOn (fun s => answer (s.onCue CueUnit.learnOn)) s

/-- R146: LEARN OFF. -/
def execLearnOff (s : State) : Host.Outcome State Fault Refusal :=
  hostRequest .learnOff (fun s => answer (s.onCue fun u => { u with learn := .off, buffer := none })) s

/-- R147: READ LEARN returns the learn mode and the Learn Buffer, and empties the buffer. -/
def execReadLearn (s : State) : Host.Outcome State Fault Refusal :=
  hostRequest .readLearn (fun s =>
    answer (s.onCue fun u => { u with buffer := none }) (u8 s.cue.learn.code ++ learnRecordBytes s.cue.buffer)) s

/-- R148: READ CUE UNIT. -/
def execReadCueUnit (s : State) : Host.Outcome State Fault Refusal :=
  hostRequest .readCueUnit (fun s => answer s (cueUnitBytes s)) s

/-! ### The receiver (R129) -/

/-- R129: a falling edge of the data line, taken in IDLE with the gate open. -/
def execCueDataFallingEdge (s : State) : Host.Outcome State Fault Refusal :=
  .next (if cueGateOpen s = true ∧ s.cue.rx = .idle then s.onCue fun u => { u with rx := .start } else s)

/-- R129: the recheck of the start bit. -/
def execStartBitRecheck (high : Bool) (s : State) : Host.Outcome State Fault Refusal :=
  .next
    (if cueGateOpen s = true ∧ s.cue.rx = .start then
       s.onCue fun u => { u with rx := if high then .idle else .word [] }
     else s)

/-- R129: the sample of a data or parity bit. -/
def execCueBitSample (high : Bool) (s : State) : Host.Outcome State Fault Refusal :=
  match s.cue.rx with
  | .word bits =>
    .next
      (if cueGateOpen s = true ∧ bits.length < 13 then s.onCue fun u => { u with rx := .word (bits ++ [high]) } else s)
  | .idle => .next s
  | .start => .next s

/-- R129, R130: the stop bit is sampled and the word completes. -/
def execCueWordComplete (stopBit : Bool) (s : State) : Host.Outcome State Fault Refusal :=
  match s.cue.rx with
  | .word bits => .next (if cueGateOpen s = true ∧ bits.length = 13 then wordDone bits stopBit s else s)
  | .idle => .next s
  | .start => .next s

/-- R131: the confirm timer runs out. -/
def execConfirmTimeout (s : State) : Host.Outcome State Fault Refusal :=
  .next (s.onCue fun u => { u with holding := none })

/-! ### The pulse detector (R133) -/

/-- R133: the tone becomes present; with the gate open a burst begins. -/
def execToneBurstStart (s : State) : Host.Outcome State Fault Refusal :=
  .next (s.onCue fun u =>
    { u with tone := true, burst := if cueGateOpen s then some (u.burst.getD 0) else u.burst })

/-- R133: the tone becomes absent: no burst is timed any more. -/
def toneEnd (s : State) : State := s.onCue fun u => { u with tone := false, burst := none }

/-- R133: a burst shorter than 200 ms ends and is ignored. -/
def execShortToneBurstEnd (s : State) : Host.Outcome State Fault Refusal := .next (toneEnd s)

/-- R133: a burst of 200 ms or more ends: code FFFh is accepted as a pulse cue. -/
def execPulseCue (s : State) : Host.Outcome State Fault Refusal :=
  .next (if cueGateOpen s = true ∧ s.cue.burst.isSome = true then acceptCode 4095 .pulse (toneEnd s) else toneEnd s)

end Sys2Proof.Machine
end

