-- ==== Sys2Proof/Machine/DriveCmds.lean ====
section
/-! DEFINITION. The commands of the Tray Drive (03_tray_drive_lifter_and_gate): READ DRIVE, FOCUS, and the events of the
encoder, the index, the bridge, the lifter and the focus motor. -/

namespace Sys2Proof.Machine

/-! ### Host requests -/

/-- R65: READ DRIVE. -/
def execReadDrive (s : State) : Host.Outcome State Fault Refusal :=
  hostRequest .readDrive (fun s => answer s (driveBytes s)) s

/-- R63: FOCUS, with its duration in fade ticks. -/
def execFocus (dir ticks : Nat) (s : State) : Host.Outcome State Fault Refusal :=
  hostRequest (.focus dir ticks) (fun s =>
    match focusDirOf dir with
    | none => refuse .badValue s
    | some d =>
      if ticks = 0 ∨ 100 < ticks then refuse .badValue s
      else if s.drive.trayMotion then refuse .notNow s
      else answer (s.onDrive (Drive.focusHost d (ticks * Config.fadeTickMs)))) s

/-! ### Encoder and index -/

/-- R48, R53: an accepted encoder edge; the window is tested at the count. With no tray, counts are not accepted. -/
def execEncoderCount (s : State) : Host.Outcome State Fault Refusal :=
  if s.changer.tray = none then .next s
  else .next (s.onDrive fun d => (d.count s.changer.size).testWindow s.changer.size)

/-- R50: an index pass while homed: a counter off by more than 3 is corrected and SLIP raised; the corrected value may
lie in the target's window. -/
def indexHomed (s : State) : State :=
  let slip := signedDistance s.changer.size s.drive.position 0
  if -3 ≤ slip ∧ slip ≤ 3 then s
  else raise (.slip slip) (s.onDrive fun d => { d with position := 0 }.testWindow s.changer.size)

/-- R50, R51: an index pass while a tray is present. The seek takes it outside a back-off and within its budget. -/
def execIndexPass (s : State) : Host.Outcome State Fault Refusal :=
  if s.changer.tray = none then .next s
  else
    let s := s.onDrive fun d => { d with revolutions := satAdd 65535 d.revolutions 1 }
    if s.changer.homed then .next (indexHomed s)
    else if s.drive.motion = .homeSeek ∧ s.drive.backingOff = false ∧ s.drive.budget < budgetLimit s.changer.size then
      .next (indexSeen s)
    else .next s

/-! ### The bridge -/

/-- R54: 150 ms in drive without an accepted count. -/
def execStallWatchdogExpiry (s : State) : Host.Outcome State Fault Refusal :=
  if s.drive.bridge.drives = true ∧ s.drive.watchdog.isSome = true then .next (stall s) else .next s

/-- R54: twelve counts applied in a back-off end it with a brake. -/
def execBackOffComplete (s : State) : Host.Outcome State Fault Refusal :=
  if s.drive.backingOff = true ∧ 12 ≤ s.drive.backTally ∧ s.drive.bridge.drives = true then
    .next (s.onDrive fun d => { d with backingOff := false, backTally := 0 }.brake .resume)
  else .next s

/-- R57: the seek's budget reaches 24N + 48 without an index pass. -/
def execNoIndexBudgetExhausted (s : State) : Host.Outcome State Fault Refusal :=
  if s.drive.motion = .homeSeek ∧ budgetLimit s.changer.size ≤ s.drive.budget then .next (jam .noIndex s) else .next s

/-- R53: the 40 ms of a brake end. -/
def execBrakeEnd (s : State) : Host.Outcome State Fault Refusal :=
  if s.drive.bridge = .brake then .next (brakeEnd s) else .next s

/-! ### The lifter -/

/-- R59: the lifter is at UP: the drive goes OFF and UP is reported, to the homing's lift or to LIFTING. -/
def upReached (s : State) : State :=
  let s := s.onDrive fun d => { d with swUp := true, swDown := false, lifterDrive := .off, lifterTimer := none }
  if s.drive.motion = .homeLift then startSeek s
  else if s.changer.state = .lifting then enterRotating s
  else s

/-- R60: the lifter is at DOWN: the drive goes OFF and SETTLING begins. -/
def downReached (s : State) : State :=
  let s := s.onDrive fun d => { d with swUp := false, swDown := true, lifterDrive := .off, lifterTimer := none }
  if s.changer.state = .dropping then enterSettling s else s

/-- R59: the lifter reaches UP in a lift. -/
def execLiftDone (s : State) : Host.Outcome State Fault Refusal :=
  .next (if s.drive.lifterDrive = .upward then upReached s else s)

/-- R60: the lifter reaches DOWN in a drop. -/
def execDropDone (s : State) : Host.Outcome State Fault Refusal :=
  .next (if s.drive.lifterDrive = .downward then downReached s else s)

/-- R59, R60: the lifter stands at the end its drive aims at. -/
def Drive.lifterArrived (d : Drive) : Bool :=
  match d.lifterDrive with
  | .upward => d.lifter == .up
  | .downward => d.lifter == .down
  | .off => true

/-- R59, R60: 600 ms pass in a lift or a drop: the lifter drive goes OFF where it stands, and JAMMED is reported. -/
def execLifterTimeout (s : State) : Host.Outcome State Fault Refusal :=
  if s.drive.lifterTimer.isSome = true ∧ s.drive.lifterArrived = false then
    .next (jam .lifter (s.onDrive fun d => { d with lifterDrive := .off, lifterTimer := none }))
  else .next s

/-- R58: the end switches change. A lifter that leaves UP in a TURN or HOME with the bridge not OFF is a jam; one that
reaches the end its drive aims at has ended its lift or its drop (R59, R60). -/
def execLifterSwitchChange (up down : Bool) (s : State) : Host.Outcome State Fault Refusal :=
  let wasUp := s.drive.lifter == .up
  let s := s.onDrive fun d => { d with swUp := up, swDown := down }
  if wasUp = true ∧ s.drive.lifter ≠ .up ∧ s.drive.motion ≠ .none ∧ s.drive.bridge ≠ .off then .next (jam .lifter s)
  else if s.drive.lifterDrive = .upward ∧ s.drive.lifter = .up then .next (upReached s)
  else if s.drive.lifterDrive = .downward ∧ s.drive.lifter = .down then .next (downReached s)
  else .next s

/-! ### The focus motor -/

/-- R62: the stop timer of a key run runs out. -/
def execFocusStopTimerExpiry (s : State) : Host.Outcome State Fault Refusal :=
  match s.drive.focus with
  | .running _ .key => .next (s.onDrive Drive.stopFocus)
  | .running _ (.host _) => .next s
  | .stopped => .next s
  | .pausing _ _ => .next s

/-- R63: the duration of a host run has passed. -/
def execFocusDurationEnd (s : State) : Host.Outcome State Fault Refusal :=
  match s.drive.focus with
  | .running _ (.host _) => .next (s.onDrive Drive.stopFocus)
  | .running _ .key => .next s
  | .stopped => .next s
  | .pausing _ _ => .next s

/-- R62: the reversal pause ends. -/
def execFocusPauseEnd (s : State) : Host.Outcome State Fault Refusal := .next (s.onDrive Drive.endPause)

/-- R62: an end switch of the focus motor changes. -/
def execFocusEndSwitch (dir : FocusDir) (closed : Bool) (s : State) : Host.Outcome State Fault Refusal :=
  .next (s.onDrive (Drive.endSwitch dir closed))

end Sys2Proof.Machine
end

