-- ==== Sys2Proof/Machine/LampCmds.lean ====
section
/-! DEFINITION. The commands of the Lamp Controller (04_lamp_and_light). -/

namespace Sys2Proof.Machine

/-! ### Host requests -/

/-- R68: LAMP ON. -/
def execLampOn (s : State) : Host.Outcome State Fault Refusal :=
  hostRequest .lampOn (fun s => .ofOffer (offerLampOn s)) s

/-- R69: LAMP OFF, answered DONE in every state. -/
def execLampOff (s : State) : Host.Outcome State Fault Refusal :=
  hostRequest .lampOff (fun s => answer (lampOff s)) s

/-- R75: what LAMP RESET does in each lamp state. -/
def offerLampReset (s : State) : Offer :=
  match s.lamp.state with
  | .failed => taken (startCoolDown .off (coolTimeMs s) (s.onLamp fun l => { l with attempts := 0 }))
  | .cooldown =>
    match s.lamp.dest with
    | .failed => taken (s.onLamp fun l => { l with dest := .off })
    | .off => turnedAway .notNow s
  | .off => turnedAway .notNow s
  | .striking => turnedAway .notNow s
  | .warming => turnedAway .notNow s
  | .run => turnedAway .notNow s

/-- R75: LAMP RESET. -/
def execLampReset (s : State) : Host.Outcome State Fault Refusal :=
  hostRequest .lampReset (fun s => .ofOffer (offerLampReset s)) s

/-- R80: SET LIGHT. -/
def execSetLight (v : Option Nat) (s : State) : Host.Outcome State Fault Refusal :=
  hostRequest (.setLight v) (fun s => if v.getD 0 ≤ 1000 then answer (setOverride v s) else refuse .badValue s) s

/-- R83: the table of limits with one limit written. -/
def Lamp.setLimit (cls limit : Nat) (l : Lamp) : Lamp :=
  if h : cls < 3 then { l with limits := l.limits.set cls limit h } else l

/-- R83: WRITE EXPOSURE, answered with the limits of all four classes. -/
def execWriteExposure (cls limit : Nat) (s : State) : Host.Outcome State Fault Refusal :=
  hostRequest (.writeExposure cls limit) (fun s =>
    if 3 ≤ cls then refuse .badIndex s
    else if Config.exposureMax < limit then refuse .badValue s
    else
      let s := s.onLamp (Lamp.setLimit cls limit)
      answer s (limitBytes s.lamp)) s

/-- R84: READ LAMP. -/
def execReadLamp (s : State) : Host.Outcome State Fault Refusal :=
  hostRequest .readLamp (fun s => answer s (lampBytes s)) s

/-! ### Events -/

/-- R76: a fade tick: the fade ramp takes its step and the light chain gives the delivered light. -/
def execFadeTick (s : State) : Host.Outcome State Fault Refusal :=
  let s := s.onLamp Lamp.stepFade
  .next (s.onLamp (Lamp.deliver (lightChain s)))

/-- R71: 5 s after the pulse before it, the next strike attempt. -/
def execStrikeAttemptTimer (s : State) : Host.Outcome State Fault Refusal :=
  if s.lamp.state = .striking ∧ s.lamp.nextStrike.isSome = true ∧ s.lamp.window = none ∧ s.lamp.attempts < 3 then
    .next (strikeAttempt s)
  else .next s

/-- R71 step 5: the confirm window ends without current. -/
def execStrikeWindowEnd (s : State) : Host.Outcome State Fault Refusal :=
  if s.lamp.state = .striking ∧ s.lamp.window.isSome = true then
    let closed := s.onLamp fun l => { l with window := none }
    if s.lamp.attempts < 3 then .next closed
    else
      .next (raise (.lampFail .strike) (enterLamp .failed (closed.onLamp fun l => { l with nextStrike := none })))
  else .next s

/-- R71, R73: the current sense changes. -/
def execCurrentSenseChange (flowing : Bool) (s : State) : Host.Outcome State Fault Refusal :=
  let s := s.onLamp fun l => { l with flowing := flowing }
  match s.lamp.state with
  | .striking => .next (if flowing = true ∧ s.lamp.window.isSome = true then confirmStrike s else s)
  | .warming => .next (s.onLamp fun l => { l with lossTimer := if flowing then none else some (l.lossTimer.getD 0) })
  | .run => .next (s.onLamp fun l => { l with lossTimer := if flowing then none else some (l.lossTimer.getD 0) })
  | .off => .next s
  | .cooldown => .next s
  | .failed => .next s

/-- R72: the warm-up timer reaches 0. -/
def execWarmUpEnd (s : State) : Host.Outcome State Fault Refusal :=
  if s.lamp.state = .warming then .next (enterLamp .run (s.onLamp fun l => { l with warmUp := 0 })) else .next s

/-- R73: 200 ms of NONE in WARMING or RUN. -/
def execCurrentLoss (s : State) : Host.Outcome State Fault Refusal :=
  if s.lamp.lit = true ∧ s.lamp.lossTimer.isSome = true then
    .next (raise (.lampFail .current) (startCoolDown .failed (coolTimeMs s) s))
  else .next s

/-- R74: the cool-down timer reaches 0. -/
def execCooldownTimerExpiry (s : State) : Host.Outcome State Fault Refusal :=
  if s.lamp.state = .cooldown then .next (endCoolDownIfDone (s.onLamp fun l => { l with coolDown := 0 })) else .next s

/-- R81: the period's end at the Lamp Controller: the average, the hand-over, the account and the guard. A cool-down
whose two conditions hold ends here (R74). -/
def execLampPeriodEnd (s : State) : Host.Outcome State Fault Refusal :=
  let s := endCoolDownIfDone s
  let p := s.lamp.lightSum / Config.ticksPerPeriod
  let before := s.lamp.guard
  let s := (s.onThermal fun t => { t with handover := some { p := p, coolDone := s.lamp.coolDone } }).onLamp
    (Lamp.account p (governingClass s))
  .next (if !before && s.lamp.guard then raise (.exposureGuard s.changer.current s.lamp.govClass) s else s)

end Sys2Proof.Machine
end

