-- ==== Sys2Proof/Machine/LinkOps.lean ====
section
/-! DEFINITION. Operations of the Panel Link: what a chip-select period shifts out (R183, R186), the link checks of a
request frame (R184), the Notice Set (R189, R190) and the two resets (R191, R192). -/

namespace Sys2Proof.Machine

/-! ### Chip-select periods (R183) -/

/-- R183: the value of the status byte. -/
def LinkStatus.code : LinkStatus → Nat
  | .ready => 0
  | .busy => 1
  | .response => 2

/-- R183: a period carries at most 64 bytes each way; those received beyond them are ignored, and the part shifts out 0 for
them. -/
def periodLimit : Nat := 64

/-- R183, R191: what the part shifts out in a period of `len` bytes: the status byte, then `body`, then 0, and 0 beyond
the 64th byte; or BUSY in every byte while the RESET pin is held. -/
def Link.shiftOut (len : Nat) (body : List Byte) (l : Link) : Link :=
  let bytes :=
    if l.resetPin then List.replicate len (BitVec.ofNat 8 LinkStatus.busy.code)
    else ((u8 l.status.code ++ body).take periodLimit ++ List.replicate len 0).take len
  { l with shifted := bytes }

/-- R186: a FETCH carries the whole response frame: L + 2 bytes counting the status byte. -/
def Link.fetches (len : Nat) (l : Link) : Bool :=
  !l.resetPin && l.status == .response && decide (l.respBuf.length + 1 ≤ min len periodLimit)

/-- R186: a FETCH period of `len` bytes. -/
def Link.fetch (len : Nat) (l : Link) : Link :=
  let out := l.shiftOut len (if l.status = .response then l.respBuf else [])
  if l.fetches len then { out with status := .ready, respBuf := [] } else out

/-! ### Request frames (R184) -/

/-- R184: the link's own checks of bytes 1.. of a complete request frame, L first; true passes. -/
def requestPasses (frame : List Byte) : Bool :=
  let l := (frame.getD 0 0).toNat
  let code := (frame.getD 1 0).toNat
  let whole := frame.take (l + 1)
  3 ≤ l && l ≤ 62 && withSums (frame.take (l - 1)) == whole && 1 ≤ code && code ≤ 63 &&
  (match argCount code with
   | none => true
   | some n => l - 3 == n)

/-- R185: the code a refused frame is answered with: byte 2 as received, or 0 when the frame ended before it. -/
def refusedCode (frame : List Byte) : Nat :=
  if (frame.getD 0 0).toNat = 0 then 0 else (frame.getD 1 0).toNat

/-- R184: a request frame is complete when its period carries at least L + 2 bytes; `frame` is without the frame kind.
Bytes beyond the 64th of a period are ignored (R183), so a frame whose L is 63 or above is never complete here, though
R184 taken alone would answer it BAD_REQUEST (DESIGN CHOICE, log 28). -/
def requestComplete (frame : List Byte) : Bool := frame != [] && decide ((frame.getD 0 0).toNat + 1 ≤ frame.length)

/-- R184: a complete frame taken in READY: BUSY with the frame in hand, or BAD_REQUEST at once for a failing check. -/
def takeRequest (frame : List Byte) (s : State) : State :=
  if requestPasses frame then
    s.onLink fun l => { l with status := .busy, reqBuf := frame.take ((frame.getD 0 0).toNat + 1) }
  else respond (refusedCode frame) .badRequest [] s

/-! ### The Notice Set (R189, R190) -/

/-- R189: the pending set. -/
def Link.pending (l : Link) : Vector Bool 30 := Vector.ofFn fun i : Fin 30 => l.notices[i].arg.isSome

/-- R189: READ NOTICES latches the pending set and clears the mark of every pending place. -/
def Link.latch (l : Link) : Link :=
  { l with latched := some l.pending, notices := Vector.ofFn fun i : Fin 30 => { l.notices[i] with mark := false } }

/-- R190: a place is emptied by CLEAR NOTICES: it is of the latched set and its mark is still clear. -/
def clears (member : Bool) (p : Place) : Bool := member && p.arg.isSome && !p.mark

/-- R190: the places CLEAR NOTICES empties. -/
def Link.cleared (l : Link) : Vector Bool 30 :=
  match l.latched with
  | none => Vector.replicate 30 false
  | some set => Vector.ofFn fun i : Fin 30 => clears set[i] l.notices[i]

/-- R190: the Notice Set after CLEAR NOTICES, with no latch. -/
def Link.clear (l : Link) : Link :=
  { l with
    latched := none
    notices := Vector.ofFn fun i : Fin 30 => if l.cleared[i] then Place.empty else l.notices[i] }

/-- R191, R192: every place of the Notice Set becomes empty and the latched set none. -/
def Link.emptyNotices (l : Link) : Link :=
  { l with notices := Vector.replicate 30 Place.empty, latched := none }

/-! ### The RESET request (R192) -/

/-- R18, R47: the Changer at a RESET request, before the tray switch is read. -/
def Changer.resetRequest (c : Changer) : Changer := c.forget.stopped

/-- R192 step 1: every block's own rule for the RESET request. -/
def resetBlocks (s : State) : State :=
  let s := (s.onChanger Changer.resetRequest).onDrive Drive.atReset
  let s := (lampResetRequest s).onThermal Thermal.resetRequest
  let s := (tapeResetRequest s).onCue CueUnit.resetRequest
  (s.onRemote Remote.resetRequest).onBus Bus.resetRequest

/-- R192 steps 1 and 2: the RESET request as one event; its answer is step 3. -/
def resetRequest (s : State) : State := (resetBlocks s).onLink Link.emptyNotices

/-! ### Power-on reset (R191) -/

/-- R66: the drive at power-on: as at either reset, with the end switches read as they stand. A bridge that was driving
or braking finishes its brake. -/
def Drive.powerOn (d : Drive) : Drive :=
  let h := d.atReset
  { Drive.reset with
    bridge := h.bridge
    brakeTimer := h.brakeTimer
    swUp := d.swUp
    swDown := d.swDown
    endIn := d.endIn
    endOut := d.endOut }

/-- R191: the machine at the release of the RESET pin: every block at its power-on values. The inputs keep the levels
the outside world gives them (log 5), and the commands that wait go on waiting. -/
def powerOn (s : State) : State :=
  { State.reset with
    drive := s.drive.powerOn
    lamp := { Lamp.reset with flowing := s.lamp.flowing }
    cue := { CueUnit.reset with tone := s.cue.tone }
    pending := s.pending }

end Sys2Proof.Machine
end

