-- ==== Sys2Proof/Machine/LinkCmds.lean ====
section
/-! DEFINITION. The commands of the Panel Link (10_panel_link): the chip-select periods, the requests on the Notice Set
and the two resets. -/

namespace Sys2Proof.Machine

/-! ### Host requests -/

/-- R188: the mask bytes of SET NOTICE MASK, one for each kind. -/
def maskOf (bytes : List Nat) : Vector Bool 30 := Vector.ofFn fun i : Fin 30 => bytes.getD i.val 0 == 1

/-- R188: SET NOTICE MASK, answered with the mask. -/
def execSetNoticeMask (mask : List Nat) (s : State) : Host.Outcome State Fault Refusal :=
  hostRequest (.setNoticeMask mask) (fun s =>
    if mask.length = 30 ∧ mask.all (fun b => b ≤ 1) = true then
      let s := s.onLink fun l => { l with mask := maskOf mask }
      answer s (s.link.mask.toList.flatMap flag)
    else refuse .badValue s) s

/-- R189: READ NOTICES returns the pending set and latches it. -/
def execReadNotices (s : State) : Host.Outcome State Fault Refusal :=
  hostRequest .readNotices (fun s => answer (s.onLink Link.latch) (s.link.pending.toList.flatMap flag)) s

/-- R189: the payload of READ NOTICE for a kind 1..30. -/
def noticeBytes (kind : Nat) (p : Place) : List Byte := u8 kind ++ flag p.arg.isSome ++ p.bytes

/-- R189: READ NOTICE of one kind. -/
def execReadNotice (kind : Nat) (s : State) : Host.Outcome State Fault Refusal :=
  hostRequest (.readNotice kind) (fun s =>
    if h : 1 ≤ kind ∧ kind ≤ 30 then answer s (noticeBytes kind s.link.notices[kind - 1]) else refuse .badIndex s) s

/-- R190: CLEAR NOTICES, answered with the count of places emptied. -/
def execClearNotices (s : State) : Host.Outcome State Fault Refusal :=
  hostRequest .clearNotices (fun s =>
    answer (s.onLink Link.clear) (u8 (s.link.cleared.toList.countP fun b => b))) s

/-- R192: RESET. -/
def execReset (s : State) : Host.Outcome State Fault Refusal :=
  hostRequest .reset (fun s => answer (resetRequest s)) s

/-! ### Chip-select periods -/

/-- R183: a POLL period, or one of an unknown frame kind: the status byte goes out, then zeros, and nothing changes. -/
def execPollPeriod (_kind len : Nat) (s : State) : Host.Outcome State Fault Refusal :=
  .next (s.onLink (Link.shiftOut len []))

/-- R183, R184: a REQUEST period with the bytes the host shifts in, the frame kind first. The frame is taken in READY
alone, when complete, and not while the RESET pin is held (R191). -/
def execRequestFrame (bytes : List Byte) (s : State) : Host.Outcome State Fault Refusal :=
  let frame := (bytes.take periodLimit).drop 1
  let out := s.onLink (Link.shiftOut bytes.length [])
  .next
    (if s.link.resetPin = false ∧ s.link.status = .ready ∧ requestComplete frame = true then takeRequest frame out
     else out)

/-- R186: a FETCH period. -/
def execFetch (len : Nat) (s : State) : Host.Outcome State Fault Refusal := .next (s.onLink (Link.fetch len))

/-! ### Resets -/

/-- R191: the RESET pin is driven active and held. -/
def execResetPinAssert (s : State) : Host.Outcome State Fault Refusal :=
  .next (s.onLink fun l => { l with resetPin := true })

/-- R191: the RESET pin is released: power-on reset. -/
def execPowerOnReset (s : State) : Host.Outcome State Fault Refusal := .next (powerOn s)

end Sys2Proof.Machine
end

