-- ==== Sys2Proof/Machine/RemoteCmds.lean ====
section
/-! DEFINITION. The commands of the Remote Unit (08_handsets_and_remote_frames). -/

namespace Sys2Proof.Machine

/-! ### Host requests -/

/-- R158: OPEN PAIRING. -/
def execOpenPairing (rights : Nat) (s : State) : Host.Outcome State Fault Refusal :=
  hostRequest (.openPairing rights) (fun s =>
    match Rights.fromCode rights with
    | none => refuse .badValue s
    | some r => answer (s.onRemote fun u => { u with window := some { rights := r, left := Config.pairingMs } })) s

/-- R158: CLOSE PAIRING. -/
def execClosePairing (s : State) : Host.Outcome State Fault Refusal :=
  hostRequest .closePairing (fun s => answer (s.onRemote fun u => { u with window := none })) s

/-- R164: READ HANDSET: the entry, the window and the console record. -/
def execReadHandset (n : Nat) (s : State) : Host.Outcome State Fault Refusal :=
  hostRequest (.readHandset n) (fun s =>
    if handsetInRange n then
      answer s (handsetBytes n (s.remote.handset n) ++ windowBytes s.remote.window ++ consoleBytes s.remote.console)
    else refuse .badIndex s) s

/-- R165: SET RIGHTS, answered with the entry. -/
def execSetRights (n rights : Nat) (s : State) : Host.Outcome State Fault Refusal :=
  hostRequest (.setRights n rights) (fun s =>
    if handsetInRange n = false then refuse .badIndex s
    else
      match Rights.fromCode rights with
      | none => refuse .badValue s
      | some r =>
        let h := s.remote.handset n
        if h.state = .empty then refuse .notNow s
        else
          let s := s.onRemote fun u => u.setHandset n { h with rights := r }
          answer s (handsetBytes n (s.remote.handset n))) s

/-- R166: BLOCK HANDSET by the entry's state. -/
def offerBlock (n : Nat) (s : State) : Offer :=
  let h := s.remote.handset n
  match h.state with
  | .empty => turnedAway .notNow s
  | .active => taken (s.onRemote fun u => u.setHandset n { h with state := .blocked })
  | .lapsed => taken (s.onRemote fun u => u.setHandset n { h with state := .blocked })
  | .blocked => taken s

/-- R166: BLOCK HANDSET. -/
def execBlockHandset (n : Nat) (s : State) : Host.Outcome State Fault Refusal :=
  hostRequest (.blockHandset n) (fun s =>
    if handsetInRange n then .ofOffer (offerBlock n s) else refuse .badIndex s) s

/-- R166: UNBLOCK HANDSET by the entry's state. -/
def offerUnblock (n : Nat) (s : State) : Offer :=
  let h := s.remote.handset n
  match h.state with
  | .empty => turnedAway .notNow s
  | .active => turnedAway .notNow s
  | .lapsed => turnedAway .notNow s
  | .blocked => taken (s.onRemote fun u => u.setHandset n { h with state := .active, quiet := 0 })

/-- R166: UNBLOCK HANDSET. -/
def execUnblockHandset (n : Nat) (s : State) : Host.Outcome State Fault Refusal :=
  hostRequest (.unblockHandset n) (fun s =>
    if handsetInRange n then .ofOffer (offerUnblock n s) else refuse .badIndex s) s

/-- R167: RETIRE HANDSET. -/
def execRetireHandset (n : Nat) (s : State) : Host.Outcome State Fault Refusal :=
  hostRequest (.retireHandset n) (fun s =>
    if handsetInRange n then answer (s.onRemote fun u => u.setHandset n Handset.blank) else refuse .badIndex s) s

/-! ### The IR receiver -/

/-- R153: the byte would complete the frame in reception. -/
def Remote.irCompletes (r : Remote) (b : Byte) : Bool :=
  match r.ir with
  | .bytes before _ => !before.isEmpty && frameComplete (before ++ [b])
  | .idle => false
  | .leader => false

/-- R153: a byte completes with its stop bit present; outside BYTES it is no byte of a frame. -/
def irTake (b : Byte) (s : State) : State :=
  match s.remote.ir with
  | .bytes before mine => irByte before mine b s
  | .idle => s
  | .leader => s

/-- R154: the last byte of an IR frame completes, and the frame is dealt with. -/
def execIrFrame (last : Byte) (s : State) : Host.Outcome State Fault Refusal :=
  .next (if s.remote.irCompletes last then irTake last s else s)

/-- R153: the frame in reception is discarded; after CUT the new leader is good and reception starts again. LENGTH can
only fail at the first byte. -/
def execIrFrameError (cause : IrFault) (s : State) : Host.Outcome State Fault Refusal :=
  match s.remote.ir with
  | .bytes before _ =>
    match cause with
    | .length => .next (if before = [] then irDiscard .length s else s)
    | .framing => .next (irDiscard .framing s)
    | .cut => .next ((irDiscard .cut s).onRemote (Remote.irBytes [] false))
  | .idle => .next s
  | .leader => .next s

/-- R153: the gap timer runs out. -/
def execIrGapTimeout (s : State) : Host.Outcome State Fault Refusal :=
  match s.remote.ir with
  | .bytes _ _ => .next (irDiscard .gap s)
  | .idle => .next s
  | .leader => .next s

/-- R153: the carrier becomes present in IDLE. -/
def execIrCarrierPresent (s : State) : Host.Outcome State Fault Refusal :=
  .next (if s.remote.ir = .idle then s.onRemote fun u => { u with ir := .leader } else s)

/-- R153: the carrier becomes absent in LEADER, after a burst of so many microseconds. -/
def execIrLeaderEnd (us : Nat) (s : State) : Host.Outcome State Fault Refusal :=
  .next
    (if s.remote.ir ≠ .leader then s
     else if 6000 ≤ us ∧ us ≤ 10000 then s.onRemote (Remote.irBytes [] false)
     else s.onRemote Remote.irIdle)

/-- R153: the carrier stays present beyond 10 ms in LEADER. -/
def execIrLeaderTooLong (s : State) : Host.Outcome State Fault Refusal :=
  .next (if s.remote.ir = .leader then s.onRemote Remote.irIdle else s)

/-- R153: a byte completes with its stop bit present. -/
def execIrByteComplete (b : Byte) (s : State) : Host.Outcome State Fault Refusal := .next (irTake b s)

/-! ### Time -/

/-- R158: the 30 s of the window run out. -/
def execPairingWindowExpiry (s : State) : Host.Outcome State Fault Refusal :=
  .next (s.onRemote fun u => { u with window := none })

/-- R157: an entry at the step of one second. -/
def Handset.second (h : Handset) : Handset :=
  if h.state = .empty then h
  else
    let q := satAdd 65535 h.quiet 1
    { h with quiet := q, state := if h.state = .active ∧ Config.lapseSeconds ≤ q then .lapsed else h.state }

/-- R157: once each second every entry that is not EMPTY grows quieter, and an ACTIVE one lapses at 1800. -/
def execQuietTimeStep (s : State) : Host.Outcome State Fault Refusal :=
  .next (s.onRemote fun u => { u with handsets := Vector.ofFn fun i : Fin 8 => u.handsets[i].second })

end Sys2Proof.Machine
end

