-- ==== Sys2Proof/Machine/TapeCmds.lean ====
section
/-! DEFINITION. The commands of the Tape and Sound Unit (06_tape_transport_and_program_sound). -/

namespace Sys2Proof.Machine

/-! ### Host requests -/

/-- R113: TAPE PLAY. -/
def execTapePlay (s : State) : Host.Outcome State Fault Refusal :=
  hostRequest .tapePlay (fun s => .ofOffer (offerTapePlay s)) s

/-- R114: TAPE PAUSE. -/
def execTapePause (s : State) : Host.Outcome State Fault Refusal :=
  hostRequest .tapePause (fun s => .ofOffer (offerTapePause s)) s

/-- R115: TAPE STOP. -/
def execTapeStop (s : State) : Host.Outcome State Fault Refusal :=
  hostRequest .tapeStop (fun s => .ofOffer (offerTapeStop s)) s

/-- R116: a wind direction from its list position. -/
def Dir.fromCode : Nat → Option Dir
  | 0 => some .forward
  | 1 => some .backward
  | _ => none

/-- R112, R116: TAPE WIND; the direction is checked first. -/
def execTapeWind (dir : Nat) (s : State) : Host.Outcome State Fault Refusal :=
  hostRequest (.tapeWind dir) (fun s =>
    match Dir.fromCode dir with
    | none => refuse .badValue s
    | some d => .ofOffer (offerTapeWind d s)) s

/-- R120: the position set: the value, SURE, residue 0. -/
def Tape.setPosition (v : Nat) (t : Tape) : Tape := { t with counter := v, sure := true, residue := 0 }

/-- R120: the transport states that take SET TAPE POSITION. -/
def Tape.positionTaken (t : Tape) : Bool :=
  match t.transport with
  | .stopped => t.runDown.isNone
  | .playing => true
  | .paused => true
  | .noTape => false
  | .windingFwd => false
  | .windingBack => false

/-- R120: SET TAPE POSITION, answered with the counter. -/
def execSetTapePosition (v : Nat) (s : State) : Host.Outcome State Fault Refusal :=
  hostRequest (.setTapePosition v) (fun s =>
    if 65535 < v then refuse .badValue s
    else if s.tape.transport = .noTape then refuse .noTape s
    else if s.tape.positionTaken then
      let s := s.onTape (Tape.setPosition v)
      answer s (counterBytes s.tape)
    else refuse .notNow s) s

/-- R122: SET GAIN. -/
def execSetGain (a : Nat) (s : State) : Host.Outcome State Fault Refusal :=
  hostRequest (.setGain a) (fun s => if a ≤ 120 then answer (s.onTape (Tape.setBase a)) else refuse .badValue s) s

/-- R123: the depth first, then the switch setting (1 ON, 0 OFF, 2 no change). -/
def Tape.duckSettings (depth sw : Nat) (t : Tape) : Tape :=
  let t := t.setDepth depth
  match sw with
  | 0 => t.setDuck false
  | 1 => t.setDuck true
  | _ => t

/-- R123: SET DUCK DEPTH, answered with the switch, the depth and the term. -/
def execSetDuckDepth (depth sw : Nat) (s : State) : Host.Outcome State Fault Refusal :=
  hostRequest (.setDuckDepth depth sw) (fun s =>
    if depth ≤ 120 ∧ sw ≤ 2 then
      let s := s.onTape (Tape.duckSettings depth sw)
      answer s (duckBytes s.tape)
    else refuse .badValue s) s

/-- R124: SET MUTE. A setting other than ON and OFF is refused with BAD_VALUE (log 12). -/
def execSetMute (on : Nat) (s : State) : Host.Outcome State Fault Refusal :=
  hostRequest (.setMute on) (fun s =>
    match onOff on with
    | none => refuse .badValue s
    | some b => answer (s.onTape (Tape.setMute b))) s

/-- R125: READ TAPE. -/
def execReadTape (s : State) : Host.Outcome State Fault Refusal :=
  hostRequest .readTape (fun s => answer s (tapeBytes s.tape)) s

/-! ### Events -/

/-- R118: the cassette is removed: the lines go off, the timers and the run-down stop, TAPE_END is raised if the tape
was not at rest, and the counter is 0 and UNSURE. -/
def execCassetteRemoval (s : State) : Host.Outcome State Fault Refusal :=
  if s.tape.transport = .noTape then .next s
  else
    let left := s.tape.transport
    let gone := (setTransport .noTape s).onTape fun t =>
      { t with runDown := none, endTimer := none, reelTimer := none, counter := 0, sure := false, residue := 0 }
    .next (if left = .stopped then gone else raise (.tapeEnd .removed left s.tape.counter) gone)

/-- R118: a cassette is seated. -/
def execCassetteInsertion (s : State) : Host.Outcome State Fault Refusal :=
  if s.tape.transport = .noTape then .next (enterStopped none s) else .next s

/-- R111: the 300 ms of a run-down end. -/
def execRunDownEnd (s : State) : Host.Outcome State Fault Refusal :=
  match s.tape.transport, s.tape.runDown with
  | .stopped, some r =>
    match r.next with
    | .none => .next (s.onTape fun t => { t with runDown := none })
    | .playing => .next (enterPlaying s)
    | .windingFwd => .next (enterWinding .windingFwd s)
    | .windingBack => .next (enterWinding .windingBack s)
  | _, _ => .next s

/-- R119: one capstan pulse counted. -/
def Tape.countPulse (t : Tape) : Tape :=
  if t.residue + 1 < Config.pulsesPerTenth then { t with residue := t.residue + 1 }
  else { t with counter := min 65535 (t.counter + 1), residue := 0 }

/-- R117, R119: a capstan pulse; counted in PLAYING alone, where it restarts the tape-end timer. -/
def execCapstanPulse (s : State) : Host.Outcome State Fault Refusal :=
  if s.tape.transport = .playing then
    .next (s.onTape fun t => { t.countPulse with endTimer := some Config.tapeEndMs })
  else .next s

/-- R117: a reel pulse; in a winding state it restarts the reel timer. -/
def execReelPulse (s : State) : Host.Outcome State Fault Refusal :=
  if s.tape.transport.winding then .next (s.onTape fun t => { t with reelTimer := some Config.tapeEndMs }) else .next s

/-- R117: 1 s without a capstan pulse in PLAYING. By the rule's note a pulse taken first restarts the timer, so the
expiry acts only while the timer stands at 0 (log 4). -/
def execTapeEndTimeout (s : State) : Host.Outcome State Fault Refusal :=
  if s.tape.transport = .playing ∧ s.tape.endTimer = some 0 then
    .next (raise (.tapeEnd .ended .playing s.tape.counter) (enterStopped none s))
  else .next s

/-- R117: 1 s without a reel pulse while winding; as with the tape-end timer, only while the reel timer stands at 0
(log 4). -/
def execReelTimeout (s : State) : Host.Outcome State Fault Refusal :=
  if s.tape.transport.winding ∧ s.tape.reelTimer = some 0 then
    .next (raise (.tapeEnd .ended s.tape.transport s.tape.counter) (enterStopped (freshRunDown .none) s))
  else .next s

/-- R121: a sound tick: the ramps take their step, then the output is formed. -/
def execSoundTick (s : State) : Host.Outcome State Fault Refusal :=
  .next (s.onTape fun t =>
    let t := t.stepBase.stepDuck
    { t with output := t.mix })

/-- R122: a base ramp at its last step is removed, leaving the base at its target. -/
def execBaseRampEnd (s : State) : Host.Outcome State Fault Refusal :=
  match s.tape.baseRamp with
  | some r => if r.done then .next (s.onTape fun t => { t with base := r.b, baseRamp := none }) else .next s
  | none => .next s

/-- R123: a duck ramp at its 20th step is removed. -/
def execDuckRampEnd (s : State) : Host.Outcome State Fault Refusal :=
  match s.tape.duckRamp with
  | some r => if r.done then .next (s.onTape fun t => { t with duckTerm := r.b, duckRamp := none }) else .next s
  | none => .next s

end Sys2Proof.Machine
end

