-- ==== Sys2Proof/Machine/ThermalCmds.lean ====
section
/-! DEFINITION. The commands of the Thermal Unit (05_thermal_estimation_and_cooling). -/

namespace Sys2Proof.Machine

/-- R88: the three values lie in their ranges. -/
def calibrationInRange (offset : Int) (gain : Nat) (zero : Int) : Bool :=
  decide (-512 ≤ offset) && decide (offset ≤ 511) && gain ≤ 16383 && decide (-320 ≤ zero) && decide (zero ≤ 320)

/-- R88: WRITE CALIBRATION, answered with the record. -/
def execWriteCalibration (offset : Int) (gain : Nat) (zero : Int) (s : State) : Host.Outcome State Fault Refusal :=
  hostRequest (.writeCalibration offset gain zero) (fun s =>
    if calibrationInRange offset gain zero then
      let s := s.onThermal fun t => { t with cal := { offset := offset, gain := gain, zero := zero } }
      answer s (calibrationBytes s.thermal.cal)
    else refuse .badValue s) s

/-- R88: READ CALIBRATION. -/
def execReadCalibration (s : State) : Host.Outcome State Fault Refusal :=
  hostRequest .readCalibration (fun s => answer s (calibrationBytes s.thermal.cal)) s

/-- R97: WRITE PROFILE, answered with the profile as written. -/
def execWriteProfile (p : Nat) (v : ProfileValues) (s : State) : Host.Outcome State Fault Refusal :=
  hostRequest (.writeProfile p v) (fun s =>
    match profileIndex p with
    | none => refuse .badIndex s
    | some i =>
      if i = s.thermal.active ∨ some i = s.thermal.next then refuse .inUse s
      else if profileValuesInRange v then
        let s := s.onThermal fun t => { t with profiles := t.profiles.set i.val (Profile.ofValues v) i.isLt }
        answer s (profileBytes s.thermal i)
      else refuse .badValue s) s

/-- R98: READ PROFILE. -/
def execReadProfile (p : Nat) (s : State) : Host.Outcome State Fault Refusal :=
  hostRequest (.readProfile p) (fun s =>
    match profileIndex p with
    | none => refuse .badIndex s
    | some i => answer s (profileBytes s.thermal i)) s

/-- R99: SELECT PROFILE. -/
def execSelectProfile (p : Nat) (s : State) : Host.Outcome State Fault Refusal :=
  hostRequest (.selectProfile p) (fun s => .ofOffer (offerProfile p s)) s

/-- R108: READ THERMAL returns the snapshot of the last period computed. -/
def execReadThermal (s : State) : Host.Outcome State Fault Refusal :=
  hostRequest .readThermal (fun s => answer s (snapshotBytes s.thermal.snapshot)) s

/-- R87: the thermistor is sampled at a period's end. -/
def execThermistorSample (r : Sample) (s : State) : Host.Outcome State Fault Refusal :=
  .next (s.onThermal fun t => { t with sample := some r })

/-- R87: the period computation, taken when the sample and the hand-over are both in hand. -/
def execPeriodComputation (s : State) : Host.Outcome State Fault Refusal :=
  match s.thermal.sample, s.thermal.handover with
  | some r, some h => .next (periodComputation r h s)
  | _, _ => .next s

/-- R107: a tach pulse, with the interval since the pulse before it in microseconds. The spec does not say what the first
pulse after reset gives, which has none before it; the model counts the event's operand as the last interval there too
(DESIGN CHOICE, log 19). -/
def execTachPulse (us : Nat) (s : State) : Host.Outcome State Fault Refusal :=
  .next (s.onThermal fun t => { t with tachInterval := some us, tachSilence := 0 })

end Sys2Proof.Machine
end

