-- ==== Sys2Proof/Machine/TrayMap.lean ====
section
/-! DEFINITION. The commands of the Tray Map (01_the_tray_map): the requests on slot records and options, the tray's
arrival and leaving, and the gate sensor. -/

namespace Sys2Proof.Machine

/-- R2: the three checks of a write on slot records, in order; none passes. -/
def slotWriteFault (first last : Nat) (set : FieldSet) (v : SlotValues) : Option Status :=
  if fieldSetAny set = false then some .badRequest
  else if (slotInRange first && slotInRange last) = false then some .badIndex
  else if slotValuesInRange set v = false then some .badValue
  else none

/-- R3: WRITE SLOT, answered with the whole record as it stands after the write. -/
def execWriteSlot (slot : Nat) (set : FieldSet) (v : SlotValues) (s : State) : Host.Outcome State Fault Refusal :=
  hostRequest (.writeSlot slot set v) (fun s =>
    match slotWriteFault slot slot set v with
    | some st => refuse st s
    | none =>
      let s := s.onChanger fun c => c.setSlot slot ((c.slot slot).write set v)
      answer s (slotBytes slot (s.changer.slot slot))) s

/-- R4: LOAD SLOTS, one event over its range, answered with the count of records written. -/
def execLoadSlots (first last : Nat) (set : FieldSet) (v : SlotValues) (s : State) :
    Host.Outcome State Fault Refusal :=
  hostRequest (.loadSlots first last set v) (fun s =>
    match slotWriteFault first last set v with
    | some st => refuse st s
    | none => answer (s.onChanger fun c => c.mapSlots first last fun r => r.write set v)
        (u8 (slotRangeCount first last))) s

/-- R5: RETIRE SLOT, one event over its range, answered with the count of records retired. -/
def execRetireSlot (first last : Nat) (s : State) : Host.Outcome State Fault Refusal :=
  hostRequest (.retireSlot first last) (fun s =>
    if slotInRange first && slotInRange last then
      answer (s.onChanger fun c => c.mapSlots first last SlotRecord.retire) (u8 (slotRangeCount first last))
    else refuse .badIndex s) s

/-- R6: READ SLOT. -/
def execReadSlot (slot : Nat) (s : State) : Host.Outcome State Fault Refusal :=
  hostRequest (.readSlot slot) (fun s =>
    if slotInRange slot then answer s (slotBytes slot (s.changer.slot slot)) else refuse .badIndex s) s

/-- R13: READ SHOW. -/
def execReadShow (s : State) : Host.Outcome State Fault Refusal :=
  hostRequest .readShow (fun s => answer s (showBytes s)) s

/-- R14: the named options take their values. -/
def Changer.setOptions (e b w : Option Nat) (c : Changer) : Changer :=
  { c with skipEmpty := optionTake c.skipEmpty e, skipBlank := optionTake c.skipBlank b, wrap := optionTake c.wrap w }

/-- R14: SET OPTIONS, answered with all three options. A value other than on and off is refused with BAD_VALUE
(log 12). -/
def execSetOptions (skipEmpty skipBlank wrap : Option Nat) (s : State) : Host.Outcome State Fault Refusal :=
  hostRequest (.setOptions skipEmpty skipBlank wrap) (fun s =>
    if skipEmpty = none ∧ skipBlank = none ∧ wrap = none then refuse .badRequest s
    else if optionInRange skipEmpty && optionInRange skipBlank && optionInRange wrap then
      let s := s.onChanger (Changer.setOptions skipEmpty skipBlank wrap)
      answer s (optionBytesOf s.changer)
    else refuse .badValue s) s

/-- R15, R64: the tray is lifted off: the mechanisms stop, the change in flight is aborted, and what was learned of the
tray is forgotten. -/
def execTrayRemoval (s : State) : Host.Outcome State Fault Refusal :=
  if s.changer.tray = none then .next s
  else
    let s := (s.onDrive Drive.trayRemoved).onLamp Lamp.trayRemoved
    .next (raise .trayOut (finishChange .aborted (s.onChanger Changer.trayRemoved)))

/-- R16: the Changer as a tray of a size is seated. -/
def Changer.trayInserted (t : TraySize) (c : Changer) : Changer :=
  { c with tray := some t, state := .unhomed, homed := false, current := none }

/-- R16, R64: a tray is seated: its lugs are read, the counter is 0 and TRAY_IN is raised with N. -/
def execTrayInsertion (lugs : BitVec 2) (s : State) : Host.Outcome State Fault Refusal :=
  if s.changer.tray = none then
    let t := TraySize.ofLugs lugs
    let s := s.onDrive fun d => { d with position := 0 }
    .next (raise (.trayIn t.slots) (s.onChanger (Changer.trayInserted t)))
  else .next s

/-- R9: a gate change in SHOWING, for the current slot; a slide set in by hand clears the exposure account. -/
def gateInShowing (occupied : Bool) (slot : Nat) (s : State) : State :=
  let s := s.onChanger fun c => c.setOccupancy slot (if occupied then .present else .empty)
  raise (.gateChanged slot) (if occupied then s.onLamp Lamp.clearExposure else s)

/-- R61, R9: the gate state changes; in SHOWING the Changer takes it. -/
def execGateStateChange (occupied : Bool) (s : State) : Host.Outcome State Fault Refusal :=
  if s.drive.gate = occupied then .next s
  else
    let s := s.onDrive fun d => { d with gate := occupied }
    match s.changer.state, s.changer.current with
    | .showing, some slot => .next (gateInShowing occupied slot s)
    | _, _ => .next s

end Sys2Proof.Machine
end

