-- ==== Sys2Proof/Machine/Dispatch.lean ====
section
/-! DEFINITION. The meaning of every command: one arm per row of spec/opcode_table.json, each a direct call of its
definition. The effect is on everything but the queue of waiting commands. -/

namespace Sys2Proof.Machine

def exec (i : Instr) (s : State) : Host.Outcome State Fault Refusal :=
  match i with
  | .writeSlot slot set v => Sys2Proof.Machine.execWriteSlot slot set v s
  | .loadSlots first last set v => Sys2Proof.Machine.execLoadSlots first last set v s
  | .retireSlot first last => Sys2Proof.Machine.execRetireSlot first last s
  | .readSlot slot => Sys2Proof.Machine.execReadSlot slot s
  | .readShow => Sys2Proof.Machine.execReadShow s
  | .setOptions skipEmpty skipBlank wrap => Sys2Proof.Machine.execSetOptions skipEmpty skipBlank wrap s
  | .step k => Sys2Proof.Machine.execStep k s
  | .goto n => Sys2Proof.Machine.execGoto n s
  | .home => Sys2Proof.Machine.execHome s
  | .hold => Sys2Proof.Machine.execHold s
  | .resume => Sys2Proof.Machine.execResume s
  | .flush => Sys2Proof.Machine.execFlush s
  | .readDrive => Sys2Proof.Machine.execReadDrive s
  | .focus dir ticks => Sys2Proof.Machine.execFocus dir ticks s
  | .lampOn => Sys2Proof.Machine.execLampOn s
  | .lampOff => Sys2Proof.Machine.execLampOff s
  | .lampReset => Sys2Proof.Machine.execLampReset s
  | .setLight v => Sys2Proof.Machine.execSetLight v s
  | .writeExposure cls limit => Sys2Proof.Machine.execWriteExposure cls limit s
  | .readLamp => Sys2Proof.Machine.execReadLamp s
  | .writeCalibration offset gain zero => Sys2Proof.Machine.execWriteCalibration offset gain zero s
  | .readCalibration => Sys2Proof.Machine.execReadCalibration s
  | .writeProfile p v => Sys2Proof.Machine.execWriteProfile p v s
  | .readProfile p => Sys2Proof.Machine.execReadProfile p s
  | .selectProfile p => Sys2Proof.Machine.execSelectProfile p s
  | .readThermal => Sys2Proof.Machine.execReadThermal s
  | .tapePlay => Sys2Proof.Machine.execTapePlay s
  | .tapePause => Sys2Proof.Machine.execTapePause s
  | .tapeStop => Sys2Proof.Machine.execTapeStop s
  | .tapeWind dir => Sys2Proof.Machine.execTapeWind dir s
  | .setTapePosition v => Sys2Proof.Machine.execSetTapePosition v s
  | .setGain a => Sys2Proof.Machine.execSetGain a s
  | .setDuckDepth depth sw => Sys2Proof.Machine.execSetDuckDepth depth sw s
  | .setMute on => Sys2Proof.Machine.execSetMute on s
  | .readTape => Sys2Proof.Machine.execReadTape s
  | .setCueOptions confirm legacy => Sys2Proof.Machine.execSetCueOptions confirm legacy s
  | .setMasks global localA localB => Sys2Proof.Machine.execSetMasks global localA localB s
  | .writeCue v => Sys2Proof.Machine.execWriteCue v s
  | .armCue n => Sys2Proof.Machine.execArmCue n s
  | .pauseCue n => Sys2Proof.Machine.execPauseCue n s
  | .retireCue n => Sys2Proof.Machine.execRetireCue n s
  | .readCue n => Sys2Proof.Machine.execReadCue n s
  | .learnOn => Sys2Proof.Machine.execLearnOn s
  | .learnOff => Sys2Proof.Machine.execLearnOff s
  | .readLearn => Sys2Proof.Machine.execReadLearn s
  | .readCueUnit => Sys2Proof.Machine.execReadCueUnit s
  | .openPairing rights => Sys2Proof.Machine.execOpenPairing rights s
  | .closePairing => Sys2Proof.Machine.execClosePairing s
  | .readHandset n => Sys2Proof.Machine.execReadHandset n s
  | .setRights n rights => Sys2Proof.Machine.execSetRights n rights s
  | .blockHandset n => Sys2Proof.Machine.execBlockHandset n s
  | .unblockHandset n => Sys2Proof.Machine.execUnblockHandset n s
  | .retireHandset n => Sys2Proof.Machine.execRetireHandset n s
  | .setAddress address groups => Sys2Proof.Machine.execSetAddress address groups s
  | .sendFrame dest key args rep => Sys2Proof.Machine.execSendFrame dest key args rep s
  | .portAbort => Sys2Proof.Machine.execPortAbort s
  | .portRestart => Sys2Proof.Machine.execPortRestart s
  | .readPort => Sys2Proof.Machine.execReadPort s
  | .setNoticeMask mask => Sys2Proof.Machine.execSetNoticeMask mask s
  | .readNotices => Sys2Proof.Machine.execReadNotices s
  | .readNotice kind => Sys2Proof.Machine.execReadNotice kind s
  | .clearNotices => Sys2Proof.Machine.execClearNotices s
  | .reset => Sys2Proof.Machine.execReset s
  | .pollPeriod kind len => Sys2Proof.Machine.execPollPeriod kind len s
  | .requestFrame bytes => Sys2Proof.Machine.execRequestFrame bytes s
  | .fetch len => Sys2Proof.Machine.execFetch len s
  | .resetPinAssert => Sys2Proof.Machine.execResetPinAssert s
  | .powerOnReset => Sys2Proof.Machine.execPowerOnReset s
  | .trayRemoval => Sys2Proof.Machine.execTrayRemoval s
  | .trayInsertion lugs => Sys2Proof.Machine.execTrayInsertion lugs s
  | .gateStateChange occupied => Sys2Proof.Machine.execGateStateChange occupied s
  | .encoderCount => Sys2Proof.Machine.execEncoderCount s
  | .backOffComplete => Sys2Proof.Machine.execBackOffComplete s
  | .noIndexBudgetExhausted => Sys2Proof.Machine.execNoIndexBudgetExhausted s
  | .indexPass => Sys2Proof.Machine.execIndexPass s
  | .stallWatchdogExpiry => Sys2Proof.Machine.execStallWatchdogExpiry s
  | .brakeEnd => Sys2Proof.Machine.execBrakeEnd s
  | .liftDone => Sys2Proof.Machine.execLiftDone s
  | .dropDone => Sys2Proof.Machine.execDropDone s
  | .lifterTimeout => Sys2Proof.Machine.execLifterTimeout s
  | .lifterSwitchChange up down => Sys2Proof.Machine.execLifterSwitchChange up down s
  | .settleEnd => Sys2Proof.Machine.execSettleEnd s
  | .fadeTick => Sys2Proof.Machine.execFadeTick s
  | .fadeOutEnd => Sys2Proof.Machine.execFadeOutEnd s
  | .fadeInEnd => Sys2Proof.Machine.execFadeInEnd s
  | .dwellTenth => Sys2Proof.Machine.execDwellTenth s
  | .dwellExpiry => Sys2Proof.Machine.execDwellExpiry s
  | .focusStopTimerExpiry => Sys2Proof.Machine.execFocusStopTimerExpiry s
  | .focusDurationEnd => Sys2Proof.Machine.execFocusDurationEnd s
  | .focusPauseEnd => Sys2Proof.Machine.execFocusPauseEnd s
  | .focusEndSwitch dir closed => Sys2Proof.Machine.execFocusEndSwitch dir closed s
  | .strikeAttemptTimer => Sys2Proof.Machine.execStrikeAttemptTimer s
  | .strikeWindowEnd => Sys2Proof.Machine.execStrikeWindowEnd s
  | .currentSenseChange flowing => Sys2Proof.Machine.execCurrentSenseChange flowing s
  | .warmUpEnd => Sys2Proof.Machine.execWarmUpEnd s
  | .currentLoss => Sys2Proof.Machine.execCurrentLoss s
  | .cooldownTimerExpiry => Sys2Proof.Machine.execCooldownTimerExpiry s
  | .lampPeriodEnd => Sys2Proof.Machine.execLampPeriodEnd s
  | .thermistorSample r => Sys2Proof.Machine.execThermistorSample r s
  | .periodComputation => Sys2Proof.Machine.execPeriodComputation s
  | .tachPulse us => Sys2Proof.Machine.execTachPulse us s
  | .cassetteRemoval => Sys2Proof.Machine.execCassetteRemoval s
  | .cassetteInsertion => Sys2Proof.Machine.execCassetteInsertion s
  | .runDownEnd => Sys2Proof.Machine.execRunDownEnd s
  | .capstanPulse => Sys2Proof.Machine.execCapstanPulse s
  | .reelPulse => Sys2Proof.Machine.execReelPulse s
  | .tapeEndTimeout => Sys2Proof.Machine.execTapeEndTimeout s
  | .reelTimeout => Sys2Proof.Machine.execReelTimeout s
  | .soundTick => Sys2Proof.Machine.execSoundTick s
  | .baseRampEnd => Sys2Proof.Machine.execBaseRampEnd s
  | .duckRampEnd => Sys2Proof.Machine.execDuckRampEnd s
  | .cueWordComplete stopBit => Sys2Proof.Machine.execCueWordComplete stopBit s
  | .confirmTimeout => Sys2Proof.Machine.execConfirmTimeout s
  | .pulseCue => Sys2Proof.Machine.execPulseCue s
  | .irFrame last => Sys2Proof.Machine.execIrFrame last s
  | .irFrameError cause => Sys2Proof.Machine.execIrFrameError cause s
  | .irGapTimeout => Sys2Proof.Machine.execIrGapTimeout s
  | .pairingWindowExpiry => Sys2Proof.Machine.execPairingWindowExpiry s
  | .quietTimeStep => Sys2Proof.Machine.execQuietTimeStep s
  | .busDestinationDecided port b => Sys2Proof.Machine.execBusDestinationDecided port b s
  | .busFrameEnd port last => Sys2Proof.Machine.execBusFrameEnd port last s
  | .busGapTimeout port => Sys2Proof.Machine.execBusGapTimeout port s
  | .busTailQuiet port => Sys2Proof.Machine.execBusTailQuiet port s
  | .busCollision port => Sys2Proof.Machine.execBusCollision port s
  | .statusAnswerStart => Sys2Proof.Machine.execStatusAnswerStart s
  | .statusAnswerDone => Sys2Proof.Machine.execStatusAnswerDone s
  | .statusAnswerTimeout => Sys2Proof.Machine.execStatusAnswerTimeout s
  | .originationStart => Sys2Proof.Machine.execOriginationStart s
  | .originationDone => Sys2Proof.Machine.execOriginationDone s
  | .originationWaitTimeout => Sys2Proof.Machine.execOriginationWaitTimeout s
  | .backoffEnd => Sys2Proof.Machine.execBackoffEnd s
  | .cueDataFallingEdge => Sys2Proof.Machine.execCueDataFallingEdge s
  | .startBitRecheck high => Sys2Proof.Machine.execStartBitRecheck high s
  | .cueBitSample high => Sys2Proof.Machine.execCueBitSample high s
  | .toneBurstStart => Sys2Proof.Machine.execToneBurstStart s
  | .shortToneBurstEnd => Sys2Proof.Machine.execShortToneBurstEnd s
  | .irCarrierPresent => Sys2Proof.Machine.execIrCarrierPresent s
  | .irLeaderEnd us => Sys2Proof.Machine.execIrLeaderEnd us s
  | .irLeaderTooLong => Sys2Proof.Machine.execIrLeaderTooLong s
  | .irByteComplete b => Sys2Proof.Machine.execIrByteComplete b s
  | .busByteReceived port b => Sys2Proof.Machine.execBusByteReceived port b s
  | .busForwardEnd sender => Sys2Proof.Machine.execBusForwardEnd sender s

end Sys2Proof.Machine
end

