-- ==== Sys2Proof/Machine/Time.lean ====
section
/-! DEFINITION. The passing of time while no command waits (log 1, DESIGN CHOICE): one millisecond comes off every timer
that runs. A timer that reaches 0 stands there until the command of its expiry is taken; no expiry is taken here. -/

namespace Sys2Proof.Machine

/-- One millisecond of the Tray Drive: the watchdog, the brake, the lifter, the settle and the focus timers. -/
def Drive.passMs (d : Drive) : Drive :=
  { d with
    watchdog := countDown d.watchdog
    brakeTimer := countDown d.brakeTimer
    lifterTimer := countDown d.lifterTimer
    settleTimer := countDown d.settleTimer
    focusTimer := countDown d.focusTimer }

/-- One millisecond of the Lamp Controller: the window, the wait between attempts, the warm-up, the cool-down and the
current-loss timer, which counts up to its 200 ms. -/
def Lamp.passMs (l : Lamp) : Lamp :=
  { l with
    window := countDown l.window
    nextStrike := countDown l.nextStrike
    warmUp := l.warmUp - 1
    coolDown := l.coolDown - 1
    lossTimer := l.lossTimer.map fun ms => satAdd Config.currentLossMs ms 1 }

/-- R107: one millisecond without a tach pulse, counted to just above 100. -/
def Thermal.passMs (t : Thermal) : Thermal := { t with tachSilence := satAdd (Config.tachSlowMs + 1) t.tachSilence 1 }

/-- One millisecond of the Tape and Sound Unit: the run-down, the tape-end and the reel timer. -/
def Tape.passMs (t : Tape) : Tape :=
  { t with
    runDown := t.runDown.map fun r => { r with left := r.left - 1 }
    endTimer := countDown t.endTimer
    reelTimer := countDown t.reelTimer }

/-- One millisecond of the Cue Unit: the confirm timer, and the burst being timed. -/
def CueUnit.passMs (u : CueUnit) : CueUnit :=
  { u with
    holding := u.holding.map fun h => { h with left := h.left - 1 }
    burst := u.burst.map (· + 1) }

/-- One millisecond of the Remote Unit: the pairing window and the IR gap timer. -/
def Remote.passMs (r : Remote) : Remote :=
  { r with
    window := r.window.map fun w => { w with left := w.left - 1 }
    irGap := countDown r.irGap }

/-- One millisecond of the Bus Port: the wait of a held answer that has not started (R175) and the wait clock of a frame
in WAITING (R177). -/
def Bus.passMs (b : Bus) : Bus :=
  { b with
    answer := b.answer.map fun a => if a.sending then a else { a with left := a.left - 1 }
    slot := b.slot.map fun o => if o.phase = .waiting then { o with wait := o.wait - 1 } else o }

/-- One millisecond passes. -/
def passMs (s : State) : State :=
  { s with
    drive := s.drive.passMs
    lamp := s.lamp.passMs
    thermal := s.thermal.passMs
    tape := s.tape.passMs
    cue := s.cue.passMs
    remote := s.remote.passMs
    bus := s.bus.passMs }

end Sys2Proof.Machine
end

