-- ==== Sys2Proof/Safety.lean ====
section
/-! DEFINITION. The laws the manual says the part keeps, as predicates on a state: what counts as a safe state in the
terms the claims use. Each names its rule. -/

namespace Sys2Proof.Machine

/-! ### The Changer -/

/-- R1: every field of a slot record lies in its range. -/
def SlotRecord.lawful (r : SlotRecord) : Bool :=
  r.dwell ≤ 9999 && r.fadeOut ≤ 500 && r.fadeIn ≤ 500 && r.light ≤ 1000 && r.cls ≤ 3 && r.sound.getD 0 ≤ 120 &&
  match r.loop with
  | .start c => 1 ≤ c && c ≤ 255
  | .none => true
  | .close => true

/-- R1: every record of the Slot Table is lawful. -/
def SlotLaw (s : State) : Prop := ∀ i : Fin 140, s.changer.slots[i].lawful = true

/-- R10: the current slot is a number in 1..N exactly when a tray is present and homed. -/
def CurrentLaw (s : State) : Prop :=
  (s.changer.current.isSome = true ↔ s.changer.tray.isSome = true ∧ s.changer.homed = true) ∧
  ∀ n, s.changer.current = some n → 1 ≤ n ∧ n ≤ s.changer.size

/-- R22: an entry of the Change Queue on a tray of n slots. -/
def Entry.lawful (n : Nat) (e : Entry) : Bool :=
  match e.kind with
  | .step k => k != 0 && k.natAbs ≤ 9
  | .goto t => 1 ≤ t && t ≤ n

/-- R22: the Change Queue holds at most 4 entries, each lawful, and none while the tray is not homed. -/
def QueueLaw (s : State) : Prop :=
  s.changer.queue.length ≤ 4 ∧ (∀ e ∈ s.changer.queue, e.lawful s.changer.size = true) ∧
  (s.changer.homed = false → s.changer.queue = [])

/-- R44: the Loop Stack holds at most 2 frames of slots 1..N, and none while the tray is not homed. -/
def LoopLaw (s : State) : Prop :=
  s.changer.loops.length ≤ 2 ∧ (∀ f ∈ s.changer.loops, 1 ≤ f.start ∧ f.start ≤ s.changer.size ∧ f.remaining ≤ 255) ∧
  (s.changer.homed = false → s.changer.loops = [])

/-- The states of a change cycle or homing, in which the current change record is filled. -/
def ChangerState.inFlight : ChangerState → Bool
  | .homing => true
  | .fadingOut => true
  | .lifting => true
  | .rotating => true
  | .dropping => true
  | .settling => true
  | .fadingIn => true
  | .noTray => false
  | .unhomed => false
  | .showing => false
  | .jammed => false

/-- 02_changing_slides: the current change record is empty in SHOWING, NO_TRAY, UNHOMED and JAMMED, and filled in every
other state. -/
def RecordLaw (s : State) : Prop := s.changer.change.isSome = s.changer.state.inFlight

/-- 02_changing_slides: the change in flight has a target in 1..N, which a homing has once the index is seen. -/
def TargetLaw (s : State) : Prop :=
  ∀ ch, s.changer.change = some ch →
    (∀ t, ch.target = some t → 1 ≤ t ∧ t ≤ s.changer.size) ∧
    (s.changer.state ≠ .homing ∨ s.changer.homed = true → ch.target.isSome = true)

/-- R10, R11: the changer state, the tray and homed agree: NO_TRAY exactly with the tray ABSENT, homed no in UNHOMED and
JAMMED, and yes in SHOWING and through a change cycle. -/
def HomedLaw (s : State) : Prop :=
  (s.changer.state = .noTray ↔ s.changer.tray = none) ∧
  (s.changer.state = .noTray ∨ s.changer.state = .unhomed ∨ s.changer.state = .jammed → s.changer.homed = false) ∧
  (s.changer.homed = false →
    s.changer.state = .noTray ∨ s.changer.state = .unhomed ∨ s.changer.state = .jammed ∨ s.changer.state = .homing)

/-- R31, R34: a change has just been taken from SHOWING with light on the screen: the queue, the Loop Stack and the change
record are as given, the run is 0, the focus motor has been stopped, and the light fades to 0 over f ticks. -/
def departed (ch : Change) (queue : List Entry) (loops : List LoopFrame) (f : Nat) (s : State) : State :=
  { s with
    changer :=
      { s.changer with
        state := .fadingOut, change := some ch, queue := queue, loops := loops, run := 0, keptLoop := .none,
        dwellDue := false }
    drive := if s.drive.focus.isRunning then { s.drive with focus := .stopped, focusTimer := none } else s.drive
    lamp := { s.lamp with fade := s.lamp.delivered, ramp := some { a := s.lamp.delivered, b := 0, n := f, k := 0 } } }

/-- R31, R34: a change has just been taken from SHOWING with no light on the screen or over a fade-out of 0: the queue, the
Loop Stack and the change record are as given, the run is 0, the focus motor has been stopped, the light is held at 0 and
the lift begins, upward for at most 600 ms. -/
def lifted (ch : Change) (queue : List Entry) (loops : List LoopFrame) (s : State) : State :=
  let stopped : Drive :=
    if s.drive.focus.isRunning then { s.drive with focus := .stopped, focusTimer := none } else s.drive
  { s with
    changer :=
      { s.changer with
        state := .lifting, change := some ch, queue := queue, loops := loops, run := 0, keptLoop := .none,
        dwellDue := false }
    drive := { stopped with lifterDrive := .upward, lifterTimer := some 600 }
    lamp := { s.lamp with fade := 0, ramp := none, darkHold := true } }

/-- R31, R34: t follows s by a change taken from SHOWING: over the current slot's fade-out, or straight to the lift where
there is no light to fade or the fade-out is 0 (the lifter not UP). -/
def Departs (ch : Change) (queue : List Entry) (loops : List LoopFrame) (s t : State) : Prop :=
  (∀ f, s.lamp.delivered ≠ 0 → f ≠ 0 → s.changer.currentSlot.map SlotRecord.fadeOut = some f →
    t = departed ch queue loops f s) ∧
  (s.lamp.delivered = 0 ∨ s.changer.currentSlot.map SlotRecord.fadeOut = some 0 → s.drive.lifter ≠ .up →
    t = lifted ch queue loops s)

/-! ### The Tray Drive -/

/-- R49: the position counter lies in 0..24N − 1, and is 0 while the tray is ABSENT. -/
def PositionLaw (s : State) : Prop :=
  (s.changer.tray = none → s.drive.position = 0) ∧
  (s.changer.tray ≠ none → s.drive.position < modulus s.changer.size)

/-- R52: the tray motor is driven only while the lifter reports UP, and never together with the focus motor. -/
def DriveLaw (s : State) : Prop :=
  s.drive.bridge.drives = true → s.drive.lifter = .up ∧ s.drive.focus = .stopped

/-- R53, R56: a motion drives the tray; the lift phase of a homing does not. -/
def Motion.turnsTray : Motion → Bool
  | .turn _ _ => true
  | .homeSeek => true
  | .homeCentre => true
  | .none => false
  | .homeLift => false

/-- R53, R56, R65: a motion stands only in the changer state that ordered it, and in a homing only its centre phase is
homed. The bridge drives, or waits in a brake for another drive or test, only within a motion that turns the tray, and a
back-off is driven. -/
def MotionLaw (s : State) : Prop :=
  (∀ d t, s.drive.motion = .turn d t → s.changer.state = .rotating) ∧
  (s.drive.motion = .homeLift ∨ s.drive.motion = .homeSeek → s.changer.state = .homing ∧ s.changer.homed = false) ∧
  (s.drive.motion = .homeCentre → s.changer.state = .homing ∧ s.changer.homed = true) ∧
  (s.drive.bridge.drives = true → s.drive.motion.turnsTray = true) ∧
  (s.drive.afterBrake ≠ .off → s.drive.bridge = .brake ∧ s.drive.motion.turnsTray = true) ∧
  (s.drive.backingOff = true → s.drive.bridge.drives = true)

/-- R58 to R60: the lifter is driven upward only in LIFTING or in a homing's lift, and downward only in DROPPING; its
timer runs only while it is driven, and it is not driven while the bridge drives. -/
def LifterLaw (s : State) : Prop :=
  (s.drive.lifterDrive = .upward → s.changer.state = .lifting ∨ s.drive.motion = .homeLift) ∧
  (s.drive.lifterDrive = .downward → s.changer.state = .dropping) ∧
  (s.drive.lifterTimer.isSome = true → s.drive.lifterDrive ≠ .off) ∧
  (s.drive.bridge.drives = true → s.drive.lifterDrive = .off)

/-- R10, R22, R44, R52, R53, R56, R58: the laws of a change cycle and of the drive that carries it out, together. -/
structure CycleLaw (s : State) : Prop where
  homed : HomedLaw s
  record : RecordLaw s
  current : CurrentLaw s
  target : TargetLaw s
  queue : QueueLaw s
  motion : MotionLaw s
  lifter : LifterLaw s
  drive : DriveLaw s

/-! ### The Lamp Controller -/

/-- R76: the delivered light is 0 whenever the lamp is not lit, the gate not OCCUPIED, the lifter not DOWN or the dark
hold set; and it never exceeds the base level, the warm cap, the applied cap or a guard in force. -/
def LightBound (light : Nat) (s : State) : Prop :=
  ((s.lamp.lit = false ∨ s.drive.gate = false ∨ s.drive.lifter ≠ .down ∨ s.lamp.darkHold = true) → light = 0) ∧
  light ≤ s.lamp.fade ∧ light ≤ baseLevel s ∧ light ≤ s.lamp.warmCap ∧ light ≤ s.lamp.appliedCap ∧
  (s.lamp.guard = true → light ≤ s.thermal.profile.guardLevel)

/-- R76 to R78: the fade value, its ramp and the delivered light stay in 0..1000. -/
def LightLaw (s : State) : Prop :=
  s.lamp.fade ≤ 1000 ∧ s.lamp.delivered ≤ 1000 ∧ ∀ r, s.lamp.ramp = some r → r.a ≤ 1000 ∧ r.b ≤ 1000

/-- R67, R71: the timers stand at 0 outside the states they belong to: the cool-down timer outside COOLDOWN, the warm-up
timer outside WARMING, and no window or wait outside STRIKING. -/
def LampTimerLaw (s : State) : Prop :=
  (s.lamp.state ≠ .cooldown → s.lamp.coolDown = 0) ∧ (s.lamp.state ≠ .warming → s.lamp.warmUp = 0) ∧
  (s.lamp.state ≠ .striking → s.lamp.window = none ∧ s.lamp.nextStrike = none) ∧
  (s.lamp.lit = false → s.lamp.lossTimer = none) ∧ s.lamp.attempts ≤ 3

/-- R70, R71: the band view is the band last decided, and in TRIP the lamp is neither striking nor lit. -/
def TripLaw (s : State) : Prop :=
  s.lamp.bandView = s.thermal.band ∧ (s.thermal.band = .trip → s.lamp.active = false)

/-- R81: the exposure account stays within its outer bound, and the guard is in force only with a limit. -/
def ExposureLaw (s : State) : Prop :=
  s.lamp.exposure ≤ Config.exposureMax ∧ ∀ i : Fin 3, s.lamp.limits[i] ≤ Config.exposureMax

/-! ### The Thermal Unit -/

/-- R95: the thermal estimate stays within −320..3200 eighths. -/
def EstimateLaw (s : State) : Prop := inTempRange s.thermal.est = true

/-- R105: while the lamp is not OFF, the fan duty is at least the active profile's floor; no floor exceeds 1000. -/
def FanLaw (s : State) : Prop :=
  (s.lamp.state ≠ .off → s.thermal.profile.floor ≤ s.thermal.duty) ∧ s.thermal.duty ≤ 1000 ∧
  ∀ i : Fin 8, s.thermal.profiles[i].floor ≤ 1000

/-! ### The Tape and Sound Unit and the Cue Unit -/

/-- R111: a run-down is held in STOPPED alone; the tape-end timer runs exactly in PLAYING and the reel timer exactly in
the winding states (R117). -/
def TransportLaw (s : State) : Prop :=
  (s.tape.runDown.isSome = true → s.tape.transport = .stopped) ∧
  (s.tape.endTimer.isSome = true ↔ s.tape.transport = .playing) ∧
  (s.tape.reelTimer.isSome = s.tape.transport.winding)

/-- R121: the program-sound values stay in their ranges. -/
def SoundLaw (s : State) : Prop :=
  s.tape.base ≤ 120 ∧ s.tape.duckDepth ≤ 120 ∧ s.tape.duckTerm ≤ 120 ∧
  (∀ r, s.tape.baseRamp = some r → r.a ≤ 120 ∧ r.b ≤ 120) ∧ ∀ r, s.tape.duckRamp = some r → r.a ≤ 120 ∧ r.b ≤ 120

/-- R128: while the PLAYING gate is closed the receiver stands in IDLE, and neither a word nor a burst is held. -/
def GateLaw (s : State) : Prop :=
  cueGateOpen s = false → s.cue.rx = .idle ∧ s.cue.holding = none ∧ s.cue.burst = none

/-- R135: the argument of a cue action lies in its range. -/
def CueAction.lawful : CueAction → Bool
  | .step k => k != 0 && k.natAbs ≤ 9
  | .goto n => 1 ≤ n && n ≤ 140
  | .hold => true
  | .resume => true
  | .light v => v ≤ 1000
  | .profile p => p ≤ 7
  | .gain a => a ≤ 120
  | .duck _ => true
  | .tapePause => true
  | .relay address key arg =>
      1 ≤ address && address ≤ 31 && keySendable key && keyArgs key == some arg.toList.length && arg.getD 0 ≤ 255
  | .notify v => v ≤ 255

/-- R135: a FREE entry has no action, and any other has one with its argument in range; a window's ends are in order. -/
def CueEntry.lawful (e : CueEntry) : Bool :=
  (match e.action with
   | none => e.state == .free
   | some a => e.state != .free && a.lawful) &&
  (match e.tapeWindow with
   | none => true
   | some w => w.lo ≤ w.hi && w.hi ≤ 65535) &&
  (match e.slotWindow with
   | none => true
   | some w => 1 ≤ w.lo && w.lo ≤ w.hi && w.hi ≤ 140) &&
  e.hits ≤ 255

/-- R135: every entry of the Cue Map is lawful. -/
def CueStoreLaw (s : State) : Prop := ∀ i : Fin 32, s.cue.map[i].lawful = true

/-- R135: no two ARMED entries of the Cue Map have both the same code and the same mask selector. -/
def CueMapLaw (s : State) : Prop :=
  ∀ i j : Fin 32, i ≠ j → s.cue.map[i].state = .armed → s.cue.map[j].state = .armed →
    ¬(s.cue.map[i].code = s.cue.map[j].code ∧ s.cue.map[i].selector = s.cue.map[j].selector)

/-! ### The Remote Unit -/

/-- R156: no handset ID occupies more than one entry, and an entry holds an ID exactly when it is not EMPTY. -/
def HandsetLaw (s : State) : Prop :=
  (∀ i j : Fin 8, i ≠ j → s.remote.handsets[i].id ≠ none → s.remote.handsets[i].id ≠ s.remote.handsets[j].id) ∧
  ∀ i : Fin 8, s.remote.handsets[i].state = .empty ↔ s.remote.handsets[i].id = none

/-! ### The Bus Port -/

/-- R180: the Bus Port transmits nothing while SILENT and originates nothing while PASSIVE or SILENT. -/
def PortLaw (s : State) : Prop :=
  (s.bus.state = .silent → ∀ p, s.bus.transmits p = false) ∧
  (s.bus.state ≠ .active → s.bus.slot = none ∧ s.bus.answer = none)

/-- R171, R173: a length byte is held for a forward only on a port that has taken exactly that byte of a frame and does
not transmit. -/
def HoldLaw (s : State) : Prop :=
  ∀ p, s.bus.fwdFrom p = .holding → (s.bus.rx p).atDestination = true ∧ s.bus.transmits p = false

/-- R179, R180: the error counter and the good-frame run stay in their ranges, and the counter agrees with the state. -/
def CounterLaw (s : State) : Prop :=
  s.bus.errors ≤ 255 ∧ s.bus.goodRun ≤ 32 ∧ (s.bus.state = .active → s.bus.errors < 96) ∧
  (s.bus.state = .passive → 64 ≤ s.bus.errors ∧ s.bus.errors < 160)

/-! ### The Panel Link -/

/-- R183, R185: the response buffer holds a frame exactly in RESPONSE, and a request is in hand exactly in BUSY. -/
def LinkLaw (s : State) : Prop :=
  (s.link.status = .response ↔ s.link.respBuf ≠ []) ∧ (s.link.status = .busy ↔ s.link.reqBuf ≠ [])

/-- R187: a place holds an argument of its own kind, and a mark only while it is pending. -/
def NoticeLaw (s : State) : Prop :=
  ∀ i : Fin 30, (∀ n, s.link.notices[i].arg = some n → n.place = i) ∧
    (s.link.notices[i].arg = none → s.link.notices[i].mark = false)

end Sys2Proof.Machine
end

