-- ==== Sys2Proof/Certificates/Slice0/Obligations.lean ====
section
/-! DEFINITION. The statements for the provers. A statement about a host request assumes that the link can carry it
(`accepts`: the RESET pin is released, and the link is READY or holds this very request); its next state is written out, so
that it is a result, a completion and a frame at once. `respond` puts the answer in the response buffer and changes nothing
outside the Panel Link (Obligations.RequestsAreAnsweredOrIgnored). -/

open Sys2Proof Sys2Proof.Machine

/-! ### The queue, time and the link -/

/-- A step with a command in front takes that command and runs it with the queue's rest. -/
def Obligations.StepTakesTheFront : Prop :=
  ∀ (c : Instr) (rest : List Instr) (s : State),
    step { s with pending := c :: rest } = exec c { s with pending := rest }

/-- The model's choice (log 1): on an empty queue one millisecond passes: every running timer comes down by 1 and
stands at 0, and the Changer, the link and the queue stay as they are. -/
def Obligations.AnIdleStepIsAMillisecond : Prop :=
  ∀ s : State, s.pending = [] → ∃ t : State,
    step s = .next t ∧ t.changer = s.changer ∧ t.link = s.link ∧ t.pending = [] ∧
    t.drive = { s.drive with
      watchdog := s.drive.watchdog.map (· - 1), brakeTimer := s.drive.brakeTimer.map (· - 1),
      lifterTimer := s.drive.lifterTimer.map (· - 1), settleTimer := s.drive.settleTimer.map (· - 1),
      focusTimer := s.drive.focusTimer.map (· - 1) } ∧
    t.lamp = { s.lamp with
      window := s.lamp.window.map (· - 1), nextStrike := s.lamp.nextStrike.map (· - 1), warmUp := s.lamp.warmUp - 1,
      coolDown := s.lamp.coolDown - 1, lossTimer := s.lamp.lossTimer.map fun ms => min 200 (ms + 1) } ∧
    t.thermal = { s.thermal with tachSilence := min 101 (s.thermal.tachSilence + 1) } ∧
    t.tape = { s.tape with
      runDown := s.tape.runDown.map fun r => { r with left := r.left - 1 }
      endTimer := s.tape.endTimer.map (· - 1), reelTimer := s.tape.reelTimer.map (· - 1) } ∧
    t.cue = { s.cue with
      holding := s.cue.holding.map fun h => { h with left := h.left - 1 }
      burst := s.cue.burst.map (· + 1) } ∧
    t.remote = { s.remote with
      window := s.remote.window.map fun w => { w with left := w.left - 1 }
      irGap := s.remote.irGap.map (· - 1) } ∧
    t.bus = { s.bus with
      answer := s.bus.answer.map fun a => if a.sending then a else { a with left := a.left - 1 }
      slot := s.bus.slot.map fun o => if o.phase = .waiting then { o with wait := o.wait - 1 } else o }

/-- Every command gives a next state in every state: none faults, none is refused. It leaves the waiting commands
alone. -/
def Obligations.EveryCommandCompletes : Prop :=
  ∀ (c : Instr) (s : State), ∃ t : State, exec c s = .next t ∧ t.pending = s.pending

/-- R183, R185: a host request the link carries is answered: the link status becomes RESPONSE, no request is in hand,
and the response buffer holds a frame with the request's code. One it cannot carry changes nothing at all. R185, R152:
a response frame is the length byte 4 + p, the request code, the status code, p payload bytes (none unless DONE), and
two checks that agree with its bytes; putting it in the response buffer changes the link alone. The model's choices
here: log 2 (a request command in READY acts without its frame, and one the link cannot carry is ignored whole). -/
def Obligations.RequestsAreAnsweredOrIgnored : Prop :=
  (∀ (c : Instr) (s : State), requestCode c ≠ 0 →
     (s.link.accepts c = true → ∃ (t : State) (st : Status) (payload : List Byte),
       exec c s = .next t ∧ t.link.status = .response ∧ t.link.reqBuf = [] ∧
       t.link.respBuf = responseFrame (requestCode c) st payload) ∧
     (s.link.accepts c = false → exec c s = .next s)) ∧
  ((∀ (code : Nat) (st : Status) (payload : List Byte),
     let p := if st = .done then payload else []
     (responseFrame code st payload).length = 5 + p.length ∧
     (responseFrame code st payload).take (3 + p.length) =
       [BitVec.ofNat 8 (4 + p.length), BitVec.ofNat 8 code, BitVec.ofNat 8 st.code] ++ p ∧
     frameGood (responseFrame code st payload) = true) ∧
   (∀ (code : Nat) (st : Status) (payload : List Byte) (s : State),
     respond code st payload s =
       { s with link :=
           { s.link with status := .response, reqBuf := [], respBuf := responseFrame code st payload } }))

/-- R184: every well-formed host request comes through the link whole: in READY with the RESET pin released, its
request frame is taken, the link is BUSY with it, and the request it decodes to is that very request, which the link
then carries to its owner. The model's choices here: log 2 (the link READY or BUSY with the request). -/
def Obligations.RequestFramesRoundTrip : Prop :=
  ∀ (c : Instr) (s : State), requestCode c ≠ 0 → c.wellFormed = true → s.link.resetPin = false →
    s.link.status = .ready → ∃ t : State,
      exec (.requestFrame (1 :: encodeRequest c)) s = .next t ∧ t.link.status = .busy ∧
      decodeRequest t.link.reqBuf = some c ∧ t.link.accepts c = true ∧
      t = { s with link :=
        { s.link with status := .busy, reqBuf := t.link.reqBuf, shifted := t.link.shifted } }

/-! ### Reads -/

/-- R6, R13, R65, R84, R88, R98, R108, R125, R140, R148, R164, R181, R189: a read answers DONE with its payload and
changes nothing but the link's status and buffers; one whose slot, profile, cue entry, handset entry or notice kind lies
outside its range is refused with BAD_INDEX. The model's choices here: log 3 (timers rounded up), 6 and 7 (the free bytes
of no identity and of MUTE) and 11 (the payload bytes without a layout). -/
def Obligations.ReadsChangeNothing : Prop :=
  ∀ s : State,
    (∀ n, s.link.accepts (.readSlot n) = true → 1 ≤ n ∧ n ≤ 140 →
      exec (.readSlot n) s = .next (respond 4 .done (slotBytes n (s.changer.slot n)) s)) ∧
    (∀ n, s.link.accepts (.readSlot n) = true → n = 0 ∨ 140 < n →
      exec (.readSlot n) s = .next (respond 4 .badIndex [] s)) ∧
    (s.link.accepts .readShow = true → exec .readShow s = .next (respond 5 .done (showBytes s) s)) ∧
    (s.link.accepts .readDrive = true → exec .readDrive s = .next (respond 13 .done (driveBytes s) s)) ∧
    (s.link.accepts .readLamp = true → exec .readLamp s = .next (respond 20 .done (lampBytes s) s)) ∧
    (s.link.accepts .readCalibration = true →
      exec .readCalibration s = .next (respond 22 .done (calibrationBytes s.thermal.cal) s)) ∧
    (∀ p : Fin 8, s.link.accepts (.readProfile p.val) = true →
      exec (.readProfile p.val) s = .next (respond 24 .done (profileBytes s.thermal p) s)) ∧
    (∀ p, s.link.accepts (.readProfile p) = true → 8 ≤ p →
      exec (.readProfile p) s = .next (respond 24 .badIndex [] s)) ∧
    (s.link.accepts .readThermal = true →
      exec .readThermal s = .next (respond 26 .done (snapshotBytes s.thermal.snapshot) s)) ∧
    (s.link.accepts .readTape = true → exec .readTape s = .next (respond 35 .done (tapeBytes s.tape) s)) ∧
    (∀ n, s.link.accepts (.readCue n) = true → 1 ≤ n ∧ n ≤ 32 →
      exec (.readCue n) s = .next (respond 42 .done (cueEntryBytes n (s.cue.entry n)) s)) ∧
    (∀ n, s.link.accepts (.readCue n) = true → n = 0 ∨ 32 < n →
      exec (.readCue n) s = .next (respond 42 .badIndex [] s)) ∧
    (s.link.accepts .readCueUnit = true →
      exec .readCueUnit s = .next (respond 46 .done (cueUnitBytes s) s)) ∧
    (∀ n, s.link.accepts (.readHandset n) = true → 1 ≤ n ∧ n ≤ 8 →
      exec (.readHandset n) s = .next (respond 49 .done
        (handsetBytes n (s.remote.handset n) ++ windowBytes s.remote.window ++ consoleBytes s.remote.console) s)) ∧
    (∀ n, s.link.accepts (.readHandset n) = true → n = 0 ∨ 8 < n →
      exec (.readHandset n) s = .next (respond 49 .badIndex [] s)) ∧
    (s.link.accepts .readPort = true → exec .readPort s = .next (respond 58 .done (portBytes s.bus) s)) ∧
    (∀ i : Fin 30, s.link.accepts (.readNotice (i.val + 1)) = true →
      exec (.readNotice (i.val + 1)) s = .next (respond 61 .done
        (u8 (i.val + 1) ++ flag s.link.notices[i].arg.isSome ++ s.link.notices[i].bytes) s)) ∧
    (∀ k, s.link.accepts (.readNotice k) = true → k = 0 ∨ 30 < k →
      exec (.readNotice k) s = .next (respond 61 .badIndex [] s))

/-! ### The Tray Map -/

/-- R2: WRITE SLOT and LOAD SLOTS are checked in order: an empty field set is BAD_REQUEST, then a slot number outside
1..140 BAD_INDEX, then a named value outside its range BAD_VALUE; a refused request changes nothing, and so with RETIRE
SLOT, which has slot numbers alone. -/
def Obligations.SlotWritesAreCheckedInOrder : Prop :=
  ∀ (a b : Nat) (set : FieldSet) (v : SlotValues) (s : State),
    (s.link.accepts (.writeSlot a set v) = true →
      (fieldSetAny set = false → exec (.writeSlot a set v) s = .next (respond 1 .badRequest [] s)) ∧
      (fieldSetAny set = true → ¬(1 ≤ a ∧ a ≤ 140) →
        exec (.writeSlot a set v) s = .next (respond 1 .badIndex [] s)) ∧
      (fieldSetAny set = true → 1 ≤ a ∧ a ≤ 140 → slotValuesInRange set v = false →
        exec (.writeSlot a set v) s = .next (respond 1 .badValue [] s))) ∧
    (s.link.accepts (.loadSlots a b set v) = true →
      (fieldSetAny set = false → exec (.loadSlots a b set v) s = .next (respond 2 .badRequest [] s)) ∧
      (fieldSetAny set = true → ¬((1 ≤ a ∧ a ≤ 140) ∧ 1 ≤ b ∧ b ≤ 140) →
        exec (.loadSlots a b set v) s = .next (respond 2 .badIndex [] s)) ∧
      (fieldSetAny set = true → (1 ≤ a ∧ a ≤ 140) ∧ 1 ≤ b ∧ b ≤ 140 → slotValuesInRange set v = false →
        exec (.loadSlots a b set v) s = .next (respond 2 .badValue [] s))) ∧
    (s.link.accepts (.retireSlot a b) = true → ¬((1 ≤ a ∧ a ≤ 140) ∧ 1 ≤ b ∧ b ≤ 140) →
      exec (.retireSlot a b) s = .next (respond 3 .badIndex [] s))

/-- R3: an accepted WRITE SLOT makes the record PROGRAMMED, gives each named field its value and leaves the others and
the occupancy; no other record and nothing else changes, and the whole record is the answer. R4, R5: LOAD SLOTS writes,
and RETIRE SLOT retires, every record of its range as one event, a range with first above last going round past 140,
and no other record; the answer is the count of records. The model's choices here: log 11 (the bytes of the answers).
-/
def Obligations.SlotWritesAndRangesAreOneEvent : Prop :=
  (∀ (n : Nat) (set : FieldSet) (v : SlotValues) (s : State), s.link.accepts (.writeSlot n set v) = true →
     fieldSetAny set = true → 1 ≤ n ∧ n ≤ 140 → slotValuesInRange set v = true → ∃ t : State,
       exec (.writeSlot n set v) s = .next (respond 1 .done (slotBytes n (t.changer.slot n)) t) ∧
       t = { s with changer := { s.changer with slots := t.changer.slots } } ∧
       (∀ m, m ≠ n → t.changer.slot m = s.changer.slot m) ∧
       let old := s.changer.slot n
       let new := t.changer.slot n
       new.programmed = true ∧ new.occupancy = old.occupancy ∧
       new.dwell = (if set.dwell then v.dwell else old.dwell) ∧
       new.fadeOut = (if set.fadeOut then v.fadeOut else old.fadeOut) ∧
       new.fadeIn = (if set.fadeIn then v.fadeIn else old.fadeIn) ∧
       new.light = (if set.light then v.light else old.light) ∧
       new.cls = (if set.cls then v.cls else old.cls) ∧
       new.sound = (if set.sound then (if v.sound = 255 then none else some v.sound) else old.sound) ∧
       new.tapeMark.code = (if set.tapeMark then v.tapeMark else old.tapeMark.code) ∧
       new.hold = (if set.hold then v.hold == 1 else old.hold) ∧
       new.loop.code = (if set.loop then (v.loop, v.loopCount) else old.loop.code)) ∧
  (∀ (a b : Nat) (s : State), (1 ≤ a ∧ a ≤ 140) ∧ 1 ≤ b ∧ b ≤ 140 →
     let inside (n : Nat) : Prop := if a ≤ b then a ≤ n ∧ n ≤ b else a ≤ n ∨ n ≤ b
     let count := if a ≤ b then b - a + 1 else 140 - a + 1 + b
     (∀ (set : FieldSet) (v : SlotValues), s.link.accepts (.loadSlots a b set v) = true → fieldSetAny set = true →
       slotValuesInRange set v = true → ∃ t : State,
         exec (.loadSlots a b set v) s = .next (respond 2 .done (u8 count) t) ∧
         t = { s with changer := { s.changer with slots := t.changer.slots } } ∧
         ∀ n, 1 ≤ n ∧ n ≤ 140 →
           (inside n → t.changer.slot n = (s.changer.slot n).write set v) ∧
           (¬inside n → t.changer.slot n = s.changer.slot n)) ∧
     (s.link.accepts (.retireSlot a b) = true → ∃ t : State,
         exec (.retireSlot a b) s = .next (respond 3 .done (u8 count) t) ∧
         t = { s with changer := { s.changer with slots := t.changer.slots } } ∧
         ∀ n, 1 ≤ n ∧ n ≤ 140 →
           (inside n →
             t.changer.slot n = { SlotRecord.default with occupancy := (s.changer.slot n).occupancy }) ∧
           (¬inside n → t.changer.slot n = s.changer.slot n)))

/-- R14, R132, R136, R188: an option or mask that a request names takes its value and one it does not name keeps its
own; turning confirm pairs off discards the held word. All options or masks are the answer, and nothing else changes. An
empty option or mask set is refused with BAD_REQUEST, and a value outside its range with BAD_VALUE; a refused request
changes nothing. The model's choices here: log 11 (the bytes of the answers) and 12 (an option other than on and off). -/
def Obligations.OptionsAndMasksAreSet : Prop :=
  ∀ s : State,
    (∀ e b w : Option Nat, s.link.accepts (.setOptions e b w) = true →
      (e = none ∧ b = none ∧ w = none → exec (.setOptions e b w) s = .next (respond 6 .badRequest [] s)) ∧
      (1 < e.getD 0 ∨ 1 < b.getD 0 ∨ 1 < w.getD 0 →
        exec (.setOptions e b w) s = .next (respond 6 .badValue [] s))) ∧
    (∀ c l : Option Nat, s.link.accepts (.setCueOptions c l) = true →
      (c = none ∧ l = none → exec (.setCueOptions c l) s = .next (respond 36 .badRequest [] s)) ∧
      (1 < c.getD 0 ∨ 1 < l.getD 0 → exec (.setCueOptions c l) s = .next (respond 36 .badValue [] s))) ∧
    (∀ g a b : Option Nat, s.link.accepts (.setMasks g a b) = true →
      (g = none ∧ a = none ∧ b = none → exec (.setMasks g a b) s = .next (respond 37 .badRequest [] s)) ∧
      (4095 < g.getD 0 ∨ 4095 < a.getD 0 ∨ 4095 < b.getD 0 →
        exec (.setMasks g a b) s = .next (respond 37 .badValue [] s))) ∧
    (∀ m : List Nat, s.link.accepts (.setNoticeMask m) = true → (∃ x ∈ m, 1 < x) →
      exec (.setNoticeMask m) s = .next (respond 59 .badValue [] s)) ∧
    (∀ e b w : Option Nat, s.link.accepts (.setOptions e b w) = true → ¬(e = none ∧ b = none ∧ w = none) →
      e.getD 0 ≤ 1 ∧ b.getD 0 ≤ 1 ∧ w.getD 0 ≤ 1 → ∃ t : State,
        exec (.setOptions e b w) s =
          .next (respond 6 .done (flag t.changer.skipEmpty ++ flag t.changer.skipBlank ++ flag t.changer.wrap) t) ∧
        t = { s with changer := { s.changer with
          skipEmpty := e.elim s.changer.skipEmpty (· == 1)
          skipBlank := b.elim s.changer.skipBlank (· == 1)
          wrap := w.elim s.changer.wrap (· == 1) } }) ∧
    (∀ c l : Option Nat, s.link.accepts (.setCueOptions c l) = true → ¬(c = none ∧ l = none) →
      c.getD 0 ≤ 1 ∧ l.getD 0 ≤ 1 → ∃ t : State,
        exec (.setCueOptions c l) s = .next (respond 36 .done (flag t.cue.confirm ++ flag t.cue.legacy) t) ∧
        t = { s with cue := { s.cue with
          confirm := c.elim s.cue.confirm (· == 1)
          legacy := l.elim s.cue.legacy (· == 1)
          holding := if c.elim s.cue.confirm (· == 1) then s.cue.holding else none } }) ∧
    (∀ g a b : Option Nat, s.link.accepts (.setMasks g a b) = true → ¬(g = none ∧ a = none ∧ b = none) →
      g.getD 0 ≤ 4095 ∧ a.getD 0 ≤ 4095 ∧ b.getD 0 ≤ 4095 → ∃ t : State,
        exec (.setMasks g a b) s =
          .next (respond 37 .done (u16 t.cue.maskGlobal.toNat ++ u16 t.cue.maskA.toNat ++ u16 t.cue.maskB.toNat) t) ∧
        t = { s with cue := { s.cue with
          maskGlobal := g.elim s.cue.maskGlobal (BitVec.ofNat 12)
          maskA := a.elim s.cue.maskA (BitVec.ofNat 12)
          maskB := b.elim s.cue.maskB (BitVec.ofNat 12) } }) ∧
    (∀ m : List Nat, s.link.accepts (.setNoticeMask m) = true → m.length = 30 → (∀ x ∈ m, x ≤ 1) → ∃ t : State,
        exec (.setNoticeMask m) s = .next (respond 59 .done (m.flatMap u8) t) ∧
        t = { s with link := { s.link with mask := t.link.mask } } ∧
        ∀ i : Fin 30, t.link.mask[i] = (m.getD i.val 0 == 1))

/-- R15, R64: the tray is lifted off: what was learned of it is forgotten, the queue, the loops and the change in
flight go, the light and the mechanisms stop, and TRAY_OUT is raised. With no tray the event changes nothing. R16, R64:
a tray is seated: its lug code gives N of 50, 80, 100 or 140, the changer is UNHOMED with the counter at 0, and TRAY_IN
carries N. The model's choices here: log 17 (a tray already off or on). -/
def Obligations.TraysComeAndGo : Prop :=
  (∀ s : State,
     (s.changer.tray = none → exec .trayRemoval s = .next s) ∧
     (s.changer.tray ≠ none → ∃ t : State, exec .trayRemoval s = .next t ∧
       t = { s with changer := t.changer, drive := t.drive, lamp := t.lamp, link := t.link } ∧
       t.changer = { s.changer with
         slots := t.changer.slots, tray := none, homed := false, current := none, state := .noTray, dwell := 0,
         dwellDue := false, loops := [], run := 0, queue := [], change := none } ∧
       (∀ n, 1 ≤ n ∧ n ≤ 140 →
         t.changer.slot n = { s.changer.slot n with occupancy := .unknown }) ∧
       t.lamp = { s.lamp with fade := 0, ramp := none, darkHold := false, override := none } ∧
       t.drive.position = 0 ∧ t.drive.lifterDrive = .off ∧ t.drive.motion = .none ∧
       (s.drive.bridge = .off → t.drive.bridge = .off) ∧
       (s.drive.bridge ≠ .off → t.drive.bridge = .brake ∧ t.drive.brakeTimer = some 40 ∧ t.drive.afterBrake = .off) ∧
       t.drive.revolutions = s.drive.revolutions ∧ t.drive.gate = s.drive.gate ∧ t.drive.focus = s.drive.focus ∧
       t.link.notices[5] = { arg := some .trayOut, mark := true } ∧
       (∀ ch, s.changer.change = some ch →
         t.link.notices[0] = { arg := some (.changeDone ch.source .aborted), mark := true }))) ∧
  (∀ (lugs : BitVec 2) (s : State), s.changer.tray = none → ∃ size : TraySize,
     size.slots = [50, 80, 100, 140].getD lugs.toNat 0 ∧
     exec (.trayInsertion lugs) s = .next (raise (.trayIn size.slots)
       { s with
         changer := { s.changer with tray := some size, state := .unhomed, homed := false, current := none }
         drive := { s.drive with position := 0 } }))

/-- R9, R61: a change of the gate state is kept by the drive; in SHOWING it makes the current slot PRESENT or EMPTY and
raises GATE_CHANGED, and a slide set in by hand clears the exposure account and the guard. The model's choices here:
log 17 (no change of level). -/
def Obligations.GateChangesInShowing : Prop :=
  ∀ (occupied : Bool) (s : State),
    (s.drive.gate = occupied → exec (.gateStateChange occupied) s = .next s) ∧
    (s.drive.gate ≠ occupied →
      (s.changer.state ≠ .showing ∨ s.changer.current = none →
        exec (.gateStateChange occupied) s = .next { s with drive := { s.drive with gate := occupied } }) ∧
      (∀ n, s.changer.state = .showing → s.changer.current = some n →
        exec (.gateStateChange occupied) s = .next (raise (.gateChanged n)
          { s with
            drive := { s.drive with gate := occupied }
            changer := s.changer.setOccupancy n (if occupied then .present else .empty)
            lamp := if occupied then { s.lamp with exposure := 0, guard := false } else s.lamp })))

/-! ### Changing slides -/

/-- R22 to R25: a STEP of k offered while the changer is not in SHOWING: an empty queue or one with a GOTO at its tail
takes a new entry if it holds fewer than 4; a STEP of the same sign at the tail takes it in, up to a magnitude of 9,
and at 9 the new STEP stands alone; one of the other sign is cancelled, reduced, or replaced by what is left of the new
one. R22, R26: a GOTO offered while the changer is not in SHOWING joins the tail of the queue; a full queue gives up
its tail for it, and the tail's source is told DISPLACED, by CHANGE_DONE and by CUE_MISSED or KEY_REFUSED where it has
one. The model's choices here: log 17 (the key a displaced entry reports). -/
def Obligations.TheQueueTakesRequests : Prop :=
  (∀ (k : Int) (s : State), s.link.accepts (.step k) = true → 1 ≤ k.natAbs → k.natAbs ≤ 9 → s.changer.tray ≠ none →
     s.changer.homed = true → s.changer.state ≠ .showing →
     let holds (q : List Entry) : Prop :=
       exec (.step k) s = .next (respond 7 .done [] { s with changer := { s.changer with queue := q } })
     let full : Prop := exec (.step k) s = .next (respond 7 .queueFull [] s)
     let fresh : Entry := { source := .host, kind := .step k, loopback := false }
     (s.changer.queue = [] → holds [fresh]) ∧
     (∀ front src n lb, s.changer.queue = front ++ [{ source := src, kind := .goto n, loopback := lb }] →
       (front.length < 3 → holds (s.changer.queue ++ [fresh])) ∧ (3 ≤ front.length → full)) ∧
     (∀ front src j lb, s.changer.queue = front ++ [{ source := src, kind := .step j, loopback := lb }] → j ≠ 0 →
       ((0 < j ↔ 0 < k) → j.natAbs < 9 →
         holds (front ++ [{ source := src, kind := .step (max (-9) (min 9 (j + k))), loopback := lb }])) ∧
       ((0 < j ↔ 0 < k) → 9 ≤ j.natAbs →
         (front.length < 3 → holds (s.changer.queue ++ [fresh])) ∧ (3 ≤ front.length → full)) ∧
       (j + k = 0 → holds front) ∧
       (¬(0 < j ↔ 0 < k) → k.natAbs < j.natAbs →
         holds (front ++ [{ source := src, kind := .step (j + k), loopback := lb }])) ∧
       (¬(0 < j ↔ 0 < k) → j.natAbs < k.natAbs →
         holds (front ++ [{ source := .host, kind := .step (j + k), loopback := false }])))) ∧
  (∀ (n : Nat) (s : State), s.link.accepts (.goto n) = true → s.changer.tray ≠ none → 1 ≤ n → n ≤ 140 →
     n ≤ s.changer.size → s.changer.homed = true → s.changer.state ≠ .showing →
     let fresh : Entry := { source := .host, kind := .goto n, loopback := false }
     (s.changer.queue.length < 4 → exec (.goto n) s = .next (respond 8 .done []
       { s with changer := { s.changer with queue := s.changer.queue ++ [fresh] } })) ∧
     (∀ front tail, s.changer.queue = front ++ [tail] → front.length = 3 →
       let told := raise (.changeDone tail.source .displaced) s
       let key := match tail.kind with | .step j => (if 0 < j then 1 else 2) | .goto _ => 3
       let reported := match tail.source with
         | .cue e => raise (.cueMissed e .displaced) told
         | .handset _ => raise (.keyRefused tail.source key .displaced) told
         | .console _ => raise (.keyRefused tail.source key .displaced) told
         | .host => told
         | .auto => told
       exec (.goto n) s = .next (respond 8 .done []
         { reported with changer := { s.changer with queue := front ++ [fresh] } })))

/-- R20, R29: the checks of STEP and GOTO in order. Out of range is BAD_VALUE or BAD_INDEX, no tray or a tray not homed
is NOT_HOMED; in UNHOMED that refusal also starts the homing that HOME would start. -/
def Obligations.ChangeRequestsAreChecked : Prop :=
  ∀ s : State,
    let free : State := { s with link := { s.link with status := .ready } }
    let unhomed (c : Instr) (code : Nat) : Prop :=
      (s.changer.state ≠ .unhomed → exec c s = .next (respond code .notHomed [] s)) ∧
      (s.changer.state = .unhomed → ∃ t : State,
        exec .home free = .next (respond 9 .done [] t) ∧ exec c s = .next (respond code .notHomed [] t))
    (∀ k : Int, s.link.accepts (.step k) = true →
      (k = 0 ∨ 9 < k.natAbs → exec (.step k) s = .next (respond 7 .badValue [] s)) ∧
      (k ≠ 0 → k.natAbs ≤ 9 → s.changer.tray = none → exec (.step k) s = .next (respond 7 .notHomed [] s)) ∧
      (k ≠ 0 → k.natAbs ≤ 9 → s.changer.tray ≠ none → s.changer.homed = false → unhomed (.step k) 7)) ∧
    (∀ n : Nat, s.link.accepts (.goto n) = true →
      (n = 0 ∨ 140 < n → exec (.goto n) s = .next (respond 8 .badIndex [] s)) ∧
      (1 ≤ n → n ≤ 140 → s.changer.tray = none → exec (.goto n) s = .next (respond 8 .notHomed [] s)) ∧
      (1 ≤ n → n ≤ 140 → s.changer.tray ≠ none → s.changer.size < n →
        exec (.goto n) s = .next (respond 8 .badIndex [] s)) ∧
      (1 ≤ n → n ≤ 140 → s.changer.tray ≠ none → n ≤ s.changer.size → s.changer.homed = false →
        unhomed (.goto n) 8))

/-- R31, R33, R34: in SHOWING with an empty queue a STEP or GOTO is taken at once: the change record is filled with its
target and direction, and the light fades from its present value to 0 over the current slot's fade-out. With the light
at 0 already, or a fade-out of 0, the lift begins in the same event. -/
def Obligations.ChangesAreTakenInShowing : Prop :=
  ∀ s : State, s.changer.state = .showing → s.changer.homed = true → s.changer.tray ≠ none → s.changer.queue = [] →
    (∀ n, s.link.accepts (.goto n) = true → 1 ≤ n → n ≤ 140 → n ≤ s.changer.size → ∃ t : State,
      exec (.goto n) s = .next (respond 8 .done [] t) ∧
      Departs { source := .host, kind := .goto n, loopback := false, target := some n,
                dir := gotoDir s.changer.size (s.changer.current.getD 1) n } [] [] s t) ∧
    (∀ k n dir, s.link.accepts (.step k) = true → 1 ≤ k.natAbs → k.natAbs ≤ 9 →
      s.changer.aim { source := .host, kind := .step k, loopback := false } = some (n, dir) → ∃ t : State,
      exec (.step k) s = .next (respond 7 .done [] t) ∧
      Departs { source := .host, kind := .step k, loopback := false, target := some n, dir := dir } []
        s.changer.loops s t)

/-- R32, R33: the target of a lawful entry is a slot of the tray. A GOTO goes to its own slot, forward when that way is
no longer. A STEP computes the slot k places round the tray and walks on from it in the direction of its sign past the
slots it passes: the EMPTY ones with skip EMPTY on, and for AUTO the BLANK ones with skip BLANK on. It ends at the first
slot not passed, or at the computed slot where all are passed. With wrap off an AUTO STEP does not walk past slot N:
where N is to be passed it has no target. -/
def Obligations.TargetsLieOnTheTray : Prop :=
  (∀ (c : Changer) (e : Entry) (t : Nat) (dir : Dir), c.tray ≠ none → e.lawful c.size = true →
    c.aim e = some (t, dir) →
    1 ≤ t ∧ t ≤ c.size ∧
    (∀ n, e.kind = .goto n → t = n ∧
      (dir = .forward ↔ ((n : Int) - c.current.getD 1) % c.size ≤ c.size - ((n : Int) - c.current.getD 1) % c.size)) ∧
    (∀ k, e.kind = .step k → (dir = .forward ↔ 0 < k) ∧
      (c.skipEmpty = false → e.source = .host → ((t : Int) - c.current.getD 1 - k) % c.size = 0))) ∧
  (∀ (c : Changer) (src : Source) (k : Int) (lb : Bool), c.tray ≠ none → 1 ≤ k.natAbs → k.natAbs ≤ 9 →
    let aimed := c.aim { source := src, kind := .step k, loopback := lb }
    let dir : Dir := if 0 < k then .forward else .backward
    let reached (j : Nat) : Nat :=
      (((c.current.getD 1 : Int) - 1 + k + (if 0 < k then (j : Int) else -(j : Int))) % c.size).toNat + 1
    let passed (j : Nat) : Prop :=
      c.skipEmpty = true ∧ (c.slot (reached j)).occupancy = .empty ∨
      src = .auto ∧ c.skipBlank = true ∧ (c.slot (reached j)).programmed = false
    let stops : Prop := src = .auto ∧ c.wrap = false
    (∀ j, j < c.size → (∀ i, i < j → passed i) → ¬passed j → (stops → ∀ i, i < j → reached i ≠ c.size) →
      aimed = some (reached j, dir)) ∧
    (¬stops → (∀ j, j < c.size → passed j) → aimed = some (reached 0, dir)) ∧
    (∀ j, j < c.size → stops → (∀ i, i ≤ j → passed i) → reached j = c.size → aimed = none))

/-- R29, R30, R56: HOME by changer state: homing starts from UNHOMED, JAMMED and SHOWING, with the light dark and the
lift before the seek unless the lifter is UP; it is DONE again in HOMING, NOT_NOW within a change cycle and NOT_HOMED
with no tray. The model's choices here: log 14 (the drive starts from a bridge OFF). -/
def Obligations.HomeStartsHoming : Prop :=
  ∀ s : State, s.link.accepts .home = true →
    let homing (c : Changer) : State := { s with
      changer := { c with
        state := .homing, keptLoop := .none, dwellDue := false
        change := some { source := .host, kind := .home, loopback := false, target := none, dir := .forward } }
      lamp := { s.lamp with fade := 0, ramp := none, darkHold := true } }
    let lifting (d : Drive) : Drive :=
      { d with motion := .homeLift, lifterDrive := .upward, lifterTimer := some 600 }
    let seeking (d : Drive) : Drive :=
      { d with
        stalls := 0, corrections := 0, budget := 0, motion := .homeSeek, bridge := .forward, lastDrive := some .forward
        watchdog := some 150, brakeTimer := none, afterBrake := .off, focus := .stopped, focusTimer := none }
    let forgotten : Changer :=
      { s.changer with queue := [], loops := [], homed := false, current := none, dwell := 0, run := 0 }
    let from_ (c : Changer) : Prop :=
      (s.drive.lifter ≠ .up →
        exec .home s = .next (respond 9 .done [] { homing c with drive := lifting s.drive })) ∧
      (s.drive.lifter = .up → s.drive.bridge = .off →
        exec .home s = .next (respond 9 .done [] { homing c with drive := seeking s.drive }))
    (s.changer.state = .unhomed ∨ s.changer.state = .jammed → from_ s.changer) ∧
    (s.changer.state = .showing → from_ forgotten) ∧
    (s.changer.state = .homing → exec .home s = .next (respond 9 .done [] s)) ∧
    (s.changer.state = .noTray → exec .home s = .next (respond 9 .notHomed [] s)) ∧
    ([ChangerState.fadingOut, .lifting, .rotating, .dropping, .settling, .fadingIn].contains s.changer.state = true →
      exec .home s = .next (respond 9 .notNow [] s))

/-- R27, R28: HOLD holds and RESUME releases in every state; FLUSH empties the queue and answers with the count of
entries removed. Nothing else changes, but that a hold takes back a dwell expiry not yet taken (the model's field of
log 4). The model's choices here: log 4 (the model's field of a dwell expiry not yet taken). -/
def Obligations.HoldResumeFlush : Prop :=
  ∀ s : State,
    (s.link.accepts .hold = true → exec .hold s =
      .next (respond 10 .done [] { s with changer := { s.changer with held := true, dwellDue := false } })) ∧
    (s.link.accepts .resume = true → exec .resume s =
      .next (respond 11 .done [] { s with changer := { s.changer with held := false } })) ∧
    (s.link.accepts .flush = true → exec .flush s =
      .next (respond 12 .done (u8 s.changer.queue.length) { s with changer := { s.changer with queue := [] } }))

/-- R31, R34, R36, R59: the end of a fade-out starts the lift, upward for at most 600 ms; the end of a fade-in brings
SHOWING and CHANGE_DONE SHOWN for the change's source, and with an entry waiting the head of the queue is taken in the
same event, a GOTO that is no loop-back emptying the Loop Stack. The model's choices here: log 4 (when an end event
stands). -/
def Obligations.FadesEndTheirPhase : Prop :=
  ∀ s : State, s.lamp.ramp = none →
    (s.changer.state = .fadingOut → s.drive.lifter ≠ .up →
      exec .fadeOutEnd s = .next { s with
        changer := { s.changer with state := .lifting }
        drive := { s.drive with lifterDrive := .upward, lifterTimer := some 600 } }) ∧
    (∀ ch, s.changer.state = .fadingIn → s.changer.change = some ch →
      let shown : State := raise (.changeDone ch.source .shown)
        { s with changer := { s.changer with state := .showing, dwellDue := false, change := none } }
      (s.changer.queue = [] → exec .fadeInEnd s = .next shown) ∧
      (∀ e rest n dir, s.changer.queue = e :: rest → s.changer.aim e = some (n, dir) → ∃ t : State,
        exec .fadeInEnd s = .next t ∧
        Departs { source := e.source, kind := e.kind.change, loopback := e.loopback, target := some n, dir := dir } rest
          (match e.kind with | .goto _ => (if e.loopback then s.changer.loops else []) | .step _ => s.changer.loops)
          shown t))

/-- R35, R53 step 1, R56, R59, R12: the lifter reaches UP. In LIFTING the turn is ordered: outside the target's window
the bridge drives in the ordered direction with both counts at 0; inside it the window is reached at once, the target
becomes the current slot and the drop begins. In a homing the seek begins. The model's choices here: log 26 (the event
sets the end switches). -/
def Obligations.TheLiftEndsInTheTurn : Prop :=
  ∀ s : State, s.drive.lifterDrive = .upward → s.drive.bridge = .off →
    let up : Drive := { s.drive with swUp := true, swDown := false, lifterDrive := .off, lifterTimer := none }
    let driving (dir : Dir) (d : Drive) : Drive :=
      { d with
        bridge := dir.bridge, lastDrive := some dir, watchdog := some 150, brakeTimer := none, afterBrake := .off
        focus := .stopped, focusTimer := none }
    (∀ ch t, s.drive.motion ≠ .homeLift → s.changer.state = .lifting → s.changer.change = some ch →
      ch.target = some t → 1 ≤ t →
      (inWindow s.changer.size s.drive.position (24 * (t - 1)) = false →
        exec .liftDone s = .next { s with
          changer := { s.changer with state := .rotating }
          drive := driving ch.dir { up with stalls := 0, corrections := 0, motion := .turn ch.dir (24 * (t - 1)) } }) ∧
      (inWindow s.changer.size s.drive.position (24 * (t - 1)) = true →
        exec .liftDone s = .next { s with
          changer := { s.changer with state := .dropping, current := some t }
          drive := { up with stalls := 0, corrections := 0, lifterDrive := .downward, lifterTimer := some 600 } })) ∧
    (s.drive.motion = .homeLift →
      exec .liftDone s = .next { s with
        drive := driving .forward { up with stalls := 0, corrections := 0, budget := 0, motion := .homeSeek } })

/-- R35, R60: the lifter reaches DOWN in DROPPING: its drive goes OFF and SETTLING begins with 80 ms. R58: a change of
the lifter's end switches that neither ends a lift or drop nor is a jam changes the switches alone. The model's choices
here: log 26 (DROP_DONE sets the end switches; a switch change that shows the aimed end is the end of the lift or
drop). -/
def Obligations.TheDropEndsInTheSettle : Prop :=
  (∀ s : State, s.drive.lifterDrive = .downward → s.changer.state = .dropping →
     exec .dropDone s = .next { s with
       changer := { s.changer with state := .settling }
       drive := { s.drive with
         swUp := false, swDown := true, lifterDrive := .off, lifterTimer := none, settleTimer := some 80 } }) ∧
  (∀ (s : State) (up down : Bool),
     let moved : State := { s with drive := { s.drive with swUp := up, swDown := down } }
     (s.drive.lifter ≠ .up ∨ moved.drive.lifter = .up ∨ s.drive.motion = .none ∨ s.drive.bridge = .off) →
     ¬(s.drive.lifterDrive = .upward ∧ moved.drive.lifter = .up) →
     ¬(s.drive.lifterDrive = .downward ∧ moved.drive.lifter = .down) →
     exec (.lifterSwitchChange up down) s = .next moved)

/-- R36, R38, R44, R77, R80, R81, R112, R122: the settle ends with a slide in the gate: the slot is PRESENT, the run and
the dwell are 0, and the arrival actions are taken. The tape mark is the request of its name, ignored where it does not
apply; the sound target is reached over the fade-in; a HOLD mark holds; the loop mark is kept, and a LOOP-START reached
by a STEP is pushed, or raises LOOP_DEPTH with two frames held, unless the top frame starts at this slot; the override
is cleared and the exposure account starts anew. The light fades in over the slot's fade-in, and with a fade-in of 0 the
fade-in ends in the same event. The model's choices here: log 4 (a fade of 0 ticks ends inside its event). -/
def Obligations.ASlideFoundArrives : Prop :=
  ∀ (s : State) (ch : Change) (n : Nat) (r : SlotRecord), s.changer.state = .settling →
    s.drive.settleTimer.isSome = true → s.drive.gate = true → s.changer.change = some ch → ch.target = some n →
    1 ≤ n ∧ n ≤ 140 → s.changer.slot n = r → ∃ (t : State) (marked : Tape),
      (r.fadeIn ≠ 0 → exec .settleEnd s = .next t) ∧
      (r.fadeIn = 0 → exec .settleEnd s = exec .fadeInEnd t ∧
        (s.changer.queue = [] → exec .settleEnd s = .next (raise (.changeDone ch.source .shown)
          { t with changer := { t.changer with state := .showing, dwellDue := false, change := none } }))) ∧
      t = { s with changer := t.changer, drive := { s.drive with settleTimer := none }, lamp := t.lamp, tape := t.tape,
                   cue := t.cue, link := t.link } ∧
      t.changer = { s.changer with
        state := .fadingIn, slots := t.changer.slots, run := 0, dwell := 0, held := s.changer.held || r.hold
        keptLoop := r.loop, loops := t.changer.loops } ∧
      t.changer.slot n = { r with occupancy := .present } ∧ (∀ m, m ≠ n → t.changer.slot m = s.changer.slot m) ∧
      t.lamp = { s.lamp with
        exposure := 0, guard := false, override := none, darkHold := false
        fade := if r.fadeIn = 0 then 1000 else 0
        ramp := if r.fadeIn = 0 then none else some { a := 0, b := 1000, n := r.fadeIn, k := 0 } } ∧
      (let pushes (c : Nat) : Prop := r.loop = .start c ∧ ∃ k, ch.kind = .step k
       (∀ c, pushes c →
         (s.changer.loops = [] → t.changer.loops = [{ start := n, remaining := c }] ∧ t.link = s.link) ∧
         (∀ top, s.changer.loops = [top] → top.start ≠ n →
           t.changer.loops = [{ start := n, remaining := c }, top] ∧ t.link = s.link) ∧
         (∀ top more, s.changer.loops = top :: more → top.start = n →
           t.changer.loops = s.changer.loops ∧ t.link = s.link) ∧
         (∀ top next more, s.changer.loops = top :: next :: more → top.start ≠ n →
           t.changer.loops = s.changer.loops ∧ t.link = (raise (.loopDepth n) s).link)) ∧
       ((∀ c, ¬pushes c) → t.changer.loops = s.changer.loops ∧ t.link = s.link)) ∧
      (let rest : Prop := marked = s.tape ∧ t.cue = s.cue
       let plays : Prop :=
         marked = { s.tape with transport := .playing, runDown := none, endTimer := some 1000, reelTimer := none } ∧
         t.cue = { s.cue with rx := .idle, burst := if s.cue.tone then some 0 else none }
       (r.tapeMark = .none → rest) ∧
       (r.tapeMark = .play →
         (s.tape.transport = .paused ∨ s.tape.transport = .stopped ∧ s.tape.runDown = none → plays) ∧
         (∀ d, s.tape.transport = .stopped → s.tape.runDown = some d →
           marked = { s.tape with runDown := some { d with next := .playing } } ∧ t.cue = s.cue) ∧
         (s.tape.transport = .noTape ∨ s.tape.transport = .playing ∨ s.tape.transport.winding = true → rest)) ∧
       (r.tapeMark = .pause →
         (s.tape.transport = .playing →
           marked = { s.tape with transport := .paused, endTimer := none } ∧
           t.cue = { s.cue with rx := .idle, holding := none, burst := none }) ∧
         (s.tape.transport ≠ .playing → rest))) ∧
      (r.sound = none → t.tape = marked) ∧
      (∀ target, r.sound = some target → t.tape =
        if r.fadeIn = 0 then { marked with base := target, baseRamp := none }
        else { marked with baseRamp := some { a := s.tape.base, b := target, n := r.fadeIn, k := 0 } })

/-- R31, R37: the settle finds the gate empty: the slot is EMPTY and SLOT_EMPTY is raised. A STEP with skip empty on and
fewer than 3 empty slots behind it chains on to the next slot of its direction, but an AUTO one with wrap off not from
slot N; any other change ends in SHOWING dark, with CHANGE_DONE DARK, and with an entry waiting the head of the queue is
then taken in the same event. -/
def Obligations.AnEmptyGateChainsOrShowsDark : Prop :=
  ∀ (s : State) (ch : Change) (n : Nat), s.changer.state = .settling → s.drive.settleTimer.isSome = true →
    s.drive.gate = false → s.changer.change = some ch → ch.target = some n → s.drive.lifter ≠ .up →
    let emptied := s.changer.setOccupancy n .empty
    let bars : Prop := ch.source = .auto ∧ s.changer.wrap = false ∧ n = s.changer.size
    let dark : State := raise (.changeDone ch.source .dark) (raise (.slotEmpty n) { s with
      changer := { emptied with
        state := .showing, dwell := 0, dwellDue := false, keptLoop := .none, change := none }
      lamp := { s.lamp with darkHold := false }
      drive := { s.drive with settleTimer := none } })
    (∀ k, s.changer.skipEmpty = true → ch.kind = .step k → s.changer.run < 3 → ¬bars →
      exec .settleEnd s = .next (raise (.slotEmpty n) { s with
        changer := { emptied with
          state := .lifting, run := s.changer.run + 1
          change := some { ch with target := some (neighbour s.changer.size n ch.dir) } }
        drive := { s.drive with settleTimer := none, lifterDrive := .upward, lifterTimer := some 600 } })) ∧
    (s.changer.skipEmpty = false ∨ (∀ k, ch.kind ≠ .step k) ∨ 3 ≤ s.changer.run ∨ bars →
      (s.changer.queue = [] → exec .settleEnd s = .next dark) ∧
      (∀ e rest m dir, s.changer.queue = e :: rest → emptied.aim e = some (m, dir) → ∃ t : State,
        exec .settleEnd s = .next t ∧
        Departs { source := e.source, kind := e.kind.change, loopback := e.loopback, target := some m, dir := dir } rest
          (match e.kind with | .goto _ => (if e.loopback then s.changer.loops else []) | .step _ => s.changer.loops)
          dark t))

/-- R31, R32, R41 to R43, R45: a tenth is counted, saturating at 9999, exactly while the dwell timer's conditions hold:
SHOWING, not held, nothing queued, and a current slot with a dwell. A dwell expiry at a LOOP-END with a frame on the
Loop Stack that has rounds left takes the tray back to the loop's start and counts the round; with none left it pops
the frame and goes on as a plain expiry, as every other does. At slot N with wrap off it holds and raises TRAY_END;
otherwise it is a STEP +1 from AUTO, taken at once, or where its walk ends at slot N with wrap off it holds with TRAY_END
and the run 0. An expiry that is not due changes nothing. The model's choices here: log 4 (when an end event stands) and
17 (the run of a discarded STEP, and its focus run going on). -/
def Obligations.TheDwellRunsAndExpires : Prop :=
  (∀ s : State,
     (∀ n, s.changer.current = some n → s.changer.state = .showing → s.changer.held = false →
       s.changer.queue = [] → (s.changer.slot n).dwell ≠ 0 →
       exec .dwellTenth s = .next { s with changer := { s.changer with
         dwell := min 9999 (s.changer.dwell + 1)
         dwellDue := decide ((s.changer.slot n).dwell ≤ min 9999 (s.changer.dwell + 1)) } }) ∧
     (s.changer.current = none ∨ s.changer.state ≠ .showing ∨ s.changer.held = true ∨ s.changer.queue ≠ [] ∨
         (∃ n, s.changer.current = some n ∧ (s.changer.slot n).dwell = 0) →
       exec .dwellTenth s = .next s)) ∧
  (∀ s : State,
     let due : Prop := s.changer.dwellDue = true ∧ s.changer.state = .showing ∧ s.changer.held = false ∧
       s.changer.queue = [] ∧ ∃ n, s.changer.current = some n ∧ (s.changer.slot n).dwell ≠ 0
     (¬due → exec .dwellExpiry s = .next s) ∧
     (due → s.changer.homed = true → s.changer.tray ≠ none →
       let wrapped (loops : List LoopFrame) (run : Nat) : State := raise (.trayEnd s.changer.size)
         { s with changer := { s.changer with loops := loops, run := run, held := true, dwellDue := false } }
       let plain (loops : List LoopFrame) : Prop :=
         (s.changer.wrap = false → s.changer.current = some s.changer.size →
           exec .dwellExpiry s = .next (wrapped loops s.changer.run)) ∧
         (s.changer.wrap = true ∨ s.changer.current ≠ some s.changer.size →
           let aimed := s.changer.aim { source := .auto, kind := .step 1, loopback := false }
           (aimed = none → exec .dwellExpiry s = .next (wrapped loops 0)) ∧
           (∀ m dir, aimed = some (m, dir) → ∃ t : State, exec .dwellExpiry s = .next t ∧
             Departs { source := .auto, kind := .step 1, loopback := false, target := some m, dir := dir } [] loops
               s t))
       (s.changer.keptLoop ≠ .close ∨ s.changer.loops = [] → plain s.changer.loops) ∧
       (∀ top more, s.changer.keptLoop = .close → s.changer.loops = top :: more →
         (top.remaining = 0 → plain more) ∧
         (top.remaining ≠ 0 → 1 ≤ top.start → top.start ≤ 140 → top.start ≤ s.changer.size → ∃ t : State,
           exec .dwellExpiry s = .next t ∧
           Departs { source := .auto, kind := .goto top.start, loopback := true, target := some top.start,
                     dir := gotoDir s.changer.size (s.changer.current.getD 1) top.start }
             [] ({ top with remaining := top.remaining - 1 } :: more) s t))))

/-! ### The Tray Drive -/

/-- R48, R49, R53 step 2, R54: an accepted encoder edge moves the counter one count, round its 24N, in the direction of
the drive or of the last drive; while the bridge drives it restarts the watchdog, and a count that puts the counter in
the target's window, outside a back-off, brings the BRAKE. A back-off counts its edges, and a seek's drive forward adds
them to its NO_INDEX budget of 24N + 48 (R57). With no tray an edge changes nothing. The model's choices here: log 14
(with no drive yet, forward) and 17 (no tray). -/
def Obligations.EncoderCountsMoveTheCounter : Prop :=
  ∀ s : State,
    (s.changer.tray = none → exec .encoderCount s = .next s) ∧
    (s.changer.tray ≠ none → ∃ t : State, exec .encoderCount s = .next t ∧ t = { s with drive := t.drive } ∧
      t.drive = { s.drive with
        position := t.drive.position, watchdog := t.drive.watchdog, backTally := t.drive.backTally
        budget := t.drive.budget, bridge := t.drive.bridge, brakeTimer := t.drive.brakeTimer
        afterBrake := t.drive.afterBrake } ∧
      (s.drive.bridge = .forward ∨ ¬s.drive.bridge.drives = true ∧ s.drive.lastDrive ≠ some .backward →
        t.drive.position = if s.drive.position + 1 < 24 * s.changer.size then s.drive.position + 1 else 0) ∧
      (s.drive.bridge = .backward ∨ ¬s.drive.bridge.drives = true ∧ s.drive.lastDrive = some .backward →
        t.drive.position = if s.drive.position = 0 then 24 * s.changer.size - 1 else s.drive.position - 1) ∧
      t.drive.backTally = (if s.drive.backingOff then min 12 (s.drive.backTally + 1) else s.drive.backTally) ∧
      t.drive.budget = (if s.drive.motion = .homeSeek ∧ s.drive.bridge = .forward ∧ s.drive.backingOff = false then
        min (24 * s.changer.size + 48) (s.drive.budget + 1) else s.drive.budget) ∧
      (∀ c, s.drive.bridge.drives = true → s.drive.backingOff = false → s.drive.motion.target = some c →
        inWindow s.changer.size t.drive.position c = true →
        t.drive.bridge = .brake ∧ t.drive.brakeTimer = some 40 ∧ t.drive.afterBrake = .window ∧
        t.drive.watchdog = none) ∧
      ((s.drive.bridge.drives = false ∨ s.drive.backingOff = true ∨ s.drive.motion.target = none ∨
          ∀ c, s.drive.motion.target = some c → inWindow s.changer.size t.drive.position c = false) →
        t.drive.bridge = s.drive.bridge ∧ t.drive.brakeTimer = s.drive.brakeTimer ∧
        t.drive.afterBrake = s.drive.afterBrake ∧
        t.drive.watchdog = if s.drive.bridge.drives then some 150 else s.drive.watchdog))

/-- R12, R30, R35, R52, R53 steps 3 and 4, R54, R56: the end of a brake with the lifter UP, by what the brake was for. After a
stop the bridge goes OFF; in the window the target becomes the current slot and the drop begins; outside it a
correction drives the shorter way, and after three of them the miss is a stall; a back-off drives against the last
drive, and a resumed drive goes the ordered way, in a homing forward. The centre phase of a homing ends in the drop.
R54: the first stall of a rotation brakes for 40 ms with a back-off to follow; the twelfth count of a back-off ends it
with another brake, from which the drive resumes. The model's choices here: log 14. -/
def Obligations.BrakesAndBackOffsEnd : Prop :=
  (∀ s : State, s.drive.bridge = .brake →
     let off : Drive := { s.drive with bridge := .off, brakeTimer := none, watchdog := none, afterBrake := .off }
     let driving (dir : Dir) (d : Drive) : Drive :=
       { d with
         bridge := dir.bridge, lastDrive := some dir, watchdog := some 150, brakeTimer := none, afterBrake := .off
         focus := .stopped, focusTimer := none }
     (s.drive.afterBrake = .off → exec .brakeEnd s = .next { s with drive := off }) ∧
     (s.drive.lifter = .up →
       (∀ dir c ch, s.drive.afterBrake = .window → s.drive.motion = .turn dir c → s.changer.change = some ch →
         inWindow s.changer.size s.drive.position c = true →
         exec .brakeEnd s = .next { s with
           changer := { s.changer with state := .dropping, current := ch.target }
           drive := { off with
             motion := .none, backingOff := false, backTally := 0, stalls := 0, budget := 0
             lifterDrive := .downward, lifterTimer := some 600 } }) ∧
       (s.drive.afterBrake = .window → s.drive.motion = .homeCentre →
         inWindow s.changer.size s.drive.position 0 = true →
         exec .brakeEnd s = .next { s with
           changer := { s.changer with state := .dropping }
           drive := { off with
             motion := .none, backingOff := false, backTally := 0, stalls := 0, budget := 0
             lifterDrive := .downward, lifterTimer := some 600 } }) ∧
       (∀ c, s.drive.afterBrake = .window → s.drive.motion.target = some c →
         inWindow s.changer.size s.drive.position c = false →
         (s.drive.corrections < 3 → exec .brakeEnd s = .next { s with
           drive := driving (if 0 < signedDistance s.changer.size s.drive.position c then .backward else .forward)
             { off with corrections := s.drive.corrections + 1 } }) ∧
         (3 ≤ s.drive.corrections → s.drive.stalls = 0 → exec .brakeEnd s = .next { s with
           drive := { off with
             bridge := .brake, brakeTimer := some 40, afterBrake := .backOff, stalls := 1, backingOff := false
             backTally := 0 } })) ∧
       (∀ last, s.drive.afterBrake = .backOff → s.drive.lastDrive = some last →
         exec .brakeEnd s = .next { s with
           drive := driving last.opposite { off with backingOff := true, backTally := 0 } }) ∧
       (∀ dir c, s.drive.afterBrake = .resume → s.drive.motion = .turn dir c →
         exec .brakeEnd s = .next { s with drive := driving dir { off with corrections := 0 } }) ∧
       (s.drive.afterBrake = .resume → s.drive.motion = .homeSeek ∨ s.drive.motion = .homeCentre →
         exec .brakeEnd s = .next { s with drive := driving .forward { off with corrections := 0 } }) ∧
       (∀ dir, s.drive.afterBrake = .drive dir →
         exec .brakeEnd s = .next { s with drive := driving dir off }))) ∧
  (∀ s : State, s.drive.bridge.drives = true →
     (s.drive.watchdog.isSome = true → s.drive.stalls = 0 →
       exec .stallWatchdogExpiry s = .next { s with drive := { s.drive with
         bridge := .brake, brakeTimer := some 40, watchdog := none, afterBrake := .backOff, stalls := 1
         backingOff := false, backTally := 0 } }) ∧
     (s.drive.backingOff = true → s.drive.backTally = 12 →
       exec .backOffComplete s = .next { s with drive := { s.drive with
         bridge := .brake, brakeTimer := some 40, watchdog := none, afterBrake := .resume, backingOff := false
         backTally := 0 } }))

/-- R40, R53, R55, R57 to R59, R77: a second stall, be it a fourth miss of the window, a seek past its budget, a
lifter timeout, a lifter that leaves UP in a turn or homing and a brake that ends with the lifter not UP each report
JAMMED. The motion ends with the bridge braked to OFF and the lifter drive OFF; the Changer is JAMMED and not homed,
with no queue, loops, current slot or change in flight, and JAM and CHANGE_DONE are raised. The model's choices here:
log 14 (a jam stops the lifter drive; a brake that ends with the lifter not UP). -/
def Obligations.JamsStopTheChange : Prop :=
  ∀ (s : State) (ch : Change), s.changer.change = some ch →
    let jammed (reason : JamReason) (t : State) : Prop :=
      t.changer.state = .jammed ∧ t.changer.homed = false ∧ t.changer.current = none ∧ t.changer.queue = [] ∧
      t.changer.loops = [] ∧ t.changer.change = none ∧ t.changer.dwell = 0 ∧ t.changer.run = 0 ∧
      t.changer.tray = s.changer.tray ∧ t.changer.held = s.changer.held ∧
      t.drive.motion = .none ∧ t.drive.lifterDrive = .off ∧ t.drive.afterBrake = .off ∧
      (s.drive.bridge.drives = true → t.drive.bridge = .brake ∧ t.drive.brakeTimer = some 40) ∧
      t.drive.position = s.drive.position ∧ t.lamp = { s.lamp with darkHold := false } ∧
      t.link.notices[0] = { arg := some (.changeDone ch.source .jammed), mark := true } ∧
      (∀ n, ch.kind ≠ .home ∨ s.changer.state = .dropping → ch.target = some n → 1 ≤ n ∧ n ≤ 140 →
        t.link.notices[2] = { arg := some (.jam reason (some n)), mark := true } ∧
        t.changer.slot n = { s.changer.slot n with occupancy := .jammed }) ∧
      (ch.kind = .home → s.changer.state ≠ .dropping →
        t.link.notices[2] = { arg := some (.jam reason none), mark := true } ∧
        t.changer.slots = s.changer.slots) ∧
      t.thermal = s.thermal ∧ t.tape = s.tape ∧ t.cue = s.cue ∧ t.remote = s.remote ∧ t.bus = s.bus
    (s.drive.bridge.drives = true → s.drive.watchdog.isSome = true → s.drive.stalls ≠ 0 →
      ∃ t : State, exec .stallWatchdogExpiry s = .next t ∧ jammed .stall t) ∧
    (∀ c, s.drive.bridge = .brake → s.drive.afterBrake = .window → s.drive.lifter = .up →
      s.drive.motion.target = some c → inWindow s.changer.size s.drive.position c = false →
      3 ≤ s.drive.corrections → s.drive.stalls ≠ 0 →
      ∃ t : State, exec .brakeEnd s = .next t ∧ jammed .stall t ∧ t.drive.bridge = .brake ∧
        t.drive.brakeTimer = some 40) ∧
    (s.drive.motion = .homeSeek → s.drive.bridge = .forward → 24 * s.changer.size + 48 ≤ s.drive.budget →
      ∃ t : State, exec .noIndexBudgetExhausted s = .next t ∧ jammed .noIndex t) ∧
    (s.drive.lifterTimer.isSome = true → s.drive.bridge = .off → s.drive.afterBrake = .off →
      (s.drive.lifterDrive = .upward ∧ s.drive.lifter ≠ .up ∨
        s.drive.lifterDrive = .downward ∧ s.drive.lifter ≠ .down) →
      ∃ t : State, exec .lifterTimeout s = .next t ∧ jammed .lifter t) ∧
    (s.drive.lifter = .up → s.drive.motion ≠ .none → s.drive.bridge ≠ .off → ∀ down,
      ∃ t : State, exec (.lifterSwitchChange false down) s = .next t ∧ jammed .lifter t) ∧
    (s.drive.bridge = .brake → s.drive.afterBrake ≠ .off → s.drive.lifter ≠ .up →
      ∃ t : State, exec .brakeEnd s = .next t ∧ jammed .lifter t)

/-- R50, R51, R53, R56, R12: an index pass is counted while a tray is present. Homed, a counter within 3 of the index is
left and one further off is set to 0 with SLIP, and where the bridge drives to a target whose window holds count 0, the
window is entered at the correction; in the seek of a homing, outside a back-off and within the budget, the
index is seen: the counter is 0, the tray is homed at slot 1, and the centre phase begins with a BRAKE. The model's
choices here: log 14 (a budget used up; a pass in the brake of a stall) and 17 (no tray; the target of a homing). -/
def Obligations.IndexPassesCountAndCorrect : Prop :=
  ∀ s : State,
    (s.changer.tray = none → exec .indexPass s = .next s) ∧
    (s.changer.tray ≠ none →
      let counted : Drive := { s.drive with revolutions := min 65535 (s.drive.revolutions + 1) }
      let slip := signedDistance s.changer.size s.drive.position 0
      (s.changer.homed = true → -3 ≤ slip → slip ≤ 3 → exec .indexPass s = .next { s with drive := counted }) ∧
      (s.changer.homed = true → ¬(-3 ≤ slip ∧ slip ≤ 3) →
        (s.drive.bridge.drives = false ∨ s.drive.backingOff = true ∨ s.drive.motion.target = none ∨
            (∃ c, s.drive.motion.target = some c ∧ inWindow s.changer.size 0 c = false) →
          exec .indexPass s = .next (raise (.slip slip) { s with drive := { counted with position := 0 } })) ∧
        (∀ c, s.drive.bridge.drives = true → s.drive.backingOff = false → s.drive.motion.target = some c →
          inWindow s.changer.size 0 c = true →
          exec .indexPass s = .next (raise (.slip slip) { s with drive := { counted with
            position := 0, bridge := .brake, brakeTimer := some 40, watchdog := none, afterBrake := .window } }))) ∧
      (s.changer.homed = false → s.drive.motion = .homeSeek → s.drive.backingOff = false →
        s.drive.budget < 24 * s.changer.size + 48 →
        let seen (d : Drive) : State := { s with
          changer := { s.changer with
            homed := true, current := some 1
            change := s.changer.change.map fun ch => { ch with target := some 1 } }
          drive := { d with position := 0, motion := .homeCentre, budget := 0, bridge := .brake, afterBrake := .window } }
        (s.drive.bridge ≠ .brake →
          exec .indexPass s = .next (seen { counted with brakeTimer := some 40, watchdog := none })) ∧
        (s.drive.bridge = .brake → exec .indexPass s = .next (seen counted))) ∧
      (s.changer.homed = false → s.drive.motion ≠ .homeSeek ∨ s.drive.backingOff = true ∨
          24 * s.changer.size + 48 ≤ s.drive.budget →
        exec .indexPass s = .next { s with drive := counted }))

/-- R62, R63: FOCUS runs the focus motor for its ticks of 10 ms: at once from a stop or in the same direction, after a
pause of 40 ms against a run the other way. It is refused during a tray motion and for a value outside its range. R62,
R63: the stop timer ends a key run and the duration a host run; a reversal pause ends in its run unless the end switch
of its direction is closed; and an end switch that closes ends a run in its direction. The model's choices here: log 13
(a timer's end in a run of the other kind) and 17 (a request during a pause or at a closed end switch). -/
def Obligations.TheFocusMotorRuns : Prop :=
  (∀ (s : State) (dir ticks : Nat), s.link.accepts (.focus dir ticks) = true →
     (1 < dir ∨ ticks = 0 ∨ 100 < ticks →
       exec (.focus dir ticks) s = .next (respond 14 .badValue [] s)) ∧
     (dir ≤ 1 → 1 ≤ ticks → ticks ≤ 100 →
       (s.drive.trayMotion = true → exec (.focus dir ticks) s = .next (respond 14 .notNow [] s)) ∧
       (s.drive.trayMotion = false →
         let d : FocusDir := if dir = 0 then .inward else .outward
         let answered (focus : Focus) (timer : Option Nat) : Prop :=
           exec (.focus dir ticks) s =
             .next (respond 14 .done [] { s with drive := { s.drive with focus := focus, focusTimer := timer } })
         (s.drive.endClosed d = true → exec (.focus dir ticks) s = .next (respond 14 .done [] s)) ∧
         (s.drive.endClosed d = false →
           (s.drive.focus = .stopped → answered (.running d (.host (ticks * 10))) (some (ticks * 10))) ∧
           (∀ old run, s.drive.focus = .running old run →
             (old = d → answered (.running d (.host (ticks * 10))) (some (ticks * 10))) ∧
             (old ≠ d → answered (.pausing d (.host (ticks * 10))) (some 40))) ∧
           (∀ old run, s.drive.focus = .pausing old run →
             answered (.pausing d (.host (ticks * 10))) s.drive.focusTimer))))) ∧
  (∀ (s : State) (dir : FocusDir),
     let stopped : State := { s with drive := { s.drive with focus := .stopped, focusTimer := none } }
     (s.drive.focus = .running dir .key →
       exec .focusStopTimerExpiry s = .next stopped ∧ exec .focusDurationEnd s = .next s) ∧
     (∀ ms, s.drive.focus = .running dir (.host ms) →
       exec .focusDurationEnd s = .next stopped ∧ exec .focusStopTimerExpiry s = .next s) ∧
     (∀ run, s.drive.focus = .pausing dir run →
       (s.drive.endClosed dir = true → exec .focusPauseEnd s = .next stopped) ∧
       (s.drive.endClosed dir = false → exec .focusPauseEnd s = .next
         { s with drive := { s.drive with
           focus := .running dir run, focusTimer := some (match run with | .key => 250 | .host ms => ms) } })) ∧
     (∀ run, s.drive.focus = .running dir run → ∃ t : State,
       exec (.focusEndSwitch dir true) s = .next t ∧ t.drive.endClosed dir = true ∧ t.drive.focus = .stopped ∧
       t.drive.focusTimer = none ∧
       t = { s with drive := { s.drive with
         endIn := t.drive.endIn, endOut := t.drive.endOut, focus := .stopped, focusTimer := none } }) ∧
     (∃ t : State, exec (.focusEndSwitch dir false) s = .next t ∧ t.drive.endClosed dir = false ∧
       t = { s with drive := { s.drive with endIn := t.drive.endIn, endOut := t.drive.endOut } }))

/-! ### Lamp and light -/

/-- R68, R71, R72, R106: LAMP ON strikes an OFF lamp whose start-up check is done and whose band is not TRIP: the first
attempt of at most three has its pulse and its window, and the fan runs at the floor at least; each later attempt falls
due from STRIKING with its window closed. A current that already flows as a window opens confirms the strike (log 18).
In COOLDOWN and before the check LAMP ON is refused; struck or lit it has no effect; in FAILED it is LAMP_FAILED. R71
to R73: a window that ends without current waits for the next attempt, and the third one fails the lamp; current in an
open window confirms the strike, and WARMING of 45 s ends in RUN. In WARMING and RUN the current-loss timer runs from
the change to NONE. The model's choices here: log 13 (a warm-up end outside WARMING) and 18 (current
already flowing at a window's opening). -/
def Obligations.TheLampIsStruck : Prop :=
  (∀ s : State,
     let attempt (l : Lamp) : Lamp :=
       if l.flowing then
         { l with state := .warming, attempts := l.attempts + 1, window := none, nextStrike := none, warmUp := 45000,
                  lossTimer := none }
       else
         { l with state := .striking, attempts := l.attempts + 1, window := some 2000,
                  nextStrike := if l.attempts + 1 < 3 then some 5000 else none }
     (s.link.accepts .lampOn = true →
       (s.lamp.state = .off → s.lamp.checkDone = true → s.lamp.bandView ≠ .trip →
         exec .lampOn s = .next (respond 15 .done [] { s with
           lamp := attempt { s.lamp with attempts := 0 }
           thermal := { s.thermal with duty := max s.thermal.duty s.thermal.profile.floor } })) ∧
       (s.lamp.state = .off → s.lamp.checkDone = false ∨ s.lamp.bandView = .trip →
         exec .lampOn s = .next (respond 15 .notNow [] s)) ∧
       (s.lamp.state = .cooldown → exec .lampOn s = .next (respond 15 .notNow [] s)) ∧
       (s.lamp.state = .striking ∨ s.lamp.lit = true → exec .lampOn s = .next (respond 15 .done [] s)) ∧
       (s.lamp.state = .failed → exec .lampOn s = .next (respond 15 .lampFailed [] s))) ∧
     (s.lamp.state = .striking → s.lamp.window = none → s.lamp.nextStrike ≠ none → s.lamp.attempts < 3 →
       exec .strikeAttemptTimer s = .next { s with lamp := attempt s.lamp })) ∧
  (∀ s : State,
     (s.lamp.state = .striking → s.lamp.window ≠ none →
       (s.lamp.attempts < 3 → exec .strikeWindowEnd s = .next { s with lamp := { s.lamp with window := none } }) ∧
       (3 ≤ s.lamp.attempts → exec .strikeWindowEnd s = .next (raise (.lampFail .strike)
         { s with lamp := { s.lamp with window := none, nextStrike := none, state := .failed } })) ∧
       exec (.currentSenseChange true) s = .next { s with lamp :=
         { s.lamp with flowing := true, window := none, nextStrike := none, warmUp := 45000, lossTimer := none,
                       state := .warming } }) ∧
     (s.lamp.state = .warming →
       exec .warmUpEnd s = .next { s with lamp := { s.lamp with warmUp := 0, state := .run } }) ∧
     (s.lamp.state ≠ .warming → exec .warmUpEnd s = .next s) ∧
     (∀ flowing : Bool,
       (s.lamp.lit = true → exec (.currentSenseChange flowing) s = .next { s with lamp :=
         { s.lamp with flowing := flowing, lossTimer := if flowing then none else some (s.lamp.lossTimer.getD 0) } }) ∧
       (s.lamp.active = false ∨ s.lamp.state = .striking ∧ (flowing = false ∨ s.lamp.window = none) →
         exec (.currentSenseChange flowing) s = .next { s with lamp := { s.lamp with flowing := flowing } })))

/-- R69, R73 to R75, R106: LAMP OFF, the loss of current and LAMP RESET start the cool-down, with the active profile's
time, the supply off and the fan at 1000. It ends in its destination once the timer is out and the cool-limit flag set;
reaching OFF releases the fan, but not in TRIP or with a faulty sensor. -/
def Obligations.TheLampCoolsDown : Prop :=
  ∀ s : State,
    let cooling (dest : CoolDest) (l : Lamp) : State := { s with
      lamp := { l with
        state := .cooldown, dest := dest, window := none, nextStrike := none, warmUp := 0, lossTimer := none
        coolDown := s.thermal.profile.coolTime * 1000 }
      thermal := { s.thermal with duty := 1000 } }
    (s.link.accepts .lampOff = true →
      (s.lamp.active = true → exec .lampOff s = .next (respond 16 .done [] (cooling .off s.lamp))) ∧
      (s.lamp.active = false → exec .lampOff s = .next (respond 16 .done [] s))) ∧
    (s.lamp.lit = true → s.lamp.lossTimer ≠ none →
      exec .currentLoss s = .next (raise (.lampFail .current) (cooling .failed s.lamp))) ∧
    (s.link.accepts .lampReset = true →
      (s.lamp.state = .failed →
        exec .lampReset s = .next (respond 17 .done [] (cooling .off { s.lamp with attempts := 0 }))) ∧
      (s.lamp.state = .cooldown → s.lamp.dest = .failed →
        exec .lampReset s = .next (respond 17 .done [] { s with lamp := { s.lamp with dest := .off } })) ∧
      (s.lamp.state = .cooldown → s.lamp.dest = .off → exec .lampReset s = .next (respond 17 .notNow [] s)) ∧
      (s.lamp.active = true ∨ s.lamp.state = .off → exec .lampReset s = .next (respond 17 .notNow [] s))) ∧
    (s.lamp.state = .cooldown →
      (s.lamp.coolFlag = false →
        exec .cooldownTimerExpiry s = .next { s with lamp := { s.lamp with coolDown := 0 } }) ∧
      (s.lamp.coolFlag = true → s.lamp.dest = .failed →
        exec .cooldownTimerExpiry s = .next { s with lamp := { s.lamp with coolDown := 0, state := .failed } }) ∧
      (s.lamp.coolFlag = true → s.lamp.dest = .off →
        exec .cooldownTimerExpiry s = .next { s with
          lamp := { s.lamp with coolDown := 0, state := .off }
          thermal :=
            if s.thermal.band = .trip ∨ s.thermal.sensor.isFault = true then s.thermal
            else { s.thermal with duty := 0 } }))

/-- R76, R78, R80: a fade tick takes one step of the fade ramp, exact at its end, where a fade to 0 sets the dark hold;
the light delivered is 0 when the lamp is not lit, the gate not OCCUPIED, the lifter not DOWN or the dark hold set, and
else the least term of the chain. SET LIGHT sets or clears the override that the base level reads. The model's choices
here: log 18 (the period's sum takes its first 25 ticks). -/
def Obligations.FadeTicksDeliverTheLight : Prop :=
  ∀ s : State,
    (∃ t : State, exec .fadeTick s = .next t ∧
      t = { s with lamp := { s.lamp with
        fade := t.lamp.fade, ramp := t.lamp.ramp, darkHold := t.lamp.darkHold, delivered := t.lamp.delivered
        lightSum := t.lamp.lightSum, ticks := t.lamp.ticks } } ∧
      (s.lamp.ramp = none →
        t.lamp.fade = s.lamp.fade ∧ t.lamp.ramp = none ∧ t.lamp.darkHold = s.lamp.darkHold) ∧
      (∀ r, s.lamp.ramp = some r →
        (r.k + 1 < r.n →
          t.lamp.fade = ((r.a : Int) + (((r.b : Int) - r.a) * (r.k + 1)).tdiv r.n).toNat ∧
          t.lamp.ramp = some { r with k := r.k + 1 } ∧ t.lamp.darkHold = s.lamp.darkHold) ∧
        (r.n ≤ r.k + 1 →
          t.lamp.fade = r.b ∧ t.lamp.ramp = none ∧
          t.lamp.darkHold = (if r.b = 0 then true else s.lamp.darkHold))) ∧
      LightBound t.lamp.delivered t ∧
      (s.lamp.lit = true → s.drive.gate = true → s.drive.lifter = .down → t.lamp.darkHold = false →
        let chain := min (min (min t.lamp.fade (baseLevel s)) s.lamp.warmCap) s.lamp.appliedCap
        t.lamp.delivered = if s.lamp.guard then min chain s.thermal.profile.guardLevel else chain) ∧
      (s.lamp.ticks < 25 →
        t.lamp.lightSum = s.lamp.lightSum + t.lamp.delivered ∧ t.lamp.ticks = s.lamp.ticks + 1) ∧
      (25 ≤ s.lamp.ticks → t.lamp.lightSum = s.lamp.lightSum ∧ t.lamp.ticks = s.lamp.ticks)) ∧
    (∀ v : Option Nat, s.link.accepts (.setLight v) = true →
      (v.getD 0 ≤ 1000 →
        exec (.setLight v) s = .next (respond 18 .done [] { s with lamp := { s.lamp with override := v } })) ∧
      (1000 < v.getD 0 → exec (.setLight v) s = .next (respond 18 .badValue [] s)))

/-- R81 to R83: at a period's end the average of the delivered light goes to the Thermal Unit and into the exposure
account, which the limit of the governing class bounds (4,000,000 where there is none); the guard is in force exactly
while the account stands at a limit, and its entry raises EXPOSURE_GUARD. WRITE EXPOSURE sets the limit of one class
0..2; another class is BAD_INDEX.
The model's choices here: log 18 (the class last read; a cool-down also ends at a period's end). -/
def Obligations.TheExposureIsCounted : Prop :=
  ∀ s : State,
    let p := s.lamp.lightSum / 25
    let cls := (s.changer.currentSlot.map SlotRecord.cls).getD s.lamp.govClass
    let limit := s.lamp.limit cls
    let account := min (s.lamp.exposure + p) (if limit = 0 then 4000000 else limit)
    let guard := decide (limit ≠ 0 ∧ account = limit)
    (¬(s.lamp.state = .cooldown ∧ s.lamp.coolDown = 0 ∧ s.lamp.coolFlag = true) →
      let counted : State := { s with
        lamp := { s.lamp with exposure := account, govClass := cls, guard := guard, lightSum := 0, ticks := 0 }
        thermal := { s.thermal with
          handover := some { p := p, coolDone := decide (s.lamp.state ≠ .cooldown ∨ s.lamp.coolDown = 0) } } }
      exec .lampPeriodEnd s = .next
        (if s.lamp.guard = false ∧ guard = true then raise (.exposureGuard s.changer.current cls) counted
         else counted)) ∧
    (s.lamp.state = .cooldown → s.lamp.coolDown = 0 → s.lamp.coolFlag = true → ∃ t : State,
      exec .lampPeriodEnd s = .next t ∧ t.lamp.state = s.lamp.dest.state ∧ t.lamp.exposure = account ∧
      t.lamp.guard = guard ∧ t.thermal.handover = some { p := p, coolDone := true } ∧
      t = { s with lamp := t.lamp, thermal := t.thermal, link := t.link }) ∧
    (∀ c e : Nat, s.link.accepts (.writeExposure c e) = true → 3 ≤ c →
      exec (.writeExposure c e) s = .next (respond 19 .badIndex [] s)) ∧
    (∀ c e : Nat, s.link.accepts (.writeExposure c e) = true → c < 3 →
      (4000000 < e → exec (.writeExposure c e) s = .next (respond 19 .badValue [] s)) ∧
      (e ≤ 4000000 → ∃ t : State,
        exec (.writeExposure c e) s = .next (respond 19 .done (limitBytes t.lamp) t) ∧
        t = { s with lamp := { s.lamp with limits := t.lamp.limits } } ∧ t.lamp.limit c = e ∧
        ∀ d, d ≠ c → t.lamp.limit d = s.lamp.limit d))

/-! ### Thermal estimation and cooling -/

/-- R87, R88, R97, R99, R107: the calibration and a profile that is neither active nor pending are written whole when
every value lies in its range; SELECT PROFILE makes a VALID profile pending, or clears the pending one for the profile
active now. A profile number above 7 is refused with BAD_INDEX. A sample and a tach pulse are held for the period. The
model's choices here: log 11 (the bytes of the answers) and 19 (the first tach pulse). -/
def Obligations.ThermalRecordsAreWritten : Prop :=
  ∀ s : State,
    (∀ (offset : Int) (gain : Nat) (zero : Int), s.link.accepts (.writeCalibration offset gain zero) = true →
      let cal : Calibration := { offset := offset, gain := gain, zero := zero }
      let good := -512 ≤ offset ∧ offset ≤ 511 ∧ gain ≤ 16383 ∧ -320 ≤ zero ∧ zero ≤ 320
      (good → exec (.writeCalibration offset gain zero) s =
        .next (respond 21 .done (calibrationBytes cal) { s with thermal := { s.thermal with cal := cal } })) ∧
      (¬good → exec (.writeCalibration offset gain zero) s = .next (respond 21 .badValue [] s))) ∧
    (∀ p : Nat, 8 ≤ p →
      (∀ v, s.link.accepts (.writeProfile p v) = true →
        exec (.writeProfile p v) s = .next (respond 23 .badIndex [] s)) ∧
      (s.link.accepts (.selectProfile p) = true →
        exec (.selectProfile p) s = .next (respond 25 .badIndex [] s))) ∧
    (∀ (p : Fin 8) (v : ProfileValues), s.link.accepts (.writeProfile p.val v) = true →
      (p = s.thermal.active ∨ some p = s.thermal.next →
        exec (.writeProfile p.val v) s = .next (respond 23 .inUse [] s)) ∧
      (p ≠ s.thermal.active → some p ≠ s.thermal.next → profileValuesInRange v = false →
        exec (.writeProfile p.val v) s = .next (respond 23 .badValue [] s)) ∧
      (p ≠ s.thermal.active → some p ≠ s.thermal.next → profileValuesInRange v = true → ∃ t : State,
        exec (.writeProfile p.val v) s = .next (respond 23 .done (profileBytes t.thermal p) t) ∧
        t = { s with thermal := { s.thermal with profiles := t.thermal.profiles } } ∧
        t.thermal.profiles[p] = Profile.ofValues v ∧
        ∀ q : Fin 8, q ≠ p → t.thermal.profiles[q] = s.thermal.profiles[q])) ∧
    (∀ p : Fin 8, s.link.accepts (.selectProfile p.val) = true →
      (s.thermal.profiles[p].valid = false →
        exec (.selectProfile p.val) s = .next (respond 25 .badValue [] s)) ∧
      (s.thermal.profiles[p].valid = true →
        exec (.selectProfile p.val) s = .next (respond 25 .done []
          { s with thermal := { s.thermal with next := if p = s.thermal.active then none else some p } }))) ∧
    (∀ r : Sample,
      exec (.thermistorSample r) s = .next { s with thermal := { s.thermal with sample := some r } }) ∧
    (∀ us : Nat, exec (.tachPulse us) s =
      .next { s with thermal := { s.thermal with tachInterval := some us, tachSilence := 0 } })

/-- R87, R89 to R95, R100: a period computation waits for both its sample and its hand-over. The pending profile
becomes active; a good sample that is used enters the delay line as its temperature code (filling it while it is
unfilled and at the end of a fault, shifting it otherwise) and the estimate is formed anew from the line, the light and
the duty; a sample that is not used leaves both. A bad sample makes GOOD SUSPECT and SUSPECT a FAULT, with
SENSOR_FAULT. The model's choices here: log 19. -/
def Obligations.PeriodsTakeTheSample : Prop :=
  ∀ s : State,
    (s.thermal.sample = none ∨ s.thermal.handover = none → exec .periodComputation s = .next s) ∧
    (∀ (r : Sample) (h : Handover), s.thermal.sample = some r → s.thermal.handover = some h → ∃ t : State,
      exec .periodComputation s = .next t ∧
      t = { s with lamp := t.lamp, thermal := t.thermal, link := t.link } ∧
      t.thermal.sample = none ∧ t.thermal.handover = none ∧ t.thermal.cal = s.thermal.cal ∧
      t.thermal.profiles = s.thermal.profiles ∧ t.thermal.next = none ∧
      t.thermal.active = s.thermal.next.getD s.thermal.active ∧
      t.thermal.count = min 4294967295 (s.thermal.count + 1) ∧
      let bad : Prop := r.toNat ≤ 15 ∨ 4080 ≤ r.toNat
      let count : Nat := (clampInt 0 4095 ((r.toNat : Int) - s.thermal.cal.offset)).toNat
      let theta : Int :=
        clampInt (-320) 3200 ((((count * s.thermal.cal.gain + 2048) / 4096 : Nat) : Int) + s.thermal.cal.zero)
      let kept : Prop := t.thermal.line = s.thermal.line ∧ t.thermal.est = s.thermal.est ∧ t.thermal.saturated = false
      let entered (line : Vector Int 8) : Prop :=
        let p := t.thermal.profile
        let y := (tapSum p.c line + p.cP * h.p + p.cF * s.thermal.duty + 2 ^ (p.q - 1)) / 2 ^ p.q
        t.thermal.line = some line ∧ t.thermal.est = clampInt (-320) 3200 (clampInt (-32768) 32767 y) ∧
        (t.thermal.saturated = true ↔ y < -32768 ∨ 32767 < y)
      (∀ sensor, s.thermal.sensor = sensor → sensor.isFault = false →
        (¬bad → t.thermal.sensor = .good ∧ (s.thermal.line = none → entered (Vector.replicate 8 theta)) ∧
          (∀ x, s.thermal.line = some x → entered #v[theta, x[0], x[1], x[2], x[3], x[4], x[5], x[6]])) ∧
        (bad → kept ∧ (sensor = .good → t.thermal.sensor = .suspect) ∧
          (sensor = .suspect → t.thermal.sensor = .fault 1 0 ∧
            t.link.notices[14] = { arg := some (.sensorFault r.toNat), mark := true }))) ∧
      (∀ time run, s.thermal.sensor = .fault time run →
        (bad → kept ∧ t.thermal.sensor = .fault (min 80 (time + 1)) 0) ∧
        (¬bad → run + 1 < 4 → kept ∧ t.thermal.sensor = .fault (min 80 (time + 1)) (run + 1)) ∧
        (¬bad → 4 ≤ run + 1 → t.thermal.sensor = .good ∧ entered (Vector.replicate 8 theta))))

/-- R79, R85, R101 to R105, R107, R108: the band a period computation decides, by one move at most from the estimate it
formed; a sensor or fan fault forces HOT, and TRIP comes when a trip cause holds, which puts a lamp that is struck or
lit into COOLDOWN. NORMAL to WARM raises THERM_WARN, and an entry to HOT raises THERM_HOT with its cause. The tach is
judged against the duty in force: eight slow periods of a driven fan make its state FAULT, with FAN_FAULT. The first
computation makes the start-up check: a code of 400 or more puts the lamp into COOLDOWN for profile 0's time. The
report carries band and cap to the Lamp Controller, whose applied cap falls at once and rises by 100 at most; the fan
duty follows the demand by the slew, is 1000 in TRIP and with a faulty sensor, and 0 with the lamp OFF. The model's
choices here: log 8 (the cause where both faults stand), 15 (no THERM_WARN from HOT), 16 and 19. -/
def Obligations.PeriodsDecideTheBand : Prop :=
  ∀ (s : State) (r : Sample) (h : Handover), s.thermal.sample = some r → s.thermal.handover = some h → ∃ t : State,
    exec .periodComputation s = .next t ∧
    let p := t.thermal.profile
    let est := t.thermal.est
    let sensorFault := t.thermal.sensor.isFault
    let fanFault := s.thermal.fan.isFault
    let cause : Prop :=
      p.x ≤ est ∨ (∃ run, t.thermal.sensor = .fault 80 run) ∨ (∃ run, s.thermal.fan = .fault 40 run)
    (cause → t.thermal.band = .trip ∧
      (s.thermal.band ≠ .trip → s.lamp.checkDone = true → s.lamp.active = true → p.coolTime ≠ 0 →
        t.lamp.state = .cooldown ∧ t.thermal.duty = 1000 ∧
        t.link.notices[10] = { arg := some (.lampTrip s.lamp.state), mark := true })) ∧
    (¬cause →
      (s.thermal.band = .normal → t.thermal.band =
        if sensorFault || fanFault then .hot else if p.w ≤ est then .warm else .normal) ∧
      (s.thermal.band = .warm → t.thermal.band =
        if sensorFault || fanFault then .hot
        else if p.h ≤ est then .hot else if est < p.w - 40 then .normal else .warm) ∧
      (s.thermal.band = .hot → t.thermal.band =
        if sensorFault || fanFault then .hot else if est < p.h - 40 then .warm else .hot) ∧
      (s.thermal.band = .trip → t.thermal.band =
        if est < p.coolLimit ∧ sensorFault = false ∧ h.coolDone = true then (if fanFault then .hot else .normal)
        else .trip)) ∧
    t.link.notices[12] = (if s.thermal.band = .normal ∧ t.thermal.band = .warm then
      { arg := some (.thermWarn est), mark := true } else s.link.notices[12]) ∧
    (s.thermal.band = .hot ∨ t.thermal.band ≠ .hot → t.link.notices[13] = s.link.notices[13]) ∧
    (s.thermal.band ≠ .hot → t.thermal.band = .hot → ∃ because : HotCause,
      t.link.notices[13] = { arg := some (.thermHot est because), mark := true } ∧
      (sensorFault = false → fanFault = false → because = .temp) ∧
      (sensorFault = true → fanFault = false → because = .sensor) ∧
      (sensorFault = false → fanFault = true → because = .fan) ∧
      (sensorFault = true → fanFault = true → because = .sensor ∨ because = .fan)) ∧
    (let driven : Prop := p.floor ≤ s.thermal.duty ∧ s.thermal.duty ≠ 0
     let slow : Prop := 100 < s.thermal.tachSilence ∨ ∃ us, s.thermal.tachInterval = some us ∧ 100000 < us
     let speed : Option Nat := if 100 < s.thermal.tachSilence then none
       else s.thermal.tachInterval.map fun us => if us = 0 then 30000 else min 30000 (30000000 / us)
     (∀ run, s.thermal.fan = .good run →
       (driven → slow → run + 1 < 8 → t.thermal.fan = .good (run + 1)) ∧
       (driven → slow → 8 ≤ run + 1 → t.thermal.fan = .fault 0 0 ∧
         t.link.notices[15] = { arg := some (.fanFault speed), mark := true }) ∧
       (¬(driven ∧ slow) → t.thermal.fan = .good 0)) ∧
     (∀ time run, s.thermal.fan = .fault time run →
       (¬driven → t.thermal.fan = .fault time run) ∧
       (driven → slow → t.thermal.fan = .fault (min 40 (time + 1)) 0) ∧
       (driven → ¬slow → t.thermal.fan = if run + 1 < 8 then .fault time (run + 1) else .good 0)) ∧
     (fanFault = true ∨ t.thermal.fan.isFault = false → t.link.notices[15] = s.link.notices[15])) ∧
    (let bad : Prop := r.toNat ≤ 15 ∨ 4080 ≤ r.toNat
     let count : Nat := (clampInt 0 4095 ((r.toNat : Int) - s.thermal.cal.offset)).toNat
     let theta : Int :=
       clampInt (-320) 3200 ((((count * s.thermal.cal.gain + 2048) / 4096 : Nat) : Int) + s.thermal.cal.zero)
     t.lamp.checkDone = true ∧
     (s.lamp.checkDone = false → s.lamp.state = .off →
       (bad ∨ 400 ≤ theta → s.thermal.profiles[0].coolTime ≠ 0 →
         t.lamp.state = .cooldown ∧ t.lamp.dest = .off ∧ t.lamp.coolDown = s.thermal.profiles[0].coolTime * 1000 ∧
         t.thermal.duty = 1000) ∧
       (¬bad → theta < 400 → t.lamp.state = .off))) ∧
    t.thermal.namedCap = (match t.thermal.band with
      | .normal => 1000 | .warm => p.warmCap | .hot => p.hotCap | .trip => 0) ∧
    t.lamp.bandView = t.thermal.band ∧
    t.lamp.coolFlag = decide (est < p.coolLimit ∧ sensorFault = false) ∧
    t.lamp.appliedCap =
      (if t.thermal.namedCap ≤ s.lamp.appliedCap then t.thermal.namedCap
       else min t.thermal.namedCap (s.lamp.appliedCap + 100)) ∧
    (t.thermal.band = .trip ∨ sensorFault = true → t.thermal.duty = 1000) ∧
    (t.thermal.band ≠ .trip → sensorFault = false → s.lamp.checkDone = true →
      (s.lamp.state = .off → t.thermal.duty = 0 ∧ t.lamp.state = .off) ∧
      (s.lamp.active = true ∨ s.lamp.state = .failed →
        let demand := (clampInt p.floor 1000 ((p.floor : Int) + ((est - p.tset) * p.k) / 16)).toNat
        let slewed := if s.thermal.duty + p.slew < demand then s.thermal.duty + p.slew
          else if demand + p.slew < s.thermal.duty then s.thermal.duty - p.slew else demand
        t.thermal.duty = max p.floor slewed ∧ t.lamp.state = s.lamp.state)) ∧
    t.thermal.snapshot.est = est ∧ t.thermal.snapshot.band = t.thermal.band ∧
    t.thermal.snapshot.raw = r.toNat ∧ t.thermal.snapshot.count = t.thermal.count ∧
    t.thermal.snapshot.active = t.thermal.active ∧ t.thermal.snapshot.namedCap = t.thermal.namedCap

/-! ### Tape and sound -/

/-- R111 to R117: TAPE PLAY, PAUSE, STOP and WIND by transport state. Play and wind from a run-down become its pending
motion; a stop or a reversal of a winding starts a run-down of 300 ms; an entry to a winding makes the counter UNSURE
with residue 0. The Cue Unit's gate opens with PLAYING and closes as it is left (R128). A request that does not apply
is NOT_NOW, and with no cassette NO_TAPE. -/
def Obligations.TapeRequestsMoveTheTransport : Prop :=
  ∀ s : State,
    let opened : CueUnit := { s.cue with rx := .idle, burst := if s.cue.tone then some 0 else none }
    let closed : CueUnit := { s.cue with rx := .idle, holding := none, burst := none }
    let playing : State := { s with
      cue := opened
      tape := { s.tape with transport := .playing, runDown := none, endTimer := some 1000, reelTimer := none } }
    let winding (w : Transport) : State := { s with tape := { s.tape with
      transport := w, runDown := none, sure := false, residue := 0, endTimer := none, reelTimer := some 1000 } }
    let stopped (r : Option RunDown) (u : CueUnit) : State := { s with
      cue := u
      tape := { s.tape with transport := .stopped, runDown := r, endTimer := none, reelTimer := none } }
    let awaiting (r : RunDown) (next : PendingMotion) : State :=
      { s with tape := { s.tape with runDown := some { r with next := next } } }
    let coasting (next : PendingMotion) : State := stopped (some { left := 300, next := next }) s.cue
    let takes (c : Instr) (code : Nat) (t : State) : Prop := exec c s = .next (respond code .done [] t)
    let refused (c : Instr) (code : Nat) (st : Status) : Prop := exec c s = .next (respond code st [] s)
    (s.link.accepts .tapePlay = true →
      (s.tape.transport = .noTape → refused .tapePlay 27 .noTape) ∧
      (s.tape.transport = .stopped → s.tape.runDown = none → takes .tapePlay 27 playing) ∧
      (∀ r, s.tape.transport = .stopped → s.tape.runDown = some r → takes .tapePlay 27 (awaiting r .playing)) ∧
      (s.tape.transport = .paused → takes .tapePlay 27 playing) ∧
      (s.tape.transport = .playing ∨ s.tape.transport.winding = true → refused .tapePlay 27 .notNow)) ∧
    (s.link.accepts .tapePause = true →
      (s.tape.transport = .noTape → refused .tapePause 28 .noTape) ∧
      (s.tape.transport = .playing → takes .tapePause 28
        { s with tape := { s.tape with transport := .paused, endTimer := none }, cue := closed }) ∧
      (s.tape.transport ≠ .noTape → s.tape.transport ≠ .playing → refused .tapePause 28 .notNow)) ∧
    (s.link.accepts .tapeStop = true →
      (s.tape.transport = .noTape → refused .tapeStop 29 .noTape) ∧
      (s.tape.transport = .playing → takes .tapeStop 29 (stopped none closed)) ∧
      (s.tape.transport = .paused → takes .tapeStop 29 (stopped none s.cue)) ∧
      (s.tape.transport.winding = true → takes .tapeStop 29 (coasting .none)) ∧
      (∀ r, s.tape.transport = .stopped → s.tape.runDown = some r → takes .tapeStop 29 (awaiting r .none)) ∧
      (s.tape.transport = .stopped → s.tape.runDown = none → refused .tapeStop 29 .notNow)) ∧
    (∀ d : Nat, s.link.accepts (.tapeWind d) = true →
      (1 < d → refused (.tapeWind d) 30 .badValue) ∧
      (d ≤ 1 →
        let way : Transport := if d = 0 then .windingFwd else .windingBack
        let next : PendingMotion := if d = 0 then .windingFwd else .windingBack
        (s.tape.transport = .noTape → refused (.tapeWind d) 30 .noTape) ∧
        (s.tape.transport = .playing → refused (.tapeWind d) 30 .notNow) ∧
        (s.tape.transport = .stopped → s.tape.runDown = none → takes (.tapeWind d) 30 (winding way)) ∧
        (∀ r, s.tape.transport = .stopped → s.tape.runDown = some r → takes (.tapeWind d) 30 (awaiting r next)) ∧
        (s.tape.transport = .paused → takes (.tapeWind d) 30 (winding way)) ∧
        (s.tape.transport.winding = true → s.tape.transport = way → takes (.tapeWind d) 30 s) ∧
        (s.tape.transport.winding = true → s.tape.transport ≠ way → takes (.tapeWind d) 30 (coasting next))))

/-- R111, R117 to R119: the tape in motion. A run-down ends in its pending motion; five capstan pulses in PLAYING make
a tenth and every one restarts the tape-end timer, as a reel pulse does the reel timer; either timer's end stops the
tape with TAPE_END, but a timeout that finds its timer restarted by a pulse changes nothing; and a removed cassette
leaves NO_TAPE with the counter 0 and UNSURE, with TAPE_END if the tape was not at rest. The model's choices here: log
4 (a timeout acts with its timer at 0), 13 and 20. -/
def Obligations.TheTapeRuns : Prop :=
  ∀ s : State,
    let closed : CueUnit := { s.cue with rx := .idle, holding := none, burst := none }
    (∀ r, s.tape.transport = .stopped → s.tape.runDown = some r →
      (r.next = .none → exec .runDownEnd s = .next { s with tape := { s.tape with runDown := none } }) ∧
      (r.next = .playing → exec .runDownEnd s = .next { s with
        tape := { s.tape with transport := .playing, runDown := none, endTimer := some 1000, reelTimer := none }
        cue := { s.cue with rx := .idle, burst := if s.cue.tone then some 0 else none } }) ∧
      (∀ w : Transport, r.next = .windingFwd ∧ w = .windingFwd ∨ r.next = .windingBack ∧ w = .windingBack →
        exec .runDownEnd s = .next { s with tape := { s.tape with
          transport := w, runDown := none, sure := false, residue := 0, endTimer := none, reelTimer := some 1000 } })) ∧
    (s.tape.transport = .playing →
      (s.tape.residue < 4 → exec .capstanPulse s = .next
        { s with tape := { s.tape with residue := s.tape.residue + 1, endTimer := some 1000 } }) ∧
      (s.tape.residue = 4 → exec .capstanPulse s = .next { s with tape := { s.tape with
        counter := min 65535 (s.tape.counter + 1), residue := 0, endTimer := some 1000 } }) ∧
      (s.tape.endTimer = some 0 →
        exec .tapeEndTimeout s = .next (raise (.tapeEnd .ended .playing s.tape.counter) { s with
          tape := { s.tape with transport := .stopped, runDown := none, endTimer := none, reelTimer := none }
          cue := closed }))) ∧
    (s.tape.transport ≠ .playing → exec .capstanPulse s = .next s) ∧
    (s.tape.transport ≠ .playing ∨ s.tape.endTimer ≠ some 0 → exec .tapeEndTimeout s = .next s) ∧
    (s.tape.transport.winding = false → exec .reelPulse s = .next s) ∧
    (s.tape.transport.winding = false ∨ s.tape.reelTimer ≠ some 0 → exec .reelTimeout s = .next s) ∧
    (s.tape.transport.winding = true →
      exec .reelPulse s = .next { s with tape := { s.tape with reelTimer := some 1000 } } ∧
      (s.tape.reelTimer = some 0 →
        exec .reelTimeout s = .next (raise (.tapeEnd .ended s.tape.transport s.tape.counter) { s with
          tape := { s.tape with
            transport := .stopped, runDown := some { left := 300, next := .none }, endTimer := none
            reelTimer := none } }))) ∧
    (let out : State := { s with
      tape := { s.tape with
        transport := .noTape, runDown := none, endTimer := none, reelTimer := none, counter := 0, sure := false
        residue := 0 }
      cue := if s.tape.transport = .playing then closed else s.cue }
     (s.tape.transport = .stopped → exec .cassetteRemoval s = .next out) ∧
     (s.tape.transport ≠ .stopped → s.tape.transport ≠ .noTape → ∃ t : State,
       exec .cassetteRemoval s = .next t ∧ t = { out with link := t.link } ∧
       t.link.notices[17].mark = true ∧
       ∃ counter, t.link.notices[17].arg = some (.tapeEnd .removed s.tape.transport counter))) ∧
    (s.tape.transport = .noTape → exec .cassetteInsertion s = .next { s with tape := { s.tape with
      transport := .stopped, runDown := none, endTimer := none, reelTimer := none } })

/-- R120 to R124: the counter, the base, the duck and the mute are set, each within its range. A sound tick moves both
ramps one step, exact at their end, and puts out their sum, or MUTE; a ramp at its last step is removed with its target
in place. The model's choices here: log 11 (the bytes of the answers), 12 and 4. -/
def Obligations.SoundIsMixed : Prop :=
  ∀ s : State,
    (∀ v, s.link.accepts (.setTapePosition v) = true →
      (65535 < v → exec (.setTapePosition v) s = .next (respond 31 .badValue [] s)) ∧
      (v ≤ 65535 → s.tape.transport = .noTape →
        exec (.setTapePosition v) s = .next (respond 31 .noTape [] s)) ∧
      (v ≤ 65535 → s.tape.transport.winding = true ∨ s.tape.transport = .stopped ∧ s.tape.runDown ≠ none →
        exec (.setTapePosition v) s = .next (respond 31 .notNow [] s)) ∧
      (v ≤ 65535 → s.tape.transport = .playing ∨ s.tape.transport = .paused ∨
          s.tape.transport = .stopped ∧ s.tape.runDown = none →
        let t : State := { s with tape := { s.tape with counter := v, sure := true, residue := 0 } }
        exec (.setTapePosition v) s = .next (respond 31 .done (counterBytes t.tape) t))) ∧
    (∀ a, s.link.accepts (.setGain a) = true →
      (a ≤ 120 → exec (.setGain a) s =
        .next (respond 32 .done [] { s with tape := { s.tape with base := a, baseRamp := none } })) ∧
      (120 < a → exec (.setGain a) s = .next (respond 32 .badValue [] s))) ∧
    (∀ d sw, s.link.accepts (.setDuckDepth d sw) = true →
      let ducked (on : Bool) (ramp : Option Ramp) : Prop :=
        let t : State := { s with tape := { s.tape with duckDepth := d, duckOn := on, duckRamp := ramp } }
        exec (.setDuckDepth d sw) s = .next (respond 33 .done (duckBytes t.tape) t)
      (120 < d ∨ 2 < sw → exec (.setDuckDepth d sw) s = .next (respond 33 .badValue [] s)) ∧
      (d ≤ 120 → sw = 1 ∨ sw = 2 ∧ s.tape.duckOn = true →
        ducked true (some { a := s.tape.duckTerm, b := d, n := 20, k := 0 })) ∧
      (d ≤ 120 → sw = 0 → ducked false (some { a := s.tape.duckTerm, b := 0, n := 20, k := 0 })) ∧
      (d ≤ 120 → sw = 2 → s.tape.duckOn = false → ducked false s.tape.duckRamp)) ∧
    (∀ m, s.link.accepts (.setMute m) = true → m ≤ 1 → exec (.setMute m) s =
      .next (respond 34 .done [] { s with tape := { s.tape with mute := m == 1 } })) ∧
    (let value (r : Ramp) : Nat :=
      if r.n ≤ r.k + 1 then r.b else ((r.a : Int) + (((r.b : Int) - r.a) * (r.k + 1)).tdiv r.n).toNat
     let stepped (r : Ramp) : Ramp := { r with k := min r.n (r.k + 1) }
     let base := s.tape.baseRamp.elim s.tape.base value
     let duck := s.tape.duckRamp.elim s.tape.duckTerm value
     exec .soundTick s = .next { s with tape := { s.tape with
       base := base, baseRamp := s.tape.baseRamp.map stepped, duckTerm := duck
       duckRamp := s.tape.duckRamp.map stepped
       output := if s.tape.mute = true ∨ 120 ≤ base + duck then none else some (base + duck) } }) ∧
    (∀ r, s.tape.baseRamp = some r →
      (r.n ≤ r.k → exec .baseRampEnd s = .next { s with tape := { s.tape with base := r.b, baseRamp := none } }) ∧
      (r.k < r.n → exec .baseRampEnd s = .next s)) ∧
    (∀ r, s.tape.duckRamp = some r →
      (r.n ≤ r.k → exec .duckRampEnd s = .next { s with tape := { s.tape with duckTerm := r.b, duckRamp := none } }) ∧
      (r.k < r.n → exec .duckRampEnd s = .next s))

/-! ### Cues -/

/-- R137 to R139: WRITE CUE writes the entry it names, or the lowest FREE one, in the state wanted and with no hits;
ARM CUE and PAUSE CUE move an entry by its state; RETIRE CUE frees it. No request makes two ARMED entries with the same
code and selector. Every other entry stays. An entry number outside the map is BAD_INDEX, and a WRITE CUE with a field
or an argument outside its range is BAD_VALUE. The model's choices here: log 10 (bytes that are not read) and 11 (the
bytes of the answers). -/
def Obligations.CueEntriesAreKept : Prop :=
  ∀ (s : State) (n : Nat), 1 ≤ n ∧ n ≤ 32 →
    let e := s.cue.entry n
    let twin (code : CueCode) (sel : Selector) : Prop := ∃ m, 1 ≤ m ∧ m ≤ 32 ∧ m ≠ n ∧
      (s.cue.entry m).state = .armed ∧ (s.cue.entry m).code = code ∧ (s.cue.entry m).selector = sel
    let becomes (c : Instr) (code : Nat) (new : CueEntry) (payload : List Byte) : Prop := ∃ t : State,
      exec c s = .next (respond code .done payload t) ∧ t = { s with cue := { s.cue with map := t.cue.map } } ∧
      t.cue.entry n = new ∧ ∀ m, m ≠ n → t.cue.entry m = s.cue.entry m
    let refused (c : Instr) (code : Nat) (st : Status) : Prop := exec c s = .next (respond code st [] s)
    (∀ v : CueImage, s.link.accepts (.writeCue v) = true →
      v.entry = n ∨ v.entry = 0 ∧ e.state = .free ∧ (∀ m, 1 ≤ m → m < n → (s.cue.entry m).state ≠ .free) →
      let window (present lo hi least most : Nat) : Prop := present = 0 ∨ present = 1 ∧ least ≤ lo ∧ lo ≤ hi ∧ hi ≤ most
      let windowed (present lo hi : Nat) : Option Window := if present = 1 then some { lo := lo, hi := hi } else none
      let word := v.a0 * 256 + v.a1
      let action : Option CueAction := match v.action with
        | 1 => if 1 ≤ v.a1 ∧ v.a1 ≤ 9 ∧ v.a0 ≤ 1 then some (.step (if v.a0 = 0 then v.a1 else -(v.a1 : Int))) else none
        | 2 => if 1 ≤ word ∧ word ≤ 140 then some (.goto word) else none
        | 3 => some .hold
        | 4 => some .resume
        | 5 => if word ≤ 1000 then some (.light word) else none
        | 6 => if v.a0 ≤ 7 then some (.profile v.a0) else none
        | 7 => if v.a0 ≤ 120 then some (.gain v.a0) else none
        | 8 => if v.a0 ≤ 1 then some (.duck (v.a0 == 1)) else none
        | 9 => some .tapePause
        | 10 =>
          if 1 ≤ v.a0 ∧ v.a0 ≤ 31 ∧ 1 ≤ v.a1 ∧ v.a1 ≤ 18 ∧ v.a1 ≠ 17 ∧ v.a2 = (if v.a1 = 3 then 1 else 0) ∧ v.a3 ≤ 255
          then some (.relay v.a0 v.a1 (if v.a2 = 1 then some v.a3 else none)) else none
        | 11 => if v.a0 ≤ 255 then some (.notify v.a0) else none
        | _ => none
      let good : Prop := (v.want = 1 ∨ v.want = 2) ∧ v.code ≤ 4095 ∧ v.selector ≤ 3 ∧ action ≠ none ∧ v.single ≤ 1 ∧
        window v.tapePresent v.tapeFrom v.tapeTo 0 65535 ∧ window v.slotPresent v.slotLo v.slotHi 1 140
      (¬good → refused (.writeCue v) 38 .badValue) ∧
      (good → ∀ new : CueEntry,
        new.state = (if v.want = 1 then .armed else .paused) → new.code.toNat = v.code →
        new.selector.code = v.selector → new.action = action → new.single = (v.single == 1) →
        new.tapeWindow = windowed v.tapePresent v.tapeFrom v.tapeTo →
        new.slotWindow = windowed v.slotPresent v.slotLo v.slotHi → new.hits = 0 →
        (new.state = .armed → twin new.code new.selector → refused (.writeCue v) 38 .duplicate) ∧
        (¬(new.state = .armed ∧ twin new.code new.selector) →
          becomes (.writeCue v) 38 new (cueEntryBytes n new)))) ∧
    (∀ m : Nat, m = 0 ∨ 32 < m →
      (s.link.accepts (.armCue m) = true → refused (.armCue m) 39 .badIndex) ∧
      (s.link.accepts (.pauseCue m) = true → refused (.pauseCue m) 40 .badIndex) ∧
      (s.link.accepts (.retireCue m) = true → refused (.retireCue m) 41 .badIndex)) ∧
    (∀ v : CueImage, s.link.accepts (.writeCue v) = true →
      (32 < v.entry → refused (.writeCue v) 38 .badIndex) ∧
      (v.entry = 0 → (∀ m, 1 ≤ m → m ≤ 32 → (s.cue.entry m).state ≠ .free) → refused (.writeCue v) 38 .full)) ∧
    (s.link.accepts (.armCue n) = true →
      (e.state = .free → refused (.armCue n) 39 .notNow) ∧
      (e.state = .armed → exec (.armCue n) s = .next (respond 39 .done [1] s)) ∧
      (e.state = .paused ∨ e.state = .spent →
        (twin e.code e.selector → refused (.armCue n) 39 .duplicate) ∧
        (¬twin e.code e.selector → becomes (.armCue n) 39 { e with state := .armed } [1]))) ∧
    (s.link.accepts (.pauseCue n) = true →
      (e.state = .free ∨ e.state = .spent → refused (.pauseCue n) 40 .notNow) ∧
      (e.state = .armed → becomes (.pauseCue n) 40 { e with state := .paused } [2]) ∧
      (e.state = .paused → exec (.pauseCue n) s = .next (respond 40 .done [2] s))) ∧
    (s.link.accepts (.retireCue n) = true → becomes (.retireCue n) 41 CueEntry.blank [])

/-- R128 to R131, R133: with the gate open a falling edge in IDLE starts a word, the recheck confirms or drops it, and
each sample is taken as a bit, up to the thirteen before the stop bit. A complete word fails by FRAMING, then PARITY,
then RESERVED; a good one with confirm pairs on and no equal word held is held for 150 ms. A tone is timed as a burst.
With the gate closed the edges, the samples and the completion do nothing, and a tone is only seen. The model's choices
here: log 13 and 20 (the tone level with the gate closed). -/
def Obligations.CueWordsAreReceived : Prop :=
  ∀ s : State,
    let rx (r : CueRx) : State := { s with cue := { s.cue with rx := r } }
    (s.tape.transport = .playing →
      (s.cue.rx = .idle → exec .cueDataFallingEdge s = .next (rx .start)) ∧
      (s.cue.rx ≠ .idle → exec .cueDataFallingEdge s = .next s) ∧
      (s.cue.rx = .start →
        exec (.startBitRecheck true) s = .next (rx .idle) ∧
        exec (.startBitRecheck false) s = .next (rx (.word []))) ∧
      (∀ bits, s.cue.rx = .word bits →
        (∀ high, bits.length < 13 → exec (.cueBitSample high) s = .next (rx (.word (bits ++ [high])))) ∧
        (bits.length = 13 →
          let even : Prop := bits.countP (fun b => b) % 2 = 0
          let ones : Prop := ∀ i, i < 12 → bits.getD i false = true
          exec (.cueWordComplete false) s = .next (raise (.cueBad .framing) (rx .idle)) ∧
          (¬even → exec (.cueWordComplete true) s = .next (raise (.cueBad .parity) (rx .idle))) ∧
          (even → ones → exec (.cueWordComplete true) s = .next (raise (.cueBad .reserved) (rx .idle))) ∧
          (even → ¬ones → s.cue.confirm = true →
            ∀ code : CueCode, (∀ i, i < 12 → code.getLsbD i = bits.getD i false) →
            (∀ h, s.cue.holding = some h → h.code ≠ code) →
            exec (.cueWordComplete true) s = .next { s with cue := { s.cue with
              rx := .idle, holding := some { code := code, left := 150 } } }))) ∧
      exec .toneBurstStart s = .next
        { s with cue := { s.cue with tone := true, burst := some (s.cue.burst.getD 0) } }) ∧
    (s.tape.transport ≠ .playing → ∀ b,
      exec .cueDataFallingEdge s = .next s ∧ exec (.startBitRecheck b) s = .next s ∧
      exec (.cueBitSample b) s = .next s ∧ exec (.cueWordComplete b) s = .next s ∧
      exec .toneBurstStart s = .next { s with cue := { s.cue with tone := true } } ∧
      exec .pulseCue s = .next { s with cue := { s.cue with tone := false, burst := none } }) ∧
    exec .shortToneBurstEnd s = .next { s with cue := { s.cue with tone := false, burst := none } } ∧
    exec .confirmTimeout s = .next { s with cue := { s.cue with holding := none } }

/-- R131, R134, R136, R141, R142: an accepted code, of a good word (confirmed, or with confirm pairs off) or of a
pulse. With learn mode OFF the lowest-numbered ARMED entry that matches under its mask and its windows is the winner:
its action is offered to its owner, and taken it counts a hit, spends a single-shot entry and raises CUE_HIT; refused
it leaves the entry and raises CUE_MISSED. With no winner CUE_UNMATCHED is raised, or for a pulse with the legacy
option on a STEP +1 is offered. The model's choices here: log 4 (the completion event). -/
def Obligations.AcceptedCodesFindTheirEntry : Prop :=
  ∀ (s : State) (code : CueCode), s.tape.transport = .playing → s.cue.learn = .off →
    let finds (c : Instr) (u : State) (legacy : Bool) : Prop :=
      let matching (n : Nat) : Prop :=
        let e := s.cue.entry n
        e.state = .armed ∧ code &&& s.cue.mask e.selector = e.code &&& s.cue.mask e.selector ∧
        (∀ w, e.tapeWindow = some w → s.tape.sure = true ∧ w.lo ≤ s.tape.counter ∧ s.tape.counter ≤ w.hi) ∧
        (∀ w, e.slotWindow = some w → ∃ n, s.changer.current = some n ∧ w.lo ≤ n ∧ n ≤ w.hi)
      (∀ n a, 1 ≤ n → n ≤ 32 → matching n → (∀ m, 1 ≤ m → m < n → ¬matching m) →
        (s.cue.entry n).action = some a →
        let offered := offerAction n a u
        (offered.2 = .done → ∃ t : State,
          exec c s = .next (raise (.cueHit n code a.notifyValue) t) ∧
          t = { offered.1 with cue := { offered.1.cue with map := t.cue.map } } ∧
          t.cue.entry n = { s.cue.entry n with
            hits := min 255 ((s.cue.entry n).hits + 1)
            state := if (s.cue.entry n).single then .spent else .armed } ∧
          ∀ m, m ≠ n → t.cue.entry m = s.cue.entry m) ∧
        (offered.2 ≠ .done → exec c s = .next (raise (.cueMissed n (.status offered.2)) offered.1))) ∧
      ((∀ n, 1 ≤ n → n ≤ 32 → ¬matching n) →
        (legacy = false → exec c s = .next (raise (.cueUnmatched code) u)) ∧
        (legacy = true →
          let offered := offerStep (.cue 0) 1 u
          exec c s = .next (raise
            (if offered.2 = .done then .cueHit 0 code 0 else .cueMissed 0 (.status offered.2)) offered.1)))
    (∀ bits, s.cue.rx = .word bits → bits.length = 13 → bits.countP (fun b => b) % 2 = 0 → code ≠ 4095 →
      (∀ i, i < 12 → code.getLsbD i = bits.getD i false) →
      (s.cue.confirm = false →
        finds (.cueWordComplete true) { s with cue := { s.cue with rx := .idle } } false) ∧
      (∀ left, s.cue.confirm = true → s.cue.holding = some { code := code, left := left } →
        finds (.cueWordComplete true) { s with cue := { s.cue with rx := .idle, holding := none } } false)) ∧
    (code = 4095 → s.cue.burst ≠ none →
      finds .pulseCue { s with cue := { s.cue with tone := false, burst := none } } s.cue.legacy)

/-- R112, R142 to R145: what each cue action asks of its owner. HOLD, RESUME, LIGHT, GAIN, DUCK and NOTIFY are taken at
once; TAPE PAUSE only in PLAYING; a RELAY only into an empty Origination Slot of an ACTIVE port. STEP, GOTO and PROFILE
are the requests of those names with the source CUE. The model's choices here: log 4 (a hold takes back a dwell expiry
found and not yet taken). -/
def Obligations.CueActionsReachTheirOwners : Prop :=
  ∀ (n : Nat) (s : State),
    (∀ k, offerAction n (.step k) s = offerStep (.cue n) k s) ∧
    (∀ g, offerAction n (.goto g) s = offerGoto (.cue n) false g s) ∧
    offerAction n .hold s = ({ s with changer := { s.changer with held := true, dwellDue := false } }, .done) ∧
    offerAction n .resume s = ({ s with changer := { s.changer with held := false } }, .done) ∧
    (∀ v, offerAction n (.light v) s = ({ s with lamp := { s.lamp with override := some v } }, .done)) ∧
    (∀ g, offerAction n (.gain g) s = ({ s with tape := { s.tape with base := g, baseRamp := none } }, .done)) ∧
    (∀ on, offerAction n (.duck on) s = ({ s with tape := { s.tape with
      duckOn := on
      duckRamp := some { a := s.tape.duckTerm, b := if on then s.tape.duckDepth else 0, n := 20, k := 0 } } }, .done)) ∧
    (∀ p : Fin 8, s.thermal.profiles[p].valid = true → offerAction n (.profile p.val) s =
      ({ s with thermal := { s.thermal with next := if p = s.thermal.active then none else some p } }, .done)) ∧
    (∀ p : Fin 8, s.thermal.profiles[p].valid = false → offerAction n (.profile p.val) s = (s, .badValue)) ∧
    (s.tape.transport ≠ .noTape → s.tape.transport ≠ .playing → offerAction n .tapePause s = (s, .notNow)) ∧
    (s.tape.transport = .playing → (offerAction n .tapePause s).2 = .done ∧
      (offerAction n .tapePause s).1.tape = { s.tape with transport := .paused, endTimer := none }) ∧
    (∀ dest key arg, ¬(s.bus.slot = none ∧ s.bus.state = .active) →
      offerAction n (.relay dest key arg) s = (s, .notNow)) ∧
    (∀ dest key arg, s.bus.slot = none → s.bus.state = .active →
      let seq := (s.bus.running + 1) % 256
      let f : RemoteFrame := { dest := dest, source := s.bus.address, seq := seq, key := key, rep := false,
                               args := arg.toList }
      offerAction n (.relay dest key arg) s = ({ s with bus := { s.bus with
        running := seq
        slot := some { origin := n, dest := dest, key := key, seq := seq, frame := f.toBytes, phase := .waiting,
                       retries := 0, wait := 500 } } }, .done)) ∧
    (∀ v, offerAction n (.notify v) s = (s, .done))

/-- R130, R131, R134, R146, R147: LEARN ON empties the Learn Buffer as it turns the mode ON from OFF; in ON an accepted
code, of a pulse or of a good word (confirmed, or with confirm pairs off), fills an empty buffer and is lost to a full
one, which makes the mode OVERRUN, where every code is lost; READ LEARN returns the
record and empties the buffer; LEARN OFF turns the mode OFF. The model's choices here: log 11 (the bytes of the
answers). -/
def Obligations.LearnModeParksTheCodes : Prop :=
  ∀ s : State,
    let learned (mode : LearnMode) (buffer : Option LearnRecord) (u : CueUnit) : CueUnit :=
      { u with learn := mode, buffer := buffer }
    (s.link.accepts .learnOn = true →
      (s.cue.learn = .off →
        exec .learnOn s = .next (respond 43 .done [] { s with cue := learned .on none s.cue })) ∧
      (s.cue.learn ≠ .off → exec .learnOn s = .next (respond 43 .done [] s))) ∧
    (s.link.accepts .learnOff = true →
      exec .learnOff s = .next (respond 44 .done [] { s with cue := learned .off none s.cue })) ∧
    (s.link.accepts .readLearn = true → exec .readLearn s = .next
      (respond 45 .done (u8 s.cue.learn.code ++ learnRecordBytes s.cue.buffer)
        { s with cue := { s.cue with buffer := none } })) ∧
    (s.tape.transport = .playing →
      let parks (c : Instr) (code : CueCode) (kind : CodeKind) (ended : CueUnit) : Prop :=
        let record : LearnRecord := { code := code, kind := kind, counter := s.tape.counter, sure := s.tape.sure }
        (s.cue.learn = .on → s.cue.buffer = none → exec c s =
          .next (raise (.learnReady code) { s with cue := learned .on (some record) ended })) ∧
        (s.cue.learn = .on → s.cue.buffer ≠ none → exec c s =
          .next (raise (.learnOverrun code) { s with cue := learned .overrun s.cue.buffer ended })) ∧
        (s.cue.learn = .overrun → exec c s = .next { s with cue := ended })
      (s.cue.burst ≠ none → parks .pulseCue 4095 .pulse { s.cue with tone := false, burst := none }) ∧
      (∀ (code : CueCode) bits, s.cue.rx = .word bits → bits.length = 13 → bits.countP (fun b => b) % 2 = 0 →
        code ≠ 4095 → (∀ i, i < 12 → code.getLsbD i = bits.getD i false) →
        (s.cue.confirm = false → parks (.cueWordComplete true) code .coded { s.cue with rx := .idle }) ∧
        (∀ left, s.cue.confirm = true → s.cue.holding = some { code := code, left := left } →
          parks (.cueWordComplete true) code .coded { s.cue with rx := .idle, holding := none })))

/-! ### Handsets and remote frames -/

/-- R157, R158, R165 to R167: the pairing window opens for 30 s and closes; SET RIGHTS, BLOCK, UNBLOCK and RETIRE
HANDSET move one entry by its state and leave every other, and refuse an entry number outside 1..8 with BAD_INDEX and
rights outside the list with BAD_VALUE; each second an entry that is not EMPTY grows quieter, and an
ACTIVE one lapses at 1800. The model's choices here: log 11 (the bytes of the answers). -/
def Obligations.TheHandsetTableIsKept : Prop :=
  ∀ s : State,
    let window (w : Option PairingWindow) : State := { s with remote := { s.remote with window := w } }
    (∀ v, s.link.accepts (.openPairing v) = true →
      (∀ r : Rights, r.code = v →
        exec (.openPairing v) s = .next (respond 47 .done [] (window (some { rights := r, left := 30000 })))) ∧
      (2 < v → exec (.openPairing v) s = .next (respond 47 .badValue [] s))) ∧
    (s.link.accepts .closePairing = true → exec .closePairing s = .next (respond 48 .done [] (window none))) ∧
    exec .pairingWindowExpiry s = .next (window none) ∧
    (∀ n, n = 0 ∨ 8 < n →
      let outside (c : Instr) (code : Nat) : Prop :=
        s.link.accepts c = true → exec c s = .next (respond code .badIndex [] s)
      (∀ v, outside (.setRights n v) 50) ∧ outside (.blockHandset n) 51 ∧ outside (.unblockHandset n) 52 ∧
      outside (.retireHandset n) 53) ∧
    (∀ n v, s.link.accepts (.setRights n v) = true → 1 ≤ n ∧ n ≤ 8 → 2 < v →
      exec (.setRights n v) s = .next (respond 50 .badValue [] s)) ∧
    (∀ n, 1 ≤ n ∧ n ≤ 8 →
      let h := s.remote.handset n
      let becomes (c : Instr) (code : Nat) (payload : List Byte) (new : Handset) : Prop := ∃ t : State,
        exec c s = .next (respond code .done payload t) ∧
        t = { s with remote := { s.remote with handsets := t.remote.handsets } } ∧ t.remote.handset n = new ∧
        ∀ m, m ≠ n → t.remote.handset m = s.remote.handset m
      let notNow (c : Instr) (code : Nat) : Prop := exec c s = .next (respond code .notNow [] s)
      (∀ r : Rights, s.link.accepts (.setRights n r.code) = true →
        (h.state = .empty → notNow (.setRights n r.code) 50) ∧
        (h.state ≠ .empty →
          becomes (.setRights n r.code) 50 (handsetBytes n { h with rights := r }) { h with rights := r })) ∧
      (s.link.accepts (.blockHandset n) = true →
        (h.state = .empty → notNow (.blockHandset n) 51) ∧
        (h.state ≠ .empty → becomes (.blockHandset n) 51 [] { h with state := .blocked })) ∧
      (s.link.accepts (.unblockHandset n) = true →
        (h.state ≠ .blocked → notNow (.unblockHandset n) 52) ∧
        (h.state = .blocked → becomes (.unblockHandset n) 52 [] { h with state := .active, quiet := 0 })) ∧
      (s.link.accepts (.retireHandset n) = true → becomes (.retireHandset n) 53 [] Handset.blank)) ∧
    (∃ t : State, exec .quietTimeStep s = .next t ∧
      t = { s with remote := { s.remote with handsets := t.remote.handsets } } ∧
      ∀ n, 1 ≤ n ∧ n ≤ 8 →
        let h := s.remote.handset n
        let quiet := min 65535 (h.quiet + 1)
        (h.state = .empty → t.remote.handset n = h) ∧
        (h.state = .active → t.remote.handset n =
          { h with quiet := quiet, state := if 1800 ≤ quiet then .lapsed else .active }) ∧
        (h.state = .lapsed ∨ h.state = .blocked → t.remote.handset n = { h with quiet := quiet }))

/-- R153, R154, R170: the IR receiver. A burst of 6 to 10 ms in LEADER is a leader, and no other is; each byte restarts
the gap timer of 20 ms; the destination byte decides, by the address and the groups as they stand, whether the frame is
for this projector; a length byte outside 8..12, a byte without its stop bit, a gap and a new leader each discard the
frame in reception with REMOTE_BAD, after which the new leader is good. The model's choices here: log 13 (a carrier that
appears outside IDLE) and 22. -/
def Obligations.IrFramesAreReceived : Prop :=
  ∀ s : State,
    let rx (r : IrRx) (gap : Option Nat) (t : State) : State :=
      { t with remote := { t.remote with ir := r, irGap := gap } }
    let discarded (cause : FrameFault) : State := raise (.remoteBad .ir cause) (rx .idle none s)
    (s.remote.ir = .idle → exec .irCarrierPresent s = .next { s with remote := { s.remote with ir := .leader } }) ∧
    (s.remote.ir ≠ .idle → exec .irCarrierPresent s = .next s) ∧
    (s.remote.ir = .leader →
      (∀ us, 6000 ≤ us → us ≤ 10000 → exec (.irLeaderEnd us) s = .next (rx (.bytes [] false) (some 20) s)) ∧
      (∀ us, us < 6000 ∨ 10000 < us → exec (.irLeaderEnd us) s = .next (rx .idle none s)) ∧
      exec .irLeaderTooLong s = .next (rx .idle none s)) ∧
    (∀ before mine, s.remote.ir = .bytes before mine →
      (∀ b : Byte, before = [] →
        (8 ≤ b.toNat → b.toNat ≤ 12 → exec (.irByteComplete b) s = .next (rx (.bytes [b] mine) (some 20) s)) ∧
        (b.toNat < 8 ∨ 12 < b.toNat → exec (.irByteComplete b) s = .next (discarded .length))) ∧
      (∀ (b first : Byte), before = [first] → 8 ≤ first.toNat → first.toNat ≤ 12 →
        let here : Prop :=
          b.toNat = 0 ∨ b.toNat = 31 ∨ b.toNat = s.bus.address ∨ s.bus.inGroup b.toNat = true
        (here → exec (.irByteComplete b) s = .next (rx (.bytes [first, b] true) (some 20) s)) ∧
        (¬here → exec (.irByteComplete b) s = .next (rx (.bytes [first, b] false) (some 20) s))) ∧
      (∀ (b first : Byte) rest, before = first :: rest → rest ≠ [] → 8 ≤ first.toNat → first.toNat ≤ 12 →
        before.length < first.toNat →
        exec (.irByteComplete b) s = .next (rx (.bytes (before ++ [b]) mine) (some 20) s)) ∧
      exec (.irFrameError .framing) s = .next (discarded .framing) ∧
      exec (.irFrameError .cut) s = .next (rx (.bytes [] false) (some 20) (discarded .cut)) ∧
      (before = [] → exec (.irFrameError .length) s = .next (discarded .length)) ∧
      exec .irGapTimeout s = .next (discarded .gap))

/-- R154, R155, R157, R159, R160, R170: the last byte of an IR frame completes, and the frame is checked: its sums, a
destination above 31, whether it is for this projector as decided at its destination byte, its form, then its sender. A
handset's frame sets its quiet time to 0 and its new press is acted on with the rights of the entry; a REPEAT acts for
the keys that repeat, a duplicate does not; a BLOCKED or unknown sender is dropped. With the window open a PAIR re-pairs
an ACTIVE or LAPSED sender in its own entry, is refused to a BLOCKED one, and gives an unknown one the lowest EMPTY
entry, or with none the LAPSED entry with the longest quiet time (the lowest among equals), or else is refused as FULL;
with the window closed a known sender's PAIR does nothing more. The model's choices here: log 22. -/
def Obligations.IrFramesAct : Prop :=
  ∀ (s : State) (before : List Byte) (mine : Bool) (last first : Byte) (rest : List Byte),
    s.remote.ir = .bytes before mine → before = first :: rest → 8 ≤ first.toNat → first.toNat ≤ 12 →
    before.length = first.toNat →
    let f := RemoteFrame.ofBytes (before ++ [last])
    let u : State := { s with remote := { s.remote with ir := .idle, irGap := none } }
    let ends (t : State) : Prop := exec (.irFrame last) s = .next t
    let entry (n : Nat) : Handset := s.remote.handset n
    let pairs (n : Nat) (w : PairingWindow) (old : Option Nat) : Prop := ∃ t : State,
      ends (raise (.handsetPaired n f.source w.rights old) t) ∧
      t = { u with remote := { u.remote with window := none, handsets := t.remote.handsets } } ∧
      t.remote.handset n =
        { state := .active, id := some f.source, rights := w.rights, lastSeq := f.seq, quiet := 0 } ∧
      ∀ m, m ≠ n → t.remote.handset m = entry m
    (frameGood (before ++ [last]) = false → ends (raise (.remoteBad .ir .check) u)) ∧
    (frameGood (before ++ [last]) = true →
      (31 < f.dest → ends (raise (.remoteBad .ir .format) u)) ∧
      (f.dest ≤ 31 → mine = false → ends u) ∧
      (f.dest ≤ 31 → mine = true → f.wellFormed = false → ends (raise (.remoteBad .ir .format) u)) ∧
      (f.dest ≤ 31 → mine = true → f.wellFormed = true →
        (f.key = 18 ∨ f.key = 19 → ends u) ∧
        (f.key < 18 → (∀ n, 1 ≤ n ∧ n ≤ 8 → (entry n).id ≠ some f.source) →
          (f.key ≠ 17 ∨ s.remote.window = none → ends u) ∧
          (∀ w, f.key = 17 → s.remote.window = some w →
            (∀ n, 1 ≤ n ∧ n ≤ 8 → (entry n).state = .empty → (∀ m, 1 ≤ m → m < n → (entry m).state ≠ .empty) →
              pairs n w none) ∧
            ((∀ m, 1 ≤ m ∧ m ≤ 8 → (entry m).state ≠ .empty) →
              (∀ n, 1 ≤ n ∧ n ≤ 8 → (entry n).state = .lapsed →
                (∀ m, 1 ≤ m ∧ m ≤ 8 → (entry m).state = .lapsed →
                  (entry m).quiet < (entry n).quiet ∨ (entry m).quiet = (entry n).quiet ∧ n ≤ m) →
                pairs n w (entry n).id) ∧
              ((∀ m, 1 ≤ m ∧ m ≤ 8 → (entry m).state ≠ .lapsed) →
                ends (raise (.handsetRefused f.source .full) u))))) ∧
        (∀ n, f.key < 18 → 1 ≤ n ∧ n ≤ 8 → (entry n).id = some f.source →
          (∀ m, 1 ≤ m → m < n → (entry m).id ≠ some f.source) →
          let h := entry n
          (∀ w, f.key = 17 → s.remote.window = some w →
            (h.state = .blocked → ends (raise (.handsetRefused f.source .blocked) u)) ∧
            (h.state = .active ∨ h.state = .lapsed → pairs n w none)) ∧
          (f.key ≠ 17 ∨ s.remote.window = none →
            (h.state = .blocked → ends u) ∧
            (h.state = .active ∨ h.state = .lapsed → ∃ heard : State,
              heard = { u with remote := { u.remote with handsets := heard.remote.handsets } } ∧
              heard.remote.handset n = { h with state := .active, quiet := 0, lastSeq := f.seq } ∧
              (∀ m, m ≠ n → heard.remote.handset m = entry m) ∧
              (f.key = 17 → ends heard) ∧
              (f.key ≠ 17 → h.state = .lapsed ∨ h.lastSeq ≠ f.seq ∨ f.rep = true ∧ 5 ≤ f.key ∧ f.key ≤ 10 →
                ends (actHandsetKey h.rights f heard)) ∧
              (h.state = .active → h.lastSeq = f.seq → f.rep = false ∨ f.key < 5 ∨ 10 < f.key → ends heard))))))

/-- R62, R68, R69, R113, R114, R162, R163: a key allowed by its rights becomes a request to its owner, whose refusal
raises KEY_REFUSED with the status code; one not allowed raises KEY_REFUSED with RIGHTS. NEXT, BACK and GOTO are the
requests STEP +1, STEP −1 and GOTO; HOLD, MUTE and DUCK turn their switch over; LIGHT moves the override by 50 from the
base level and VOL the base by 2. FOCUS IN and OUT run the focus motor for 250 ms, after a pause of 40 ms against a run
the other way, and are ignored in a tray motion or at a closed end switch; PLAY and PAUSE, LAMP ON and LAMP OFF are
the requests of their names. The model's choices here: log 4 (a hold takes back a dwell expiry found and not yet taken)
and 18 (current already flowing as LAMP ON opens the strike window). -/
def Obligations.KeysReachTheirOwners : Prop :=
  ∀ (s : State) (src : Source) (args : List Nat),
    let taken (key : Nat) (t : State) : Prop := offerKey src key args s = (t, .done)
    let refused (key : Nat) (st : Status) : Prop := offerKey src key args s = (s, st)
    (∀ key, (offerKey src key args s).2 = .done → actKey src key args s = (offerKey src key args s).1) ∧
    (∀ key, (offerKey src key args s).2 ≠ .done → actKey src key args s =
      raise (.keyRefused src key (.status (offerKey src key args s).2)) (offerKey src key args s).1) ∧
    (∀ (r : Rights) (f : RemoteFrame), 1 ≤ f.key → f.key ≤ 16 →
      (r = .full ∨ r = .showOnly ∧ f.key ≤ 8 ∨ r = .soundOnly ∧ 9 ≤ f.key ∧ f.key ≤ 14 →
        actHandsetKey r f s = actKey (.handset f.source) f.key f.args s) ∧
      (r = .showOnly ∧ 9 ≤ f.key ∨ r = .soundOnly ∧ (f.key ≤ 8 ∨ 15 ≤ f.key) →
        actHandsetKey r f s = raise (.keyRefused (.handset f.source) f.key .rights) s)) ∧
    offerKey src 1 args s = offerStep src 1 s ∧ offerKey src 2 args s = offerStep src (-1) s ∧
    offerKey src 3 args s = offerGoto src false (args.getD 0 0) s ∧
    (s.changer.held = true → taken 4 { s with changer := { s.changer with held := false } }) ∧
    (s.changer.held = false → taken 4 { s with changer := { s.changer with held := true, dwellDue := false } }) ∧
    taken 5 { s with lamp := { s.lamp with override := some (min 1000 (baseLevel s + 50)) } } ∧
    taken 6 { s with lamp := { s.lamp with override := some (baseLevel s - 50) } } ∧
    (∀ key dir, key = 7 ∧ dir = FocusDir.inward ∨ key = 8 ∧ dir = FocusDir.outward →
      let runs (focus : Focus) (timer : Option Nat) : Prop :=
        taken key { s with drive := { s.drive with focus := focus, focusTimer := timer } }
      (s.drive.trayMotion = true ∨ s.drive.endClosed dir = true → taken key s) ∧
      (s.drive.trayMotion = false → s.drive.endClosed dir = false →
        (s.drive.focus = .stopped → runs (.running dir .key) (some 250)) ∧
        (∀ old run, s.drive.focus = .running old run →
          (old = dir → runs (.running dir .key) (some 250)) ∧ (old ≠ dir → runs (.pausing dir .key) (some 40))) ∧
        (∀ old run, s.drive.focus = .pausing old run → runs (.pausing dir .key) s.drive.focusTimer))) ∧
    taken 9 { s with tape := { s.tape with base := s.tape.base - 2, baseRamp := none } } ∧
    taken 10 { s with tape := { s.tape with base := min 120 (s.tape.base + 2), baseRamp := none } } ∧
    taken 11 { s with tape := { s.tape with mute := !s.tape.mute } } ∧
    taken 12 { s with tape := { s.tape with
      duckOn := !s.tape.duckOn
      duckRamp := some
        { a := s.tape.duckTerm, b := if s.tape.duckOn then 0 else s.tape.duckDepth, n := 20, k := 0 } } } ∧
    (s.tape.transport = .noTape → refused 13 .noTape ∧ refused 14 .noTape) ∧
    (s.tape.transport = .paused ∨ s.tape.transport = .stopped ∧ s.tape.runDown = none → taken 13 { s with
      cue := { s.cue with rx := .idle, burst := if s.cue.tone then some 0 else none }
      tape := { s.tape with transport := .playing, runDown := none, endTimer := some 1000, reelTimer := none } }) ∧
    (∀ d, s.tape.transport = .stopped → s.tape.runDown = some d →
      taken 13 { s with tape := { s.tape with runDown := some { d with next := .playing } } }) ∧
    (s.tape.transport = .playing ∨ s.tape.transport.winding = true → refused 13 .notNow) ∧
    (s.tape.transport = .playing → taken 14 { s with
      cue := { s.cue with rx := .idle, holding := none, burst := none }
      tape := { s.tape with transport := .paused, endTimer := none } }) ∧
    (s.tape.transport ≠ .noTape → s.tape.transport ≠ .playing → refused 14 .notNow) ∧
    (s.lamp.state = .off →
      (s.lamp.checkDone = true → s.lamp.bandView ≠ .trip → taken 15 { s with
        lamp := if s.lamp.flowing then
            { s.lamp with state := .warming, attempts := 1, window := none, nextStrike := none, warmUp := 45000,
                          lossTimer := none }
          else { s.lamp with state := .striking, attempts := 1, window := some 2000, nextStrike := some 5000 }
        thermal := { s.thermal with duty := max s.thermal.duty s.thermal.profile.floor } }) ∧
      (s.lamp.checkDone = false ∨ s.lamp.bandView = .trip → refused 15 .notNow)) ∧
    (s.lamp.state = .cooldown → refused 15 .notNow) ∧ (s.lamp.state = .failed → refused 15 .lampFailed) ∧
    (s.lamp.active = true →
      taken 15 s ∧
      taken 16 { s with
        lamp := { s.lamp with
          state := .cooldown, dest := .off, window := none, nextStrike := none, warmUp := 0, lossTimer := none
          coolDown := s.thermal.profile.coolTime * 1000 }
        thermal := { s.thermal with duty := 1000 } }) ∧
    (s.lamp.active = false → taken 16 s)

/-! ### The wired bus -/

/-- R170, R176, R178, R180: SET ADDRESS replaces address and groups together; SEND FRAME puts one frame, with the next
running count, or for a REPEAT the present one, in an empty slot of an ACTIVE port; PORT ABORT empties the slot and
answers whether it held a frame; PORT RESTART sets the counter and the run to 0 and the port ACTIVE. The model's
choices here: log 11 (the bytes of the answers), 12 and 24 (a stop at once). -/
def Obligations.PortRequests : Prop :=
  ∀ s : State,
    (∀ (a : Nat) (gs : List Nat), s.link.accepts (.setAddress a gs) = true →
      let good : Prop := 1 ≤ a ∧ a ≤ 23 ∧ ∀ g ∈ gs, 24 ≤ g ∧ g ≤ 30
      (good → ∃ t : State, exec (.setAddress a gs) s = .next (respond 54 .done (addressBytes t.bus) t) ∧
        t = { s with bus := { s.bus with address := a, groups := t.bus.groups } } ∧
        ∀ g, t.bus.inGroup g = true ↔ g ∈ gs) ∧
      (¬good → exec (.setAddress a gs) s = .next (respond 54 .badValue [] s))) ∧
    (∀ (dest key : Nat) (args : List Nat) (rep : Nat), s.link.accepts (.sendFrame dest key args rep) = true →
      let good : Prop := 1 ≤ dest ∧ dest ≤ 31 ∧ 1 ≤ key ∧ key ≤ 18 ∧ key ≠ 17 ∧
        args.length = (if key = 3 then 1 else 0) ∧ rep ≤ 1
      (¬good → exec (.sendFrame dest key args rep) s = .next (respond 55 .badValue [] s)) ∧
      (good → s.bus.slot ≠ none ∨ s.bus.state ≠ .active →
        exec (.sendFrame dest key args rep) s = .next (respond 55 .notNow [] s)) ∧
      (good → s.bus.slot = none → s.bus.state = .active →
        let seq := if rep = 1 then s.bus.running else (s.bus.running + 1) % 256
        let f : RemoteFrame :=
          { dest := dest, source := s.bus.address, seq := seq, key := key, rep := rep == 1, args := args }
        exec (.sendFrame dest key args rep) s = .next (respond 55 .done [] { s with bus := { s.bus with
          running := seq
          slot := some { origin := 0, dest := dest, key := key, seq := seq, frame := f.toBytes, phase := .waiting,
                         retries := 0, wait := 500 } } }))) ∧
    (s.link.accepts .portAbort = true →
      (s.bus.slot = none → exec .portAbort s = .next (respond 56 .done [0] s)) ∧
      (∀ o, s.bus.slot = some o → exec .portAbort s = .next (respond 56 .done [1] { s with bus := { s.bus with
        slot := none, rxOut := if o.phase = .sending then .tail else s.bus.rxOut } }))) ∧
    (s.link.accepts .portRestart = true →
      let fresh : State := { s with bus := { s.bus with errors := 0, goodRun := 0, state := .active } }
      (s.bus.state = .active → exec .portRestart s = .next (respond 57 .done [] fresh)) ∧
      (s.bus.state ≠ .active →
        exec .portRestart s = .next (respond 57 .done [] (raise (.portState .active 0) fresh))))

/-- R160, R161, R170 to R175, R177, R179, R180: receiving on a port that does not transmit and whose state the frame's
end does not move. A byte in QUIET is a length byte, held for its forward; the destination byte on IN decides whether
the frame is consumed and forwarded, and on OUT every frame goes upstream, but in SILENT nothing is forwarded; what
the other port is sending gives way to the forward, and what only waits there goes on waiting; later bytes are taken
and sent on. A frame that ends bad, by LENGTH, FRAMING, GAP or CHECK, or consumed and malformed by FORMAT, counts 1
up, is dropped, and is reported by REMOTE_BAD on IN if it was consumed or not yet decided; a good one counts 1 down. A
consumed STATUS to the own address is answered by an ACTIVE port with no answer held. A console's new press acts and
is recorded, a REPEAT acts for the keys that repeat, a duplicate does not. The model's choices here: log 21. -/
def Obligations.BusFramesAreReceived : Prop :=
  ∀ (s : State) (p : Port), s.bus.transmits p = false →
    s.bus.state = .active ∧ s.bus.errors < 95 ∨ s.bus.state = .passive ∧ 65 ≤ s.bus.errors ∧ s.bus.errors < 159 ∨
      s.bus.state = .silent ∧ s.bus.goodRun < 31 →
    let bus (b : Bus) : State := { s with bus := b }
    let unheld (d : Bus) (q : Port) : Bus := if d.fwdFrom q = .holding then d.setFwdFrom q .none else d
    let bad (d : Bus) (rx : BusRx) (named : Bool) (cause : FrameFault) : State :=
      let counted : Bus := { (unheld d p).setRx p rx with errors := min 255 (s.bus.errors + 1), goodRun := 0 }
      if p = .inn ∧ named = true then raise (.remoteBad .bus cause) (bus counted) else bus counted
    (s.bus.rx p = .tail →
      (∀ b, exec (.busByteReceived p b) s = .next s) ∧ exec (.busFrameEnd p none) s = .next s ∧
      exec (.busTailQuiet p) s = .next (bus (s.bus.setRx p .quiet))) ∧
    (s.bus.rx p = .quiet →
      let ended : Bus :=
        if (s.bus.fwdFrom p).isSending then (s.bus.setFwdFrom p .none).setRx (otherPort p) .tail
        else s.bus.setFwdFrom p .none
      (∀ b : Byte, 8 ≤ b.toNat → b.toNat ≤ 12 → exec (.busByteReceived p b) s = .next (bus
        ((if s.bus.state = .silent then ended else ended.setFwdFrom p .holding).setRx p (.frame [b] false)))) ∧
      (∀ b : Byte, b.toNat < 8 ∨ 12 < b.toNat →
        exec (.busByteReceived p b) s = .next (bad ended .tail true .length)) ∧
      exec (.busFrameEnd p none) s = .next (bad ended .tail true .framing)) ∧
    (∀ length consume (b : Byte), s.bus.rx p = .frame [length] consume →
      let decided (t : State) : Prop := exec (.busDestinationDecided p b) s = .next t
      (p = .out →
        let taken : Bus := { s.bus with rxOut := .frame [length, b] false }
        (s.bus.state = .silent → decided (bus (unheld taken .out))) ∧
        (s.bus.state ≠ .silent →
          let sending : Bus := { unheld taken .inn with fwdUp := .sending [length, b] }
          (s.bus.answering = false → decided (bus sending)) ∧
          (s.bus.answering = true → decided (bus { sending with answer := none, rxIn := .tail })))) ∧
      (p = .inn →
        (b.toNat = 0 ∨ 31 < b.toNat → decided (bad s.bus .tail true .format)) ∧
        (1 ≤ b.toNat → b.toNat ≤ 31 →
          let taken : Bus := { s.bus with
            rxIn := .frame [length, b] (b.toNat == s.bus.address || b.toNat == 31 || s.bus.inGroup b.toNat) }
          (b.toNat = s.bus.address ∨ s.bus.state = .silent → decided (bus (unheld taken .inn))) ∧
          (b.toNat ≠ s.bus.address → s.bus.state ≠ .silent →
            let sending : Bus := { unheld taken .out with fwdDown := .sending [length, b] }
            (s.bus.originating = false → decided (bus sending)) ∧
            (∀ o, s.bus.slot = some o → o.phase = .sending →
              (o.retries < 3 → decided (bus { sending with
                slot := some { o with phase := .backoff, retries := o.retries + 1 }, rxOut := .tail })) ∧
              (3 ≤ o.retries → decided (raise (.relayDropped o.origin o.dest o.key .collision)
                (bus { sending with slot := none, rxOut := .tail })))))))) ∧
    (∀ before consume, s.bus.rx p = .frame before consume → 1 ≤ before.length →
      exec (.busGapTimeout p) s = .next (bad s.bus .quiet (consume || before.length == 1) .gap) ∧
      exec (.busFrameEnd p none) s = .next (bad s.bus .tail (consume || before.length == 1) .framing)) ∧
    (∀ before consume (b : Byte), s.bus.rx p = .frame before consume → 2 ≤ before.length →
      let sent : Bus := match s.bus.fwdFrom p with
        | .sending bytes => s.bus.setFwdFrom p (.sending (bytes ++ [b]))
        | .none => s.bus | .holding => s.bus | .abandoned => s.bus
      let ends (t : State) : Prop := exec (.busFrameEnd p (some b)) s = .next t
      let judged : Bus :=
        { sent.setRx p .tail with errors := s.bus.errors - 1, goodRun := min 32 (s.bus.goodRun + 1) }
      let f := RemoteFrame.ofBytes (before ++ [b])
      (frameComplete (before ++ [b]) = false →
        exec (.busByteReceived p b) s = .next (bus (sent.setRx p (.frame (before ++ [b]) consume)))) ∧
      (frameComplete (before ++ [b]) = true →
        (frameGood (before ++ [b]) = false → ends (bad sent .tail consume .check)) ∧
        (frameGood (before ++ [b]) = true →
          (consume = false → ends (bus judged)) ∧
          (consume = true → f.wellFormed = false → ends (bad sent .tail true .format)) ∧
          (consume = true → f.wellFormed = true →
            (f.key = 17 ∨ f.key = 19 → ends (bus judged)) ∧
            (f.key = 18 →
              let answer : RemoteFrame :=
                { dest := 0, source := s.bus.address, seq := f.seq, key := 19, rep := false
                  args := [s.changer.current.getD 0, s.changer.state.code, s.lamp.state.code, s.thermal.band.code] }
              let answers : Prop := f.dest ≤ 23 ∧ s.bus.state = .active ∧ s.bus.answer = none
              (answers → ends (bus { judged with
                answer := some { frame := answer.toBytes, seq := f.seq, sending := false, left := 500 } })) ∧
              (¬answers → ends (bus judged))) ∧
            (f.key < 17 →
              let press : ConsoleRecord := { station := f.source, seq := f.seq }
              let acts (console : Option ConsoleRecord) : State :=
                { actKey (.console f.source) f.key f.args { s with
                    bus := sent.setRx p .tail, remote := { s.remote with console := console } } with bus := judged }
              (s.remote.console ≠ some press → ends (acts (some press))) ∧
              (s.remote.console = some press →
                (f.rep = true → 5 ≤ f.key → f.key ≤ 10 → ends (acts s.remote.console)) ∧
                (f.rep = false ∨ f.key < 5 ∨ 10 < f.key → ends (bus judged))))))))

/-- R173, R175, R177, R179: what an ACTIVE port sends. The waiting frame and the held answer start on a quiet line
without a forward; each ends with its last byte, gives up when its time runs out, and stops at a collision, which
counts 8 up: the frame backs off and is dropped at its fourth failure, the answer and a forward are given up. The
model's choices here: log 21 and 24 (a stop at once). -/
def Obligations.ThePortSends : Prop :=
  ∀ s : State,
    let bus (b : Bus) : State := { s with bus := b }
    (∀ o, s.bus.slot = some o →
      (o.phase = .waiting →
        (s.bus.state = .active → s.bus.rxOut = .quiet → s.bus.fwdDown = .none → exec .originationStart s =
          .next (bus { s.bus with slot := some { o with phase := .sending } })) ∧
        (s.bus.rxOut ≠ .quiet → exec .originationStart s = .next s) ∧
        exec .originationWaitTimeout s = .next (raise (.relayDropped o.origin o.dest o.key .wait)
          (bus { s.bus with slot := none }))) ∧
      (o.phase = .backoff → exec .backoffEnd s =
        .next (bus { s.bus with slot := some { o with phase := .waiting, wait := 500 } })) ∧
      (o.phase = .sending →
        exec .originationDone s = .next (bus { s.bus with slot := none, rxOut := .tail }) ∧
        (s.bus.state = .active → s.bus.errors < 88 → s.bus.fwdDown.isSending = false →
          (o.retries < 3 → exec (.busCollision .out) s = .next (bus { s.bus with
            slot := some { o with phase := .backoff, retries := o.retries + 1 }, rxOut := .tail
            errors := s.bus.errors + 8 })) ∧
          (3 ≤ o.retries → exec (.busCollision .out) s = .next (raise
            (.relayDropped o.origin o.dest o.key .collision)
            (bus { s.bus with slot := none, rxOut := .tail, errors := s.bus.errors + 8 })))))) ∧
    (∀ a, s.bus.answer = some a →
      (a.sending = false →
        (s.bus.state = .active → s.bus.rxIn = .quiet → s.bus.fwdUp = .none → exec .statusAnswerStart s =
          .next (bus { s.bus with answer := some { a with sending := true } })) ∧
        exec .statusAnswerTimeout s = .next (bus { s.bus with answer := none })) ∧
      (a.sending = true →
        exec .statusAnswerDone s = .next (bus { s.bus with answer := none, rxIn := .tail }) ∧
        (s.bus.state = .active → s.bus.errors < 88 → s.bus.fwdUp.isSending = false →
          exec (.busCollision .inn) s = .next (bus { s.bus with
            answer := none, rxIn := .tail, errors := s.bus.errors + 8 })))) ∧
    (∀ p bytes, s.bus.fwdFrom p = .sending bytes → s.bus.state = .active → s.bus.errors < 88 →
      exec (.busCollision (otherPort p)) s = .next (bus
        { (s.bus.setFwdFrom p .abandoned).setRx (otherPort p) .tail with errors := s.bus.errors + 8 })) ∧
    (∀ p bytes, s.bus.fwdFrom p = .sending bytes → s.bus.rx p = .quiet ∨ s.bus.rx p = .tail →
      exec (.busForwardEnd (otherPort p)) s =
        .next (bus ((s.bus.setFwdFrom p .none).setRx (otherPort p) .tail)))

/-- R179, R180: the port state moves with the counter and the run. From ACTIVE a count of 96 makes it PASSIVE, from
PASSIVE a count of 160 SILENT and one below 64 ACTIVE, and from SILENT a run of 32 good frames ACTIVE with the counter
0. Leaving ACTIVE drops the frame in the slot, with RELAY_DROPPED, and the held answer; in SILENT nothing is
transmitted. The model's choices here: log 24 (a stop at once). -/
def Obligations.ErrorsMoveThePortState : Prop :=
  ∀ (s : State) (before : List Byte) (b : Byte), s.bus.rxOut = .frame before false → 2 ≤ before.length →
    s.bus.transmits .out = false →
    let moved (t : State) (new : PortState) (errors : Nat) : Prop :=
      t.bus.state = new ∧ t.bus.errors = errors ∧
      t.link.notices[29] = { arg := some (.portState new errors), mark := true }
    let dropped (t : State) : Prop := t.bus.slot = none ∧ t.bus.answer = none ∧
      ∀ o, s.bus.slot = some o →
        t.link.notices[28] = { arg := some (.relayDropped o.origin o.dest o.key .port), mark := true }
    (s.bus.state = .active → 95 ≤ s.bus.errors → s.bus.errors < 255 → ∃ t : State,
      exec (.busGapTimeout .out) s = .next t ∧ moved t .passive (s.bus.errors + 1) ∧ dropped t) ∧
    (s.bus.state = .passive → 159 ≤ s.bus.errors → s.bus.errors < 255 → ∃ t : State,
      exec (.busGapTimeout .out) s = .next t ∧ moved t .silent (s.bus.errors + 1) ∧ dropped t ∧ t.bus.goodRun = 0 ∧
      ∀ p, t.bus.transmits p = false) ∧
    (s.bus.state = .silent → ∃ t : State, exec (.busGapTimeout .out) s = .next t ∧
      t.bus.state = .silent ∧ t.bus.errors = min 255 (s.bus.errors + 1) ∧ t.bus.goodRun = 0) ∧
    (frameComplete (before ++ [b]) = true → frameGood (before ++ [b]) = true →
      (s.bus.state = .passive → s.bus.errors = 64 → ∃ t : State,
        exec (.busFrameEnd .out (some b)) s = .next t ∧ moved t .active 63) ∧
      (s.bus.state = .silent → 31 ≤ s.bus.goodRun → ∃ t : State,
        exec (.busFrameEnd .out (some b)) s = .next t ∧ moved t .active 0 ∧ t.bus.goodRun = 0) ∧
      (s.bus.state = .silent → s.bus.goodRun < 31 → ∃ t : State,
        exec (.busFrameEnd .out (some b)) s = .next t ∧ t.bus.state = .silent ∧
        t.bus.goodRun = s.bus.goodRun + 1 ∧ t.bus.errors = s.bus.errors - 1))

/-! ### The Panel Link -/

/-- R187 to R190: raising a notice makes its kind pending with the latest argument; READ NOTICES answers with the
pending set and latches it; CLEAR NOTICES empties the latched places whose notice was not raised again since, and no
other, answers with their count, and forgets the latch. ATTN stands while a pending kind is enabled. -/
def Obligations.NoticesAreLatchedAndCleared : Prop :=
  ∀ s : State,
    (∀ n : Notice, (raise n s).link.notices[n.place] = { arg := some n, mark := true } ∧
      (∀ i : Fin 30, i ≠ n.place → (raise n s).link.notices[i] = s.link.notices[i]) ∧
      raise n s = { s with link := { s.link with notices := (raise n s).link.notices } }) ∧
    (s.link.accepts .readNotices = true → ∃ (t : State) (set : Vector Bool 30),
      exec .readNotices s = .next (respond 60 .done (set.toList.flatMap flag) t) ∧
      t = { s with link := { s.link with notices := t.link.notices, latched := some set } } ∧
      ∀ i : Fin 30, set[i] = s.link.notices[i].arg.isSome ∧
        t.link.notices[i] = { s.link.notices[i] with mark := false }) ∧
    (s.link.accepts .clearNotices = true → ∃ (t : State) (gone : Vector Bool 30),
      exec .clearNotices s = .next (respond 62 .done (u8 (gone.toList.countP fun b => b)) t) ∧
      t = { s with link := { s.link with notices := t.link.notices, latched := none } } ∧
      ∀ i : Fin 30,
        (gone[i] = true ↔ (∃ set, s.link.latched = some set ∧ set[i] = true) ∧
          s.link.notices[i].arg ≠ none ∧ s.link.notices[i].mark = false) ∧
        t.link.notices[i] = if gone[i] then { arg := none, mark := false } else s.link.notices[i]) ∧
    (s.link.attn = true ↔
      s.link.resetPin = false ∧ ∃ i : Fin 30, s.link.notices[i].arg ≠ none ∧ s.link.mask[i] = true)

/-- R183, R184, R186, R191: chip-select periods. The part shifts out its status, then 0, or BUSY alone while the RESET
pin is held. A POLL changes nothing else. A REQUEST frame is taken in READY alone, and one cut short is ignored; a
complete one is held against the link's checks: L 3..62, the two sums of R152, the code 1..63 and the count of
arguments its code calls for (that of SEND FRAME, code 55, is left to its owner). One that passes makes the link BUSY
with it, and one that fails is answered BAD_REQUEST at once. A FETCH in RESPONSE carries the response, and one long
enough for all of it frees the link; in READY and BUSY it is a POLL. The model's choices here: log 2 (one exchange
split into the frame and the request), log 11 (the counts of arguments without a layout) and log 28 (bytes beyond the
64th). -/
def Obligations.PeriodsCarryFrames : Prop :=
  ∀ s : State,
    let shows (out : List Byte) : State := { s with link := { s.link with shifted := out } }
    let plain (len : Nat) : State := shows
      (if s.link.resetPin then List.replicate len 1
       else (u8 s.link.status.code ++ List.replicate (len - 1) 0).take len)
    LinkStatus.ready.code = 0 ∧ LinkStatus.busy.code = 1 ∧ LinkStatus.response.code = 2 ∧
    (∀ kind len, exec (.pollPeriod kind len) s = .next (plain len)) ∧
    (∀ bytes : List Byte,
      let frame := (bytes.take 64).drop 1
      let l := (frame.getD 0 0).toNat
      let code := (frame.getD 1 0).toNat
      let add (x y : Nat) : Nat := if 255 < x + y then x + y - 255 else x + y
      let sums := (frame.take (l - 1)).foldl
        (fun (ab : Nat × Nat) (x : Byte) => (add ab.1 x.toNat, add ab.2 (add ab.1 x.toNat))) (0, 0)
      let counts := [24, 25, 2, 1, 0, 6, 1, 1, 0, 0, 0, 0, 0, 2, 0, 0, 0, 2, 5, 0, 6, 0, 46, 1, 1, 0, 0, 0, 0, 1, 2, 1,
        2, 1, 0, 4, 9, 19, 1, 1, 1, 1, 0, 0, 0, 0, 1, 0, 1, 2, 1, 1, 1, 8, 0, 0, 0, 0, 30, 0, 1, 0, 0]
      let good : Prop := 3 ≤ l ∧ l ≤ 62 ∧ sums = ((frame.getD (l - 1) 0).toNat, (frame.getD l 0).toNat) ∧
        1 ≤ code ∧ code ≤ 63 ∧ (code = 55 ∨ l - 3 = counts.getD (code - 1) 0)
      let out := plain bytes.length
      let period (t : State) : Prop := exec (.requestFrame bytes) s = .next t
      (s.link.status ≠ .ready ∨ s.link.resetPin = true ∨ frame.length ≤ l → period out) ∧
      (s.link.status = .ready → s.link.resetPin = false → l < frame.length →
        (good → period { out with link := { out.link with status := .busy, reqBuf := frame.take (l + 1) } }) ∧
        (¬good → period (respond (if l = 0 then 0 else code) .badRequest [] out)))) ∧
    (∀ len,
      let period (t : State) : Prop := exec (.fetch len) s = .next t
      (s.link.resetPin = true ∨ s.link.status ≠ .response → period (plain len)) ∧
      (s.link.resetPin = false → s.link.status = .response →
        (s.link.respBuf.length + 1 ≤ min len 64 → period { s with link := { s.link with
          status := .ready, respBuf := []
          shifted := 2 :: s.link.respBuf ++ List.replicate (len - s.link.respBuf.length - 1) 0 } }) ∧
        (min len 64 < s.link.respBuf.length + 1 → period (shows
          ((2 :: s.link.respBuf).take (min len 64) ++ List.replicate (len - 64) 0)))))

/-- R17, R18, R47, R66, R85, R86, R109, R110, R126, R127, R149, R150, R168, R169, R182, R191, R192: the two resets.
RESET completes in every state of every block: it keeps what the host has written, ends what is under way, and leaves
the tray and the gate to be read anew. The RESET pin is held with all else as it stands; and its release gives every
block the power-on values written out here, but for the inputs, the waiting commands and a brake that a driving bridge
begins. The model's choices here: log 4 (its own field dwellDue), log 5 (inputs and two internal values), log 23
(blocks go on while the pin is held), log 24 (a stop of the port at once) and log 25 (the delivered light and its sum
at RESET). -/
def Obligations.ResetsRestoreTheMachine : Prop :=
  ∀ s : State,
    let drives : Bool := s.drive.bridge.drives
    let bridge : Bridge := if s.drive.bridge = .off then .off else .brake
    let brakeTimer : Option Nat := if drives then some 40 else s.drive.brakeTimer
    let lamp : Lamp :=
      if s.lamp.active then
        { s.lamp with state := .cooldown, dest := .off, window := none, nextStrike := none, warmUp := 0
                      lossTimer := none, coolDown := s.thermal.profile.coolTime * 1000 }
      else s.lamp
    let tape : Tape := match s.tape.transport with
      | .noTape => s.tape
      | .stopped => { s.tape with runDown := s.tape.runDown.map fun d => { d with next := .none } }
      | .playing | .paused =>
        { s.tape with transport := .stopped, runDown := none, endTimer := none, reelTimer := none }
      | .windingFwd | .windingBack =>
        { s.tape with transport := .stopped, runDown := some { left := 300, next := .none }
                      endTimer := none, reelTimer := none }
    (s.link.accepts .reset = true → exec .reset s = .next (respond 63 .done [] { s with
      changer := { s.changer with
        slots := s.changer.slots.map fun r => { r with occupancy := .unknown }
        tray := none, homed := false, current := none, state := .noTray, held := false, dwell := 0
        dwellDue := false, loops := [], run := 0, queue := [], change := none, keptLoop := .none }
      drive := { s.drive with
        position := 0, revolutions := 0, lastDrive := none, motion := .none, backingOff := false, backTally := 0
        stalls := 0, corrections := 0, budget := 0, lifterDrive := .off, lifterTimer := none, settleTimer := none
        gate := false, focus := .stopped, focusTimer := none, bridge := bridge, brakeTimer := brakeTimer
        watchdog := if drives then none else s.drive.watchdog
        afterBrake := if s.drive.bridge = .off then s.drive.afterBrake else .off }
      lamp := { lamp with fade := 0, ramp := none, darkHold := false, override := none, exposure := 0
                          govClass := 0, guard := false }
      thermal := { s.thermal with next := none, duty := if s.lamp.active then 1000 else s.thermal.duty }
      tape := { tape with
        base := (s.tape.baseRamp.map Ramp.b).getD s.tape.base, baseRamp := none
        duckTerm := (s.tape.duckRamp.map Ramp.b).getD s.tape.duckTerm, duckRamp := none }
      cue := { s.cue with
        map := s.cue.map.map fun e => { e with hits := 0 }
        rx := .idle, holding := none, burst := none, learn := .off, buffer := none }
      remote := { s.remote with window := none, ir := .idle, irGap := none, console := none }
      bus := { s.bus with
        slot := none, answer := none, errors := 0, goodRun := 0, state := .active
        rxOut := if s.bus.originating then .tail else s.bus.rxOut
        rxIn := if s.bus.answering then .tail else s.bus.rxIn }
      link := { s.link with notices := Vector.replicate 30 { arg := none, mark := false }, latched := none } })) ∧
    exec .resetPinAssert s = .next { s with link := { s.link with resetPin := true } } ∧
    (let blank : Profile :=
        { valid := false, c := #v[0, 0, 0, 0, 0, 0, 0, 0], cP := 0, cF := 0, q := 0, tset := 0, k := 0, floor := 0
          slew := 0, w := 0, h := 0, x := 0, warmCap := 0, hotCap := 0, coolTime := 0, coolLimit := 0, guardLevel := 0 }
      let zeroth : Profile :=
        { valid := true, c := #v[8192, 4096, 2048, 1024, 512, 256, 128, 128], cP := 3277, cF := -1638, q := 14
          tset := 880, k := 96, floor := 250, slew := 100, w := 1040, h := 1200, x := 1360, warmCap := 700
          hotCap := 300, coolTime := 120, coolLimit := 560, guardLevel := 150 }
      let drive : Drive :=
        { position := 0, revolutions := 0, bridge := .off, lastDrive := none, motion := .none, backingOff := false
          backTally := 0, afterBrake := .off, stalls := 0, corrections := 0, budget := 0, watchdog := none
          brakeTimer := none, swUp := false, swDown := false, lifterDrive := .off, lifterTimer := none
          settleTimer := none, gate := false, focus := .stopped, focusTimer := none, endIn := false, endOut := false }
      let lamp : Lamp :=
        { state := .off, dest := .off, attempts := 0, window := none, nextStrike := none, warmUp := 0, coolDown := 0
          lossTimer := none, flowing := false, checkDone := false, bandView := .normal, coolFlag := false, fade := 0
          ramp := none, darkHold := false, override := none, appliedCap := 1000, delivered := 0, lightSum := 0
          ticks := 0, exposure := 0, govClass := 0, guard := false, limits := #v[240000, 480000, 1200000] }
      let cue : CueUnit :=
        { rx := .idle, holding := none, burst := none, tone := false
          map := Vector.replicate 32
            { state := .free, code := 0, selector := .exact, action := none, single := false, tapeWindow := none
              slotWindow := none, hits := 0 }
          maskGlobal := 0xFFF, maskA := 0xFFF, maskB := 0xFFF, confirm := true, legacy := true, learn := .off
          buffer := none }
      let fresh : State :=
        { changer :=
            { slots := Vector.replicate 140
                { programmed := false, occupancy := .unknown, dwell := 0, fadeOut := 50, fadeIn := 50, light := 1000
                  cls := 0, sound := none, tapeMark := .none, hold := false, loop := .none }
              tray := none, homed := false, current := none, state := .noTray, held := false, dwell := 0
              dwellDue := false, loops := [], run := 0, skipEmpty := true, skipBlank := false, wrap := true
              queue := [], change := none, keptLoop := .none }
          drive := drive
          lamp := lamp
          thermal :=
            { cal := { offset := 0, gain := 2000, zero := -160 }, sample := none, handover := none, line := none
              est := 0, profiles := #v[zeroth, blank, blank, blank, blank, blank, blank, blank], active := 0
              next := none, band := .normal, namedCap := 1000, duty := 1000, sensor := .good, fan := .good 0
              tachInterval := none, tachSilence := 101, saturated := false, count := 0
              snapshot :=
                { raw := 0, corrected := 0, theta := 0, est := 0, band := .normal, namedCap := 1000, duty := 1000
                  demand := 0, speed := none, active := 0, next := none, saturated := false, sensor := .good
                  fan := .good 0, line := none, count := 0 } }
          tape :=
            { transport := .noTape, runDown := none, counter := 0, sure := false, residue := 0, endTimer := none
              reelTimer := none, base := 0, baseRamp := none, duckOn := false, duckDepth := 20, duckTerm := 0
              duckRamp := none, mute := true, output := none }
          cue := cue
          remote :=
            { handsets := Vector.replicate 8
                { state := .empty, id := none, rights := .full, lastSeq := 0, quiet := 0 }
              window := none, ir := .idle, irGap := none, console := none }
          bus :=
            { address := 1, groups := Vector.replicate 7 false, rxIn := .tail, rxOut := .tail, fwdDown := .none
              fwdUp := .none, answer := none, slot := none, running := 0, errors := 0, goodRun := 0, state := .active }
          link :=
            { status := .ready, reqBuf := [], respBuf := [], shifted := []
              notices := Vector.replicate 30 { arg := none, mark := false }, mask := Vector.replicate 30 true
              latched := none, resetPin := false }
          pending := [] }
      State.reset = fresh ∧
      exec .powerOnReset s = .next { fresh with
        drive := { drive with
          swUp := s.drive.swUp, swDown := s.drive.swDown, endIn := s.drive.endIn, endOut := s.drive.endOut
          bridge := bridge, brakeTimer := brakeTimer }
        lamp := { lamp with flowing := s.lamp.flowing }
        cue := { cue with tone := s.cue.tone }
        pending := s.pending })

/-! ### Laws that every step keeps -/

/-- R10, R22, R44, R52, R53, R56, R58: from every state that meets it, whatever the command, a step keeps the law of
the change cycle and of the drive that carries it out: among others, the tray motor turns only with the lifter UP and
the focus motor stopped, the lifter is not driven while it turns, every motion stands in the state that ordered it, the
target and the current slot lie on the tray, and the queue holds at most four lawful entries. -/
def Obligations.CycleLawIsKept : Prop :=
  ∀ s t : State, CycleLaw s → step s = .next t → CycleLaw t

/-- R1, R44, R121, R135: every step keeps the ranges of the Slot Table and the Cue Map; with them those of the
program-sound values; and with the law of the change cycle those of the Loop Stack. -/
def Obligations.TablesStayInRange : Prop :=
  ∀ s t : State, step s = .next t →
    (SlotLaw s → SlotLaw t) ∧ (CueStoreLaw s → CueStoreLaw t) ∧
    (SlotLaw s → CueStoreLaw s → SoundLaw s → SoundLaw t) ∧
    (CycleLaw s → SlotLaw s → LoopLaw s → LoopLaw t)

/-- R49, R52: every step keeps the position counter in its range, 0 with no tray, and takes the tray motor bridge from
neither drive direction straight into the other. The bridge's lines are those of R52's table, at most one side on in
each leg; and what they show as a step changes the bridge, first without the sides the new state does not use, then
with those it adds, never has both sides of a leg on. -/
def Obligations.TheTrayNeverReversesAtOnce : Prop :=
  Bridge.off.lines = { lhi := false, llo := false, rhi := false, rlo := false } ∧
  Bridge.forward.lines = { lhi := true, llo := false, rhi := false, rlo := true } ∧
  Bridge.backward.lines = { lhi := false, llo := true, rhi := true, rlo := false } ∧
  Bridge.brake.lines = { lhi := false, llo := true, rhi := false, rlo := true } ∧
  ∀ s t : State, step s = .next t →
    (PositionLaw s → PositionLaw t) ∧
    ¬(s.drive.bridge = .forward ∧ t.drive.bridge = .backward) ∧
    ¬(s.drive.bridge = .backward ∧ t.drive.bridge = .forward) ∧
    ∃ first : BridgeLines, s.drive.bridge.switching t.drive.bridge = [first, t.drive.bridge.lines] ∧
      (first.lhi = true ↔ s.drive.bridge.lines.lhi = true ∧ t.drive.bridge.lines.lhi = true) ∧
      (first.llo = true ↔ s.drive.bridge.lines.llo = true ∧ t.drive.bridge.lines.llo = true) ∧
      (first.rhi = true ↔ s.drive.bridge.lines.rhi = true ∧ t.drive.bridge.lines.rhi = true) ∧
      (first.rlo = true ↔ s.drive.bridge.lines.rlo = true ∧ t.drive.bridge.lines.rlo = true) ∧
      first.legsApart = true ∧ t.drive.bridge.lines.legsApart = true

/-- R67, R70, R76, R81, R95, R105: every step keeps the lamp's timers within their states, the band view the band, the
lamp out in TRIP, the light and the exposure account in range, the estimate in the temperature range, and the fan at
the active profile's floor at least while the lamp is not OFF. -/
def Obligations.LampAndThermalLawsAreKept : Prop :=
  ∀ s t : State, step s = .next t →
    (LampTimerLaw s → LampTimerLaw t) ∧ (TripLaw s → TripLaw t) ∧ (LightLaw s → LightLaw t) ∧
    (ExposureLaw s → ExposureLaw t) ∧ (FanLaw s → FanLaw t) ∧ (EstimateLaw s → EstimateLaw t)

/-- R111, R117, R128, R135, R156, R171, R173, R179, R180, R183, R187: every step keeps the transport's timers within
their states, the cue receiver at rest behind a closed gate, no two ARMED entries alike, no handset in two entries, a
SILENT port quiet and a PASSIVE one from originating, a length byte held for a forward only while its own port receives
that frame, the error counter in agreement with the port state, and the link's buffers and notice places as their rules
give them. -/
def Obligations.PortAndTableLawsAreKept : Prop :=
  ∀ s t : State, step s = .next t →
    (TransportLaw s → TransportLaw t) ∧ (GateLaw s → GateLaw t) ∧ (CueMapLaw s → CueMapLaw t) ∧
    (HandsetLaw s → HandsetLaw t) ∧ (PortLaw s → PortLaw t) ∧ (HoldLaw s → HoldLaw t) ∧
    (CounterLaw s → CounterLaw t) ∧ (LinkLaw s → LinkLaw t) ∧ (NoticeLaw s → NoticeLaw t)

/-- The machine right after power-on reset meets every law that the steps keep. -/
def Obligations.ResetMeetsEveryLaw : Prop :=
  let s := State.reset
  (CycleLaw s ∧ SlotLaw s ∧ CueStoreLaw s ∧ SoundLaw s ∧ LoopLaw s ∧ PositionLaw s) ∧
  (LampTimerLaw s ∧ TripLaw s ∧ LightLaw s ∧ ExposureLaw s ∧ FanLaw s ∧ EstimateLaw s) ∧
  TransportLaw s ∧ GateLaw s ∧ CueMapLaw s ∧ HandsetLaw s ∧ PortLaw s ∧ HoldLaw s ∧ CounterLaw s ∧ LinkLaw s ∧
  NoticeLaw s
end

