-- ==== Sys2Proof/Laws/State.lean ====
section
/-! SUPPORT. The field lemmas of the named updates, each true by rfl: what an update sets and what it leaves, so that no
later proof unfolds a record update. -/

namespace Sys2Proof.Machine

/-! ### The updates of one block -/

@[simp] theorem State.onChanger_changer (f : Changer → Changer) (s : State) : (s.onChanger f).changer = f s.changer := rfl
@[simp] theorem State.onChanger_drive (f : Changer → Changer) (s : State) : (s.onChanger f).drive = s.drive := rfl
@[simp] theorem State.onChanger_lamp (f : Changer → Changer) (s : State) : (s.onChanger f).lamp = s.lamp := rfl
@[simp] theorem State.onChanger_thermal (f : Changer → Changer) (s : State) : (s.onChanger f).thermal = s.thermal := rfl
@[simp] theorem State.onChanger_tape (f : Changer → Changer) (s : State) : (s.onChanger f).tape = s.tape := rfl
@[simp] theorem State.onChanger_cue (f : Changer → Changer) (s : State) : (s.onChanger f).cue = s.cue := rfl
@[simp] theorem State.onChanger_remote (f : Changer → Changer) (s : State) : (s.onChanger f).remote = s.remote := rfl
@[simp] theorem State.onChanger_bus (f : Changer → Changer) (s : State) : (s.onChanger f).bus = s.bus := rfl
@[simp] theorem State.onChanger_link (f : Changer → Changer) (s : State) : (s.onChanger f).link = s.link := rfl
@[simp] theorem State.onChanger_pending (f : Changer → Changer) (s : State) : (s.onChanger f).pending = s.pending := rfl

@[simp] theorem State.onDrive_changer (f : Drive → Drive) (s : State) : (s.onDrive f).changer = s.changer := rfl
@[simp] theorem State.onDrive_drive (f : Drive → Drive) (s : State) : (s.onDrive f).drive = f s.drive := rfl
@[simp] theorem State.onDrive_lamp (f : Drive → Drive) (s : State) : (s.onDrive f).lamp = s.lamp := rfl
@[simp] theorem State.onDrive_thermal (f : Drive → Drive) (s : State) : (s.onDrive f).thermal = s.thermal := rfl
@[simp] theorem State.onDrive_tape (f : Drive → Drive) (s : State) : (s.onDrive f).tape = s.tape := rfl
@[simp] theorem State.onDrive_cue (f : Drive → Drive) (s : State) : (s.onDrive f).cue = s.cue := rfl
@[simp] theorem State.onDrive_remote (f : Drive → Drive) (s : State) : (s.onDrive f).remote = s.remote := rfl
@[simp] theorem State.onDrive_bus (f : Drive → Drive) (s : State) : (s.onDrive f).bus = s.bus := rfl
@[simp] theorem State.onDrive_link (f : Drive → Drive) (s : State) : (s.onDrive f).link = s.link := rfl
@[simp] theorem State.onDrive_pending (f : Drive → Drive) (s : State) : (s.onDrive f).pending = s.pending := rfl

@[simp] theorem State.onLamp_changer (f : Lamp → Lamp) (s : State) : (s.onLamp f).changer = s.changer := rfl
@[simp] theorem State.onLamp_drive (f : Lamp → Lamp) (s : State) : (s.onLamp f).drive = s.drive := rfl
@[simp] theorem State.onLamp_lamp (f : Lamp → Lamp) (s : State) : (s.onLamp f).lamp = f s.lamp := rfl
@[simp] theorem State.onLamp_thermal (f : Lamp → Lamp) (s : State) : (s.onLamp f).thermal = s.thermal := rfl
@[simp] theorem State.onLamp_tape (f : Lamp → Lamp) (s : State) : (s.onLamp f).tape = s.tape := rfl
@[simp] theorem State.onLamp_cue (f : Lamp → Lamp) (s : State) : (s.onLamp f).cue = s.cue := rfl
@[simp] theorem State.onLamp_remote (f : Lamp → Lamp) (s : State) : (s.onLamp f).remote = s.remote := rfl
@[simp] theorem State.onLamp_bus (f : Lamp → Lamp) (s : State) : (s.onLamp f).bus = s.bus := rfl
@[simp] theorem State.onLamp_link (f : Lamp → Lamp) (s : State) : (s.onLamp f).link = s.link := rfl
@[simp] theorem State.onLamp_pending (f : Lamp → Lamp) (s : State) : (s.onLamp f).pending = s.pending := rfl

@[simp] theorem State.onThermal_changer (f : Thermal → Thermal) (s : State) : (s.onThermal f).changer = s.changer := rfl
@[simp] theorem State.onThermal_drive (f : Thermal → Thermal) (s : State) : (s.onThermal f).drive = s.drive := rfl
@[simp] theorem State.onThermal_lamp (f : Thermal → Thermal) (s : State) : (s.onThermal f).lamp = s.lamp := rfl
@[simp] theorem State.onThermal_thermal (f : Thermal → Thermal) (s : State) : (s.onThermal f).thermal = f s.thermal := rfl
@[simp] theorem State.onThermal_tape (f : Thermal → Thermal) (s : State) : (s.onThermal f).tape = s.tape := rfl
@[simp] theorem State.onThermal_cue (f : Thermal → Thermal) (s : State) : (s.onThermal f).cue = s.cue := rfl
@[simp] theorem State.onThermal_remote (f : Thermal → Thermal) (s : State) : (s.onThermal f).remote = s.remote := rfl
@[simp] theorem State.onThermal_bus (f : Thermal → Thermal) (s : State) : (s.onThermal f).bus = s.bus := rfl
@[simp] theorem State.onThermal_link (f : Thermal → Thermal) (s : State) : (s.onThermal f).link = s.link := rfl
@[simp] theorem State.onThermal_pending (f : Thermal → Thermal) (s : State) : (s.onThermal f).pending = s.pending := rfl

@[simp] theorem State.onTape_changer (f : Tape → Tape) (s : State) : (s.onTape f).changer = s.changer := rfl
@[simp] theorem State.onTape_drive (f : Tape → Tape) (s : State) : (s.onTape f).drive = s.drive := rfl
@[simp] theorem State.onTape_lamp (f : Tape → Tape) (s : State) : (s.onTape f).lamp = s.lamp := rfl
@[simp] theorem State.onTape_thermal (f : Tape → Tape) (s : State) : (s.onTape f).thermal = s.thermal := rfl
@[simp] theorem State.onTape_tape (f : Tape → Tape) (s : State) : (s.onTape f).tape = f s.tape := rfl
@[simp] theorem State.onTape_cue (f : Tape → Tape) (s : State) : (s.onTape f).cue = s.cue := rfl
@[simp] theorem State.onTape_remote (f : Tape → Tape) (s : State) : (s.onTape f).remote = s.remote := rfl
@[simp] theorem State.onTape_bus (f : Tape → Tape) (s : State) : (s.onTape f).bus = s.bus := rfl
@[simp] theorem State.onTape_link (f : Tape → Tape) (s : State) : (s.onTape f).link = s.link := rfl
@[simp] theorem State.onTape_pending (f : Tape → Tape) (s : State) : (s.onTape f).pending = s.pending := rfl

@[simp] theorem State.onCue_changer (f : CueUnit → CueUnit) (s : State) : (s.onCue f).changer = s.changer := rfl
@[simp] theorem State.onCue_drive (f : CueUnit → CueUnit) (s : State) : (s.onCue f).drive = s.drive := rfl
@[simp] theorem State.onCue_lamp (f : CueUnit → CueUnit) (s : State) : (s.onCue f).lamp = s.lamp := rfl
@[simp] theorem State.onCue_thermal (f : CueUnit → CueUnit) (s : State) : (s.onCue f).thermal = s.thermal := rfl
@[simp] theorem State.onCue_tape (f : CueUnit → CueUnit) (s : State) : (s.onCue f).tape = s.tape := rfl
@[simp] theorem State.onCue_cue (f : CueUnit → CueUnit) (s : State) : (s.onCue f).cue = f s.cue := rfl
@[simp] theorem State.onCue_remote (f : CueUnit → CueUnit) (s : State) : (s.onCue f).remote = s.remote := rfl
@[simp] theorem State.onCue_bus (f : CueUnit → CueUnit) (s : State) : (s.onCue f).bus = s.bus := rfl
@[simp] theorem State.onCue_link (f : CueUnit → CueUnit) (s : State) : (s.onCue f).link = s.link := rfl
@[simp] theorem State.onCue_pending (f : CueUnit → CueUnit) (s : State) : (s.onCue f).pending = s.pending := rfl

@[simp] theorem State.onRemote_changer (f : Remote → Remote) (s : State) : (s.onRemote f).changer = s.changer := rfl
@[simp] theorem State.onRemote_drive (f : Remote → Remote) (s : State) : (s.onRemote f).drive = s.drive := rfl
@[simp] theorem State.onRemote_lamp (f : Remote → Remote) (s : State) : (s.onRemote f).lamp = s.lamp := rfl
@[simp] theorem State.onRemote_thermal (f : Remote → Remote) (s : State) : (s.onRemote f).thermal = s.thermal := rfl
@[simp] theorem State.onRemote_tape (f : Remote → Remote) (s : State) : (s.onRemote f).tape = s.tape := rfl
@[simp] theorem State.onRemote_cue (f : Remote → Remote) (s : State) : (s.onRemote f).cue = s.cue := rfl
@[simp] theorem State.onRemote_remote (f : Remote → Remote) (s : State) : (s.onRemote f).remote = f s.remote := rfl
@[simp] theorem State.onRemote_bus (f : Remote → Remote) (s : State) : (s.onRemote f).bus = s.bus := rfl
@[simp] theorem State.onRemote_link (f : Remote → Remote) (s : State) : (s.onRemote f).link = s.link := rfl
@[simp] theorem State.onRemote_pending (f : Remote → Remote) (s : State) : (s.onRemote f).pending = s.pending := rfl

@[simp] theorem State.onBus_changer (f : Bus → Bus) (s : State) : (s.onBus f).changer = s.changer := rfl
@[simp] theorem State.onBus_drive (f : Bus → Bus) (s : State) : (s.onBus f).drive = s.drive := rfl
@[simp] theorem State.onBus_lamp (f : Bus → Bus) (s : State) : (s.onBus f).lamp = s.lamp := rfl
@[simp] theorem State.onBus_thermal (f : Bus → Bus) (s : State) : (s.onBus f).thermal = s.thermal := rfl
@[simp] theorem State.onBus_tape (f : Bus → Bus) (s : State) : (s.onBus f).tape = s.tape := rfl
@[simp] theorem State.onBus_cue (f : Bus → Bus) (s : State) : (s.onBus f).cue = s.cue := rfl
@[simp] theorem State.onBus_remote (f : Bus → Bus) (s : State) : (s.onBus f).remote = s.remote := rfl
@[simp] theorem State.onBus_bus (f : Bus → Bus) (s : State) : (s.onBus f).bus = f s.bus := rfl
@[simp] theorem State.onBus_link (f : Bus → Bus) (s : State) : (s.onBus f).link = s.link := rfl
@[simp] theorem State.onBus_pending (f : Bus → Bus) (s : State) : (s.onBus f).pending = s.pending := rfl

@[simp] theorem State.onLink_changer (f : Link → Link) (s : State) : (s.onLink f).changer = s.changer := rfl
@[simp] theorem State.onLink_drive (f : Link → Link) (s : State) : (s.onLink f).drive = s.drive := rfl
@[simp] theorem State.onLink_lamp (f : Link → Link) (s : State) : (s.onLink f).lamp = s.lamp := rfl
@[simp] theorem State.onLink_thermal (f : Link → Link) (s : State) : (s.onLink f).thermal = s.thermal := rfl
@[simp] theorem State.onLink_tape (f : Link → Link) (s : State) : (s.onLink f).tape = s.tape := rfl
@[simp] theorem State.onLink_cue (f : Link → Link) (s : State) : (s.onLink f).cue = s.cue := rfl
@[simp] theorem State.onLink_remote (f : Link → Link) (s : State) : (s.onLink f).remote = s.remote := rfl
@[simp] theorem State.onLink_bus (f : Link → Link) (s : State) : (s.onLink f).bus = s.bus := rfl
@[simp] theorem State.onLink_link (f : Link → Link) (s : State) : (s.onLink f).link = f s.link := rfl
@[simp] theorem State.onLink_pending (f : Link → Link) (s : State) : (s.onLink f).pending = s.pending := rfl

/-! ### Offers and replies -/

@[simp] theorem taken_state (s : State) : (taken s).1 = s := rfl
@[simp] theorem taken_status (s : State) : (taken s).2 = .done := rfl
@[simp] theorem turnedAway_state (st : Status) (s : State) : (turnedAway st s).1 = s := rfl
@[simp] theorem turnedAway_status (st : Status) (s : State) : (turnedAway st s).2 = st := rfl
@[simp] theorem refuse_state (st : Status) (s : State) : (refuse st s).state = s := rfl
@[simp] theorem refuse_status (st : Status) (s : State) : (refuse st s).status = st := rfl
@[simp] theorem refuse_payload (st : Status) (s : State) : (refuse st s).payload = [] := rfl
@[simp] theorem answer_state (s : State) (p : List Byte) : (answer s p).state = s := rfl
@[simp] theorem answer_status (s : State) (p : List Byte) : (answer s p).status = .done := rfl
@[simp] theorem answer_payload (s : State) (p : List Byte) : (answer s p).payload = p := rfl
@[simp] theorem ofOffer_state (o : Offer) : (Reply.ofOffer o).state = o.1 := rfl
@[simp] theorem ofOffer_status (o : Offer) : (Reply.ofOffer o).status = o.2 := rfl
@[simp] theorem ofOffer_payload (o : Offer) : (Reply.ofOffer o).payload = [] := rfl

/-! ### The Tray Drive -/

@[simp] theorem Drive.energize_position (dir : Dir) (d : Drive) : (Drive.energize dir d).position = d.position := rfl
@[simp] theorem Drive.energize_revolutions (dir : Dir) (d : Drive) : (Drive.energize dir d).revolutions = d.revolutions := rfl
@[simp] theorem Drive.energize_bridge (dir : Dir) (d : Drive) : (Drive.energize dir d).bridge = dir.bridge := rfl
@[simp] theorem Drive.energize_lastDrive (dir : Dir) (d : Drive) : (Drive.energize dir d).lastDrive = some dir := rfl
@[simp] theorem Drive.energize_motion (dir : Dir) (d : Drive) : (Drive.energize dir d).motion = d.motion := rfl
@[simp] theorem Drive.energize_backingOff (dir : Dir) (d : Drive) : (Drive.energize dir d).backingOff = d.backingOff := rfl
@[simp] theorem Drive.energize_backTally (dir : Dir) (d : Drive) : (Drive.energize dir d).backTally = d.backTally := rfl
@[simp] theorem Drive.energize_afterBrake (dir : Dir) (d : Drive) : (Drive.energize dir d).afterBrake = .off := rfl
@[simp] theorem Drive.energize_stalls (dir : Dir) (d : Drive) : (Drive.energize dir d).stalls = d.stalls := rfl
@[simp] theorem Drive.energize_corrections (dir : Dir) (d : Drive) : (Drive.energize dir d).corrections = d.corrections := rfl
@[simp] theorem Drive.energize_budget (dir : Dir) (d : Drive) : (Drive.energize dir d).budget = d.budget := rfl
@[simp] theorem Drive.energize_watchdog (dir : Dir) (d : Drive) : (Drive.energize dir d).watchdog = some Config.watchdogMs := rfl
@[simp] theorem Drive.energize_brakeTimer (dir : Dir) (d : Drive) : (Drive.energize dir d).brakeTimer = none := rfl
@[simp] theorem Drive.energize_swUp (dir : Dir) (d : Drive) : (Drive.energize dir d).swUp = d.swUp := rfl
@[simp] theorem Drive.energize_swDown (dir : Dir) (d : Drive) : (Drive.energize dir d).swDown = d.swDown := rfl
@[simp] theorem Drive.energize_lifterDrive (dir : Dir) (d : Drive) : (Drive.energize dir d).lifterDrive = d.lifterDrive := rfl
@[simp] theorem Drive.energize_lifterTimer (dir : Dir) (d : Drive) : (Drive.energize dir d).lifterTimer = d.lifterTimer := rfl
@[simp] theorem Drive.energize_settleTimer (dir : Dir) (d : Drive) : (Drive.energize dir d).settleTimer = d.settleTimer := rfl
@[simp] theorem Drive.energize_gate (dir : Dir) (d : Drive) : (Drive.energize dir d).gate = d.gate := rfl
@[simp] theorem Drive.energize_focus (dir : Dir) (d : Drive) : (Drive.energize dir d).focus = .stopped := rfl
@[simp] theorem Drive.energize_focusTimer (dir : Dir) (d : Drive) : (Drive.energize dir d).focusTimer = none := rfl
@[simp] theorem Drive.energize_endIn (dir : Dir) (d : Drive) : (Drive.energize dir d).endIn = d.endIn := rfl
@[simp] theorem Drive.energize_endOut (dir : Dir) (d : Drive) : (Drive.energize dir d).endOut = d.endOut := rfl

@[simp] theorem Drive.brake_position (after : AfterBrake) (d : Drive) : (Drive.brake after d).position = d.position := rfl
@[simp] theorem Drive.brake_revolutions (after : AfterBrake) (d : Drive) : (Drive.brake after d).revolutions = d.revolutions := rfl
@[simp] theorem Drive.brake_bridge (after : AfterBrake) (d : Drive) : (Drive.brake after d).bridge = .brake := rfl
@[simp] theorem Drive.brake_lastDrive (after : AfterBrake) (d : Drive) : (Drive.brake after d).lastDrive = d.lastDrive := rfl
@[simp] theorem Drive.brake_motion (after : AfterBrake) (d : Drive) : (Drive.brake after d).motion = d.motion := rfl
@[simp] theorem Drive.brake_backingOff (after : AfterBrake) (d : Drive) : (Drive.brake after d).backingOff = d.backingOff := rfl
@[simp] theorem Drive.brake_backTally (after : AfterBrake) (d : Drive) : (Drive.brake after d).backTally = d.backTally := rfl
@[simp] theorem Drive.brake_afterBrake (after : AfterBrake) (d : Drive) : (Drive.brake after d).afterBrake = after := rfl
@[simp] theorem Drive.brake_stalls (after : AfterBrake) (d : Drive) : (Drive.brake after d).stalls = d.stalls := rfl
@[simp] theorem Drive.brake_corrections (after : AfterBrake) (d : Drive) : (Drive.brake after d).corrections = d.corrections := rfl
@[simp] theorem Drive.brake_budget (after : AfterBrake) (d : Drive) : (Drive.brake after d).budget = d.budget := rfl
@[simp] theorem Drive.brake_watchdog (after : AfterBrake) (d : Drive) : (Drive.brake after d).watchdog = none := rfl
@[simp] theorem Drive.brake_brakeTimer (after : AfterBrake) (d : Drive) : (Drive.brake after d).brakeTimer = some Config.brakeMs := rfl
@[simp] theorem Drive.brake_swUp (after : AfterBrake) (d : Drive) : (Drive.brake after d).swUp = d.swUp := rfl
@[simp] theorem Drive.brake_swDown (after : AfterBrake) (d : Drive) : (Drive.brake after d).swDown = d.swDown := rfl
@[simp] theorem Drive.brake_lifterDrive (after : AfterBrake) (d : Drive) : (Drive.brake after d).lifterDrive = d.lifterDrive := rfl
@[simp] theorem Drive.brake_lifterTimer (after : AfterBrake) (d : Drive) : (Drive.brake after d).lifterTimer = d.lifterTimer := rfl
@[simp] theorem Drive.brake_settleTimer (after : AfterBrake) (d : Drive) : (Drive.brake after d).settleTimer = d.settleTimer := rfl
@[simp] theorem Drive.brake_gate (after : AfterBrake) (d : Drive) : (Drive.brake after d).gate = d.gate := rfl
@[simp] theorem Drive.brake_focus (after : AfterBrake) (d : Drive) : (Drive.brake after d).focus = d.focus := rfl
@[simp] theorem Drive.brake_focusTimer (after : AfterBrake) (d : Drive) : (Drive.brake after d).focusTimer = d.focusTimer := rfl
@[simp] theorem Drive.brake_endIn (after : AfterBrake) (d : Drive) : (Drive.brake after d).endIn = d.endIn := rfl
@[simp] theorem Drive.brake_endOut (after : AfterBrake) (d : Drive) : (Drive.brake after d).endOut = d.endOut := rfl

@[simp] theorem Drive.release_position (d : Drive) : (Drive.release d).position = d.position := rfl
@[simp] theorem Drive.release_revolutions (d : Drive) : (Drive.release d).revolutions = d.revolutions := rfl
@[simp] theorem Drive.release_bridge (d : Drive) : (Drive.release d).bridge = .off := rfl
@[simp] theorem Drive.release_lastDrive (d : Drive) : (Drive.release d).lastDrive = d.lastDrive := rfl
@[simp] theorem Drive.release_motion (d : Drive) : (Drive.release d).motion = d.motion := rfl
@[simp] theorem Drive.release_backingOff (d : Drive) : (Drive.release d).backingOff = d.backingOff := rfl
@[simp] theorem Drive.release_backTally (d : Drive) : (Drive.release d).backTally = d.backTally := rfl
@[simp] theorem Drive.release_afterBrake (d : Drive) : (Drive.release d).afterBrake = .off := rfl
@[simp] theorem Drive.release_stalls (d : Drive) : (Drive.release d).stalls = d.stalls := rfl
@[simp] theorem Drive.release_corrections (d : Drive) : (Drive.release d).corrections = d.corrections := rfl
@[simp] theorem Drive.release_budget (d : Drive) : (Drive.release d).budget = d.budget := rfl
@[simp] theorem Drive.release_watchdog (d : Drive) : (Drive.release d).watchdog = none := rfl
@[simp] theorem Drive.release_brakeTimer (d : Drive) : (Drive.release d).brakeTimer = none := rfl
@[simp] theorem Drive.release_swUp (d : Drive) : (Drive.release d).swUp = d.swUp := rfl
@[simp] theorem Drive.release_swDown (d : Drive) : (Drive.release d).swDown = d.swDown := rfl
@[simp] theorem Drive.release_lifterDrive (d : Drive) : (Drive.release d).lifterDrive = d.lifterDrive := rfl
@[simp] theorem Drive.release_lifterTimer (d : Drive) : (Drive.release d).lifterTimer = d.lifterTimer := rfl
@[simp] theorem Drive.release_settleTimer (d : Drive) : (Drive.release d).settleTimer = d.settleTimer := rfl
@[simp] theorem Drive.release_gate (d : Drive) : (Drive.release d).gate = d.gate := rfl
@[simp] theorem Drive.release_focus (d : Drive) : (Drive.release d).focus = d.focus := rfl
@[simp] theorem Drive.release_focusTimer (d : Drive) : (Drive.release d).focusTimer = d.focusTimer := rfl
@[simp] theorem Drive.release_endIn (d : Drive) : (Drive.release d).endIn = d.endIn := rfl
@[simp] theorem Drive.release_endOut (d : Drive) : (Drive.release d).endOut = d.endOut := rfl

@[simp] theorem Drive.endRotation_position (d : Drive) : (Drive.endRotation d).position = d.position := rfl
@[simp] theorem Drive.endRotation_revolutions (d : Drive) : (Drive.endRotation d).revolutions = d.revolutions := rfl
@[simp] theorem Drive.endRotation_bridge (d : Drive) : (Drive.endRotation d).bridge = d.bridge := rfl
@[simp] theorem Drive.endRotation_lastDrive (d : Drive) : (Drive.endRotation d).lastDrive = d.lastDrive := rfl
@[simp] theorem Drive.endRotation_motion (d : Drive) : (Drive.endRotation d).motion = .none := rfl
@[simp] theorem Drive.endRotation_backingOff (d : Drive) : (Drive.endRotation d).backingOff = false := rfl
@[simp] theorem Drive.endRotation_backTally (d : Drive) : (Drive.endRotation d).backTally = 0 := rfl
@[simp] theorem Drive.endRotation_afterBrake (d : Drive) : (Drive.endRotation d).afterBrake = d.afterBrake := rfl
@[simp] theorem Drive.endRotation_stalls (d : Drive) : (Drive.endRotation d).stalls = 0 := rfl
@[simp] theorem Drive.endRotation_corrections (d : Drive) : (Drive.endRotation d).corrections = d.corrections := rfl
@[simp] theorem Drive.endRotation_budget (d : Drive) : (Drive.endRotation d).budget = 0 := rfl
@[simp] theorem Drive.endRotation_watchdog (d : Drive) : (Drive.endRotation d).watchdog = d.watchdog := rfl
@[simp] theorem Drive.endRotation_brakeTimer (d : Drive) : (Drive.endRotation d).brakeTimer = d.brakeTimer := rfl
@[simp] theorem Drive.endRotation_swUp (d : Drive) : (Drive.endRotation d).swUp = d.swUp := rfl
@[simp] theorem Drive.endRotation_swDown (d : Drive) : (Drive.endRotation d).swDown = d.swDown := rfl
@[simp] theorem Drive.endRotation_lifterDrive (d : Drive) : (Drive.endRotation d).lifterDrive = d.lifterDrive := rfl
@[simp] theorem Drive.endRotation_lifterTimer (d : Drive) : (Drive.endRotation d).lifterTimer = d.lifterTimer := rfl
@[simp] theorem Drive.endRotation_settleTimer (d : Drive) : (Drive.endRotation d).settleTimer = d.settleTimer := rfl
@[simp] theorem Drive.endRotation_gate (d : Drive) : (Drive.endRotation d).gate = d.gate := rfl
@[simp] theorem Drive.endRotation_focus (d : Drive) : (Drive.endRotation d).focus = d.focus := rfl
@[simp] theorem Drive.endRotation_focusTimer (d : Drive) : (Drive.endRotation d).focusTimer = d.focusTimer := rfl
@[simp] theorem Drive.endRotation_endIn (d : Drive) : (Drive.endRotation d).endIn = d.endIn := rfl
@[simp] theorem Drive.endRotation_endOut (d : Drive) : (Drive.endRotation d).endOut = d.endOut := rfl

@[simp] theorem Drive.lift_position (d : Drive) : (Drive.lift d).position = d.position := rfl
@[simp] theorem Drive.lift_revolutions (d : Drive) : (Drive.lift d).revolutions = d.revolutions := rfl
@[simp] theorem Drive.lift_bridge (d : Drive) : (Drive.lift d).bridge = d.bridge := rfl
@[simp] theorem Drive.lift_lastDrive (d : Drive) : (Drive.lift d).lastDrive = d.lastDrive := rfl
@[simp] theorem Drive.lift_motion (d : Drive) : (Drive.lift d).motion = d.motion := rfl
@[simp] theorem Drive.lift_backingOff (d : Drive) : (Drive.lift d).backingOff = d.backingOff := rfl
@[simp] theorem Drive.lift_backTally (d : Drive) : (Drive.lift d).backTally = d.backTally := rfl
@[simp] theorem Drive.lift_afterBrake (d : Drive) : (Drive.lift d).afterBrake = d.afterBrake := rfl
@[simp] theorem Drive.lift_stalls (d : Drive) : (Drive.lift d).stalls = d.stalls := rfl
@[simp] theorem Drive.lift_corrections (d : Drive) : (Drive.lift d).corrections = d.corrections := rfl
@[simp] theorem Drive.lift_budget (d : Drive) : (Drive.lift d).budget = d.budget := rfl
@[simp] theorem Drive.lift_watchdog (d : Drive) : (Drive.lift d).watchdog = d.watchdog := rfl
@[simp] theorem Drive.lift_brakeTimer (d : Drive) : (Drive.lift d).brakeTimer = d.brakeTimer := rfl
@[simp] theorem Drive.lift_swUp (d : Drive) : (Drive.lift d).swUp = d.swUp := rfl
@[simp] theorem Drive.lift_swDown (d : Drive) : (Drive.lift d).swDown = d.swDown := rfl
@[simp] theorem Drive.lift_lifterDrive (d : Drive) : (Drive.lift d).lifterDrive = .upward := rfl
@[simp] theorem Drive.lift_lifterTimer (d : Drive) : (Drive.lift d).lifterTimer = some Config.lifterMs := rfl
@[simp] theorem Drive.lift_settleTimer (d : Drive) : (Drive.lift d).settleTimer = d.settleTimer := rfl
@[simp] theorem Drive.lift_gate (d : Drive) : (Drive.lift d).gate = d.gate := rfl
@[simp] theorem Drive.lift_focus (d : Drive) : (Drive.lift d).focus = d.focus := rfl
@[simp] theorem Drive.lift_focusTimer (d : Drive) : (Drive.lift d).focusTimer = d.focusTimer := rfl
@[simp] theorem Drive.lift_endIn (d : Drive) : (Drive.lift d).endIn = d.endIn := rfl
@[simp] theorem Drive.lift_endOut (d : Drive) : (Drive.lift d).endOut = d.endOut := rfl

@[simp] theorem Drive.stopFocus_position (d : Drive) : (Drive.stopFocus d).position = d.position := rfl
@[simp] theorem Drive.stopFocus_revolutions (d : Drive) : (Drive.stopFocus d).revolutions = d.revolutions := rfl
@[simp] theorem Drive.stopFocus_bridge (d : Drive) : (Drive.stopFocus d).bridge = d.bridge := rfl
@[simp] theorem Drive.stopFocus_lastDrive (d : Drive) : (Drive.stopFocus d).lastDrive = d.lastDrive := rfl
@[simp] theorem Drive.stopFocus_motion (d : Drive) : (Drive.stopFocus d).motion = d.motion := rfl
@[simp] theorem Drive.stopFocus_backingOff (d : Drive) : (Drive.stopFocus d).backingOff = d.backingOff := rfl
@[simp] theorem Drive.stopFocus_backTally (d : Drive) : (Drive.stopFocus d).backTally = d.backTally := rfl
@[simp] theorem Drive.stopFocus_afterBrake (d : Drive) : (Drive.stopFocus d).afterBrake = d.afterBrake := rfl
@[simp] theorem Drive.stopFocus_stalls (d : Drive) : (Drive.stopFocus d).stalls = d.stalls := rfl
@[simp] theorem Drive.stopFocus_corrections (d : Drive) : (Drive.stopFocus d).corrections = d.corrections := rfl
@[simp] theorem Drive.stopFocus_budget (d : Drive) : (Drive.stopFocus d).budget = d.budget := rfl
@[simp] theorem Drive.stopFocus_watchdog (d : Drive) : (Drive.stopFocus d).watchdog = d.watchdog := rfl
@[simp] theorem Drive.stopFocus_brakeTimer (d : Drive) : (Drive.stopFocus d).brakeTimer = d.brakeTimer := rfl
@[simp] theorem Drive.stopFocus_swUp (d : Drive) : (Drive.stopFocus d).swUp = d.swUp := rfl
@[simp] theorem Drive.stopFocus_swDown (d : Drive) : (Drive.stopFocus d).swDown = d.swDown := rfl
@[simp] theorem Drive.stopFocus_lifterDrive (d : Drive) : (Drive.stopFocus d).lifterDrive = d.lifterDrive := rfl
@[simp] theorem Drive.stopFocus_lifterTimer (d : Drive) : (Drive.stopFocus d).lifterTimer = d.lifterTimer := rfl
@[simp] theorem Drive.stopFocus_settleTimer (d : Drive) : (Drive.stopFocus d).settleTimer = d.settleTimer := rfl
@[simp] theorem Drive.stopFocus_gate (d : Drive) : (Drive.stopFocus d).gate = d.gate := rfl
@[simp] theorem Drive.stopFocus_focus (d : Drive) : (Drive.stopFocus d).focus = .stopped := rfl
@[simp] theorem Drive.stopFocus_focusTimer (d : Drive) : (Drive.stopFocus d).focusTimer = none := rfl
@[simp] theorem Drive.stopFocus_endIn (d : Drive) : (Drive.stopFocus d).endIn = d.endIn := rfl
@[simp] theorem Drive.stopFocus_endOut (d : Drive) : (Drive.stopFocus d).endOut = d.endOut := rfl

/-! ### The Lamp Controller -/

@[simp] theorem Lamp.dark_state (l : Lamp) : (Lamp.dark l).state = l.state := rfl
@[simp] theorem Lamp.dark_dest (l : Lamp) : (Lamp.dark l).dest = l.dest := rfl
@[simp] theorem Lamp.dark_attempts (l : Lamp) : (Lamp.dark l).attempts = l.attempts := rfl
@[simp] theorem Lamp.dark_window (l : Lamp) : (Lamp.dark l).window = l.window := rfl
@[simp] theorem Lamp.dark_nextStrike (l : Lamp) : (Lamp.dark l).nextStrike = l.nextStrike := rfl
@[simp] theorem Lamp.dark_warmUp (l : Lamp) : (Lamp.dark l).warmUp = l.warmUp := rfl
@[simp] theorem Lamp.dark_coolDown (l : Lamp) : (Lamp.dark l).coolDown = l.coolDown := rfl
@[simp] theorem Lamp.dark_lossTimer (l : Lamp) : (Lamp.dark l).lossTimer = l.lossTimer := rfl
@[simp] theorem Lamp.dark_flowing (l : Lamp) : (Lamp.dark l).flowing = l.flowing := rfl
@[simp] theorem Lamp.dark_checkDone (l : Lamp) : (Lamp.dark l).checkDone = l.checkDone := rfl
@[simp] theorem Lamp.dark_bandView (l : Lamp) : (Lamp.dark l).bandView = l.bandView := rfl
@[simp] theorem Lamp.dark_coolFlag (l : Lamp) : (Lamp.dark l).coolFlag = l.coolFlag := rfl
@[simp] theorem Lamp.dark_fade (l : Lamp) : (Lamp.dark l).fade = 0 := rfl
@[simp] theorem Lamp.dark_ramp (l : Lamp) : (Lamp.dark l).ramp = none := rfl
@[simp] theorem Lamp.dark_darkHold (l : Lamp) : (Lamp.dark l).darkHold = true := rfl
@[simp] theorem Lamp.dark_override (l : Lamp) : (Lamp.dark l).override = l.override := rfl
@[simp] theorem Lamp.dark_appliedCap (l : Lamp) : (Lamp.dark l).appliedCap = l.appliedCap := rfl
@[simp] theorem Lamp.dark_delivered (l : Lamp) : (Lamp.dark l).delivered = l.delivered := rfl
@[simp] theorem Lamp.dark_lightSum (l : Lamp) : (Lamp.dark l).lightSum = l.lightSum := rfl
@[simp] theorem Lamp.dark_ticks (l : Lamp) : (Lamp.dark l).ticks = l.ticks := rfl
@[simp] theorem Lamp.dark_exposure (l : Lamp) : (Lamp.dark l).exposure = l.exposure := rfl
@[simp] theorem Lamp.dark_govClass (l : Lamp) : (Lamp.dark l).govClass = l.govClass := rfl
@[simp] theorem Lamp.dark_guard (l : Lamp) : (Lamp.dark l).guard = l.guard := rfl
@[simp] theorem Lamp.dark_limits (l : Lamp) : (Lamp.dark l).limits = l.limits := rfl

@[simp] theorem Lamp.clearHold_state (l : Lamp) : (Lamp.clearHold l).state = l.state := rfl
@[simp] theorem Lamp.clearHold_dest (l : Lamp) : (Lamp.clearHold l).dest = l.dest := rfl
@[simp] theorem Lamp.clearHold_attempts (l : Lamp) : (Lamp.clearHold l).attempts = l.attempts := rfl
@[simp] theorem Lamp.clearHold_window (l : Lamp) : (Lamp.clearHold l).window = l.window := rfl
@[simp] theorem Lamp.clearHold_nextStrike (l : Lamp) : (Lamp.clearHold l).nextStrike = l.nextStrike := rfl
@[simp] theorem Lamp.clearHold_warmUp (l : Lamp) : (Lamp.clearHold l).warmUp = l.warmUp := rfl
@[simp] theorem Lamp.clearHold_coolDown (l : Lamp) : (Lamp.clearHold l).coolDown = l.coolDown := rfl
@[simp] theorem Lamp.clearHold_lossTimer (l : Lamp) : (Lamp.clearHold l).lossTimer = l.lossTimer := rfl
@[simp] theorem Lamp.clearHold_flowing (l : Lamp) : (Lamp.clearHold l).flowing = l.flowing := rfl
@[simp] theorem Lamp.clearHold_checkDone (l : Lamp) : (Lamp.clearHold l).checkDone = l.checkDone := rfl
@[simp] theorem Lamp.clearHold_bandView (l : Lamp) : (Lamp.clearHold l).bandView = l.bandView := rfl
@[simp] theorem Lamp.clearHold_coolFlag (l : Lamp) : (Lamp.clearHold l).coolFlag = l.coolFlag := rfl
@[simp] theorem Lamp.clearHold_fade (l : Lamp) : (Lamp.clearHold l).fade = l.fade := rfl
@[simp] theorem Lamp.clearHold_ramp (l : Lamp) : (Lamp.clearHold l).ramp = l.ramp := rfl
@[simp] theorem Lamp.clearHold_darkHold (l : Lamp) : (Lamp.clearHold l).darkHold = false := rfl
@[simp] theorem Lamp.clearHold_override (l : Lamp) : (Lamp.clearHold l).override = l.override := rfl
@[simp] theorem Lamp.clearHold_appliedCap (l : Lamp) : (Lamp.clearHold l).appliedCap = l.appliedCap := rfl
@[simp] theorem Lamp.clearHold_delivered (l : Lamp) : (Lamp.clearHold l).delivered = l.delivered := rfl
@[simp] theorem Lamp.clearHold_lightSum (l : Lamp) : (Lamp.clearHold l).lightSum = l.lightSum := rfl
@[simp] theorem Lamp.clearHold_ticks (l : Lamp) : (Lamp.clearHold l).ticks = l.ticks := rfl
@[simp] theorem Lamp.clearHold_exposure (l : Lamp) : (Lamp.clearHold l).exposure = l.exposure := rfl
@[simp] theorem Lamp.clearHold_govClass (l : Lamp) : (Lamp.clearHold l).govClass = l.govClass := rfl
@[simp] theorem Lamp.clearHold_guard (l : Lamp) : (Lamp.clearHold l).guard = l.guard := rfl
@[simp] theorem Lamp.clearHold_limits (l : Lamp) : (Lamp.clearHold l).limits = l.limits := rfl

@[simp] theorem Lamp.trayRemoved_state (l : Lamp) : (Lamp.trayRemoved l).state = l.state := rfl
@[simp] theorem Lamp.trayRemoved_dest (l : Lamp) : (Lamp.trayRemoved l).dest = l.dest := rfl
@[simp] theorem Lamp.trayRemoved_attempts (l : Lamp) : (Lamp.trayRemoved l).attempts = l.attempts := rfl
@[simp] theorem Lamp.trayRemoved_window (l : Lamp) : (Lamp.trayRemoved l).window = l.window := rfl
@[simp] theorem Lamp.trayRemoved_nextStrike (l : Lamp) : (Lamp.trayRemoved l).nextStrike = l.nextStrike := rfl
@[simp] theorem Lamp.trayRemoved_warmUp (l : Lamp) : (Lamp.trayRemoved l).warmUp = l.warmUp := rfl
@[simp] theorem Lamp.trayRemoved_coolDown (l : Lamp) : (Lamp.trayRemoved l).coolDown = l.coolDown := rfl
@[simp] theorem Lamp.trayRemoved_lossTimer (l : Lamp) : (Lamp.trayRemoved l).lossTimer = l.lossTimer := rfl
@[simp] theorem Lamp.trayRemoved_flowing (l : Lamp) : (Lamp.trayRemoved l).flowing = l.flowing := rfl
@[simp] theorem Lamp.trayRemoved_checkDone (l : Lamp) : (Lamp.trayRemoved l).checkDone = l.checkDone := rfl
@[simp] theorem Lamp.trayRemoved_bandView (l : Lamp) : (Lamp.trayRemoved l).bandView = l.bandView := rfl
@[simp] theorem Lamp.trayRemoved_coolFlag (l : Lamp) : (Lamp.trayRemoved l).coolFlag = l.coolFlag := rfl
@[simp] theorem Lamp.trayRemoved_fade (l : Lamp) : (Lamp.trayRemoved l).fade = 0 := rfl
@[simp] theorem Lamp.trayRemoved_ramp (l : Lamp) : (Lamp.trayRemoved l).ramp = none := rfl
@[simp] theorem Lamp.trayRemoved_darkHold (l : Lamp) : (Lamp.trayRemoved l).darkHold = false := rfl
@[simp] theorem Lamp.trayRemoved_override (l : Lamp) : (Lamp.trayRemoved l).override = none := rfl
@[simp] theorem Lamp.trayRemoved_appliedCap (l : Lamp) : (Lamp.trayRemoved l).appliedCap = l.appliedCap := rfl
@[simp] theorem Lamp.trayRemoved_delivered (l : Lamp) : (Lamp.trayRemoved l).delivered = l.delivered := rfl
@[simp] theorem Lamp.trayRemoved_lightSum (l : Lamp) : (Lamp.trayRemoved l).lightSum = l.lightSum := rfl
@[simp] theorem Lamp.trayRemoved_ticks (l : Lamp) : (Lamp.trayRemoved l).ticks = l.ticks := rfl
@[simp] theorem Lamp.trayRemoved_exposure (l : Lamp) : (Lamp.trayRemoved l).exposure = l.exposure := rfl
@[simp] theorem Lamp.trayRemoved_govClass (l : Lamp) : (Lamp.trayRemoved l).govClass = l.govClass := rfl
@[simp] theorem Lamp.trayRemoved_guard (l : Lamp) : (Lamp.trayRemoved l).guard = l.guard := rfl
@[simp] theorem Lamp.trayRemoved_limits (l : Lamp) : (Lamp.trayRemoved l).limits = l.limits := rfl

@[simp] theorem Lamp.clearExposure_state (l : Lamp) : (Lamp.clearExposure l).state = l.state := rfl
@[simp] theorem Lamp.clearExposure_dest (l : Lamp) : (Lamp.clearExposure l).dest = l.dest := rfl
@[simp] theorem Lamp.clearExposure_attempts (l : Lamp) : (Lamp.clearExposure l).attempts = l.attempts := rfl
@[simp] theorem Lamp.clearExposure_window (l : Lamp) : (Lamp.clearExposure l).window = l.window := rfl
@[simp] theorem Lamp.clearExposure_nextStrike (l : Lamp) : (Lamp.clearExposure l).nextStrike = l.nextStrike := rfl
@[simp] theorem Lamp.clearExposure_warmUp (l : Lamp) : (Lamp.clearExposure l).warmUp = l.warmUp := rfl
@[simp] theorem Lamp.clearExposure_coolDown (l : Lamp) : (Lamp.clearExposure l).coolDown = l.coolDown := rfl
@[simp] theorem Lamp.clearExposure_lossTimer (l : Lamp) : (Lamp.clearExposure l).lossTimer = l.lossTimer := rfl
@[simp] theorem Lamp.clearExposure_flowing (l : Lamp) : (Lamp.clearExposure l).flowing = l.flowing := rfl
@[simp] theorem Lamp.clearExposure_checkDone (l : Lamp) : (Lamp.clearExposure l).checkDone = l.checkDone := rfl
@[simp] theorem Lamp.clearExposure_bandView (l : Lamp) : (Lamp.clearExposure l).bandView = l.bandView := rfl
@[simp] theorem Lamp.clearExposure_coolFlag (l : Lamp) : (Lamp.clearExposure l).coolFlag = l.coolFlag := rfl
@[simp] theorem Lamp.clearExposure_fade (l : Lamp) : (Lamp.clearExposure l).fade = l.fade := rfl
@[simp] theorem Lamp.clearExposure_ramp (l : Lamp) : (Lamp.clearExposure l).ramp = l.ramp := rfl
@[simp] theorem Lamp.clearExposure_darkHold (l : Lamp) : (Lamp.clearExposure l).darkHold = l.darkHold := rfl
@[simp] theorem Lamp.clearExposure_override (l : Lamp) : (Lamp.clearExposure l).override = l.override := rfl
@[simp] theorem Lamp.clearExposure_appliedCap (l : Lamp) : (Lamp.clearExposure l).appliedCap = l.appliedCap := rfl
@[simp] theorem Lamp.clearExposure_delivered (l : Lamp) : (Lamp.clearExposure l).delivered = l.delivered := rfl
@[simp] theorem Lamp.clearExposure_lightSum (l : Lamp) : (Lamp.clearExposure l).lightSum = l.lightSum := rfl
@[simp] theorem Lamp.clearExposure_ticks (l : Lamp) : (Lamp.clearExposure l).ticks = l.ticks := rfl
@[simp] theorem Lamp.clearExposure_exposure (l : Lamp) : (Lamp.clearExposure l).exposure = 0 := rfl
@[simp] theorem Lamp.clearExposure_govClass (l : Lamp) : (Lamp.clearExposure l).govClass = l.govClass := rfl
@[simp] theorem Lamp.clearExposure_guard (l : Lamp) : (Lamp.clearExposure l).guard = false := rfl
@[simp] theorem Lamp.clearExposure_limits (l : Lamp) : (Lamp.clearExposure l).limits = l.limits := rfl

/-! ### The Tape and Sound Unit -/

@[simp] theorem Tape.setBase_transport (a : Nat) (t : Tape) : (Tape.setBase a t).transport = t.transport := rfl
@[simp] theorem Tape.setBase_runDown (a : Nat) (t : Tape) : (Tape.setBase a t).runDown = t.runDown := rfl
@[simp] theorem Tape.setBase_counter (a : Nat) (t : Tape) : (Tape.setBase a t).counter = t.counter := rfl
@[simp] theorem Tape.setBase_sure (a : Nat) (t : Tape) : (Tape.setBase a t).sure = t.sure := rfl
@[simp] theorem Tape.setBase_residue (a : Nat) (t : Tape) : (Tape.setBase a t).residue = t.residue := rfl
@[simp] theorem Tape.setBase_endTimer (a : Nat) (t : Tape) : (Tape.setBase a t).endTimer = t.endTimer := rfl
@[simp] theorem Tape.setBase_reelTimer (a : Nat) (t : Tape) : (Tape.setBase a t).reelTimer = t.reelTimer := rfl
@[simp] theorem Tape.setBase_base (a : Nat) (t : Tape) : (Tape.setBase a t).base = a := rfl
@[simp] theorem Tape.setBase_baseRamp (a : Nat) (t : Tape) : (Tape.setBase a t).baseRamp = none := rfl
@[simp] theorem Tape.setBase_duckOn (a : Nat) (t : Tape) : (Tape.setBase a t).duckOn = t.duckOn := rfl
@[simp] theorem Tape.setBase_duckDepth (a : Nat) (t : Tape) : (Tape.setBase a t).duckDepth = t.duckDepth := rfl
@[simp] theorem Tape.setBase_duckTerm (a : Nat) (t : Tape) : (Tape.setBase a t).duckTerm = t.duckTerm := rfl
@[simp] theorem Tape.setBase_duckRamp (a : Nat) (t : Tape) : (Tape.setBase a t).duckRamp = t.duckRamp := rfl
@[simp] theorem Tape.setBase_mute (a : Nat) (t : Tape) : (Tape.setBase a t).mute = t.mute := rfl
@[simp] theorem Tape.setBase_output (a : Nat) (t : Tape) : (Tape.setBase a t).output = t.output := rfl

@[simp] theorem Tape.setMute_transport (on : Bool) (t : Tape) : (Tape.setMute on t).transport = t.transport := rfl
@[simp] theorem Tape.setMute_runDown (on : Bool) (t : Tape) : (Tape.setMute on t).runDown = t.runDown := rfl
@[simp] theorem Tape.setMute_counter (on : Bool) (t : Tape) : (Tape.setMute on t).counter = t.counter := rfl
@[simp] theorem Tape.setMute_sure (on : Bool) (t : Tape) : (Tape.setMute on t).sure = t.sure := rfl
@[simp] theorem Tape.setMute_residue (on : Bool) (t : Tape) : (Tape.setMute on t).residue = t.residue := rfl
@[simp] theorem Tape.setMute_endTimer (on : Bool) (t : Tape) : (Tape.setMute on t).endTimer = t.endTimer := rfl
@[simp] theorem Tape.setMute_reelTimer (on : Bool) (t : Tape) : (Tape.setMute on t).reelTimer = t.reelTimer := rfl
@[simp] theorem Tape.setMute_base (on : Bool) (t : Tape) : (Tape.setMute on t).base = t.base := rfl
@[simp] theorem Tape.setMute_baseRamp (on : Bool) (t : Tape) : (Tape.setMute on t).baseRamp = t.baseRamp := rfl
@[simp] theorem Tape.setMute_duckOn (on : Bool) (t : Tape) : (Tape.setMute on t).duckOn = t.duckOn := rfl
@[simp] theorem Tape.setMute_duckDepth (on : Bool) (t : Tape) : (Tape.setMute on t).duckDepth = t.duckDepth := rfl
@[simp] theorem Tape.setMute_duckTerm (on : Bool) (t : Tape) : (Tape.setMute on t).duckTerm = t.duckTerm := rfl
@[simp] theorem Tape.setMute_duckRamp (on : Bool) (t : Tape) : (Tape.setMute on t).duckRamp = t.duckRamp := rfl
@[simp] theorem Tape.setMute_mute (on : Bool) (t : Tape) : (Tape.setMute on t).mute = on := rfl
@[simp] theorem Tape.setMute_output (on : Bool) (t : Tape) : (Tape.setMute on t).output = t.output := rfl

@[simp] theorem Tape.duckTo_transport (target : Nat) (t : Tape) : (Tape.duckTo target t).transport = t.transport := rfl
@[simp] theorem Tape.duckTo_runDown (target : Nat) (t : Tape) : (Tape.duckTo target t).runDown = t.runDown := rfl
@[simp] theorem Tape.duckTo_counter (target : Nat) (t : Tape) : (Tape.duckTo target t).counter = t.counter := rfl
@[simp] theorem Tape.duckTo_sure (target : Nat) (t : Tape) : (Tape.duckTo target t).sure = t.sure := rfl
@[simp] theorem Tape.duckTo_residue (target : Nat) (t : Tape) : (Tape.duckTo target t).residue = t.residue := rfl
@[simp] theorem Tape.duckTo_endTimer (target : Nat) (t : Tape) : (Tape.duckTo target t).endTimer = t.endTimer := rfl
@[simp] theorem Tape.duckTo_reelTimer (target : Nat) (t : Tape) : (Tape.duckTo target t).reelTimer = t.reelTimer := rfl
@[simp] theorem Tape.duckTo_base (target : Nat) (t : Tape) : (Tape.duckTo target t).base = t.base := rfl
@[simp] theorem Tape.duckTo_baseRamp (target : Nat) (t : Tape) : (Tape.duckTo target t).baseRamp = t.baseRamp := rfl
@[simp] theorem Tape.duckTo_duckOn (target : Nat) (t : Tape) : (Tape.duckTo target t).duckOn = t.duckOn := rfl
@[simp] theorem Tape.duckTo_duckDepth (target : Nat) (t : Tape) : (Tape.duckTo target t).duckDepth = t.duckDepth := rfl
@[simp] theorem Tape.duckTo_duckTerm (target : Nat) (t : Tape) : (Tape.duckTo target t).duckTerm = t.duckTerm := rfl
@[simp] theorem Tape.duckTo_duckRamp (target : Nat) (t : Tape) : (Tape.duckTo target t).duckRamp = some { a := t.duckTerm, b := target, n := Config.duckTicks, k := 0 } := rfl
@[simp] theorem Tape.duckTo_mute (target : Nat) (t : Tape) : (Tape.duckTo target t).mute = t.mute := rfl
@[simp] theorem Tape.duckTo_output (target : Nat) (t : Tape) : (Tape.duckTo target t).output = t.output := rfl

end Sys2Proof.Machine
end

