-- ==== Sys2Proof/Laws/Frames.lean ====
section
/-! SUPPORT. What each shared operation leaves: one lemma per operation, an equation for every block of the state that it
does not touch. A proof about one block passes every operation on the others by these. -/

namespace Sys2Proof.Machine

/-! ### Notices, answers and resets of the link -/

@[simp] theorem raise_frame (n : Notice) (s : State) :
    (raise n s).changer = s.changer ∧ (raise n s).drive = s.drive ∧ (raise n s).lamp = s.lamp ∧
    (raise n s).thermal = s.thermal ∧ (raise n s).tape = s.tape ∧ (raise n s).cue = s.cue ∧
    (raise n s).remote = s.remote ∧ (raise n s).bus = s.bus ∧ (raise n s).pending = s.pending := by
  simp [raise]

@[simp] theorem respond_frame (code : Nat) (st : Status) (p : List Byte) (s : State) :
    (respond code st p s).changer = s.changer ∧ (respond code st p s).drive = s.drive ∧
    (respond code st p s).lamp = s.lamp ∧ (respond code st p s).thermal = s.thermal ∧
    (respond code st p s).tape = s.tape ∧ (respond code st p s).cue = s.cue ∧
    (respond code st p s).remote = s.remote ∧ (respond code st p s).bus = s.bus ∧
    (respond code st p s).pending = s.pending := by
  simp [respond]

@[simp] theorem setHold_frame (h : Bool) (s : State) :
    (setHold h s).drive = s.drive ∧ (setHold h s).lamp = s.lamp ∧ (setHold h s).thermal = s.thermal ∧
    (setHold h s).tape = s.tape ∧ (setHold h s).cue = s.cue ∧ (setHold h s).remote = s.remote ∧
    (setHold h s).bus = s.bus ∧ (setHold h s).link = s.link ∧ (setHold h s).pending = s.pending := by
  simp [setHold]

/-! ### The Lamp Controller -/

@[simp] theorem enterLamp_frame (new : LampState) (s : State) :
    (enterLamp new s).changer = s.changer ∧ (enterLamp new s).drive = s.drive ∧ (enterLamp new s).tape = s.tape ∧
    (enterLamp new s).cue = s.cue ∧ (enterLamp new s).remote = s.remote ∧ (enterLamp new s).bus = s.bus ∧
    (enterLamp new s).link = s.link ∧ (enterLamp new s).pending = s.pending := by
  simp [enterLamp]

@[simp] theorem startCoolDown_frame (dest : CoolDest) (ms : Nat) (s : State) :
    (startCoolDown dest ms s).changer = s.changer ∧ (startCoolDown dest ms s).drive = s.drive ∧
    (startCoolDown dest ms s).tape = s.tape ∧ (startCoolDown dest ms s).cue = s.cue ∧
    (startCoolDown dest ms s).remote = s.remote ∧ (startCoolDown dest ms s).bus = s.bus ∧
    (startCoolDown dest ms s).link = s.link ∧ (startCoolDown dest ms s).pending = s.pending := by
  simp [startCoolDown]

@[simp] theorem endCoolDownIfDone_frame (s : State) :
    (endCoolDownIfDone s).changer = s.changer ∧ (endCoolDownIfDone s).drive = s.drive ∧
    (endCoolDownIfDone s).tape = s.tape ∧ (endCoolDownIfDone s).cue = s.cue ∧
    (endCoolDownIfDone s).remote = s.remote ∧ (endCoolDownIfDone s).bus = s.bus ∧
    (endCoolDownIfDone s).link = s.link ∧ (endCoolDownIfDone s).pending = s.pending := by
  simp only [endCoolDownIfDone]
  (repeat' split) <;> simp

@[simp] theorem confirmStrike_frame (s : State) :
    (confirmStrike s).changer = s.changer ∧ (confirmStrike s).drive = s.drive ∧ (confirmStrike s).tape = s.tape ∧
    (confirmStrike s).cue = s.cue ∧ (confirmStrike s).remote = s.remote ∧ (confirmStrike s).bus = s.bus ∧
    (confirmStrike s).link = s.link ∧ (confirmStrike s).pending = s.pending := by
  simp [confirmStrike]

@[simp] theorem strikeAttempt_frame (s : State) :
    (strikeAttempt s).changer = s.changer ∧ (strikeAttempt s).drive = s.drive ∧ (strikeAttempt s).tape = s.tape ∧
    (strikeAttempt s).cue = s.cue ∧ (strikeAttempt s).remote = s.remote ∧ (strikeAttempt s).bus = s.bus ∧
    (strikeAttempt s).link = s.link ∧ (strikeAttempt s).pending = s.pending := by
  simp only [strikeAttempt]
  (repeat' split) <;> simp

@[simp] theorem offerLampOn_frame (s : State) :
    (offerLampOn s).1.changer = s.changer ∧ (offerLampOn s).1.drive = s.drive ∧ (offerLampOn s).1.tape = s.tape ∧
    (offerLampOn s).1.cue = s.cue ∧ (offerLampOn s).1.remote = s.remote ∧ (offerLampOn s).1.bus = s.bus ∧
    (offerLampOn s).1.link = s.link ∧ (offerLampOn s).1.pending = s.pending := by
  simp only [offerLampOn]
  (repeat' split) <;> simp

@[simp] theorem lampOff_frame (s : State) :
    (lampOff s).changer = s.changer ∧ (lampOff s).drive = s.drive ∧ (lampOff s).tape = s.tape ∧
    (lampOff s).cue = s.cue ∧ (lampOff s).remote = s.remote ∧ (lampOff s).bus = s.bus ∧ (lampOff s).link = s.link ∧
    (lampOff s).pending = s.pending := by
  simp only [lampOff]
  (repeat' split) <;> simp

@[simp] theorem lampTrip_frame (s : State) :
    (lampTrip s).changer = s.changer ∧ (lampTrip s).drive = s.drive ∧ (lampTrip s).tape = s.tape ∧
    (lampTrip s).cue = s.cue ∧ (lampTrip s).remote = s.remote ∧ (lampTrip s).bus = s.bus ∧
    (lampTrip s).pending = s.pending := by
  simp only [lampTrip]
  (repeat' split) <;> simp

@[simp] theorem startUpCheck_frame (theta : Int) (s : State) :
    (startUpCheck theta s).changer = s.changer ∧ (startUpCheck theta s).drive = s.drive ∧
    (startUpCheck theta s).tape = s.tape ∧ (startUpCheck theta s).cue = s.cue ∧
    (startUpCheck theta s).remote = s.remote ∧ (startUpCheck theta s).bus = s.bus ∧
    (startUpCheck theta s).link = s.link ∧ (startUpCheck theta s).pending = s.pending := by
  simp only [startUpCheck]
  (repeat' split) <;> simp

@[simp] theorem periodReport_frame (b : Band) (cap : Nat) (fl : Bool) (s : State) :
    (periodReport b cap fl s).changer = s.changer ∧ (periodReport b cap fl s).drive = s.drive ∧
    (periodReport b cap fl s).tape = s.tape ∧ (periodReport b cap fl s).cue = s.cue ∧
    (periodReport b cap fl s).remote = s.remote ∧ (periodReport b cap fl s).bus = s.bus ∧
    (periodReport b cap fl s).link = s.link ∧ (periodReport b cap fl s).pending = s.pending := by
  simp [periodReport]

@[simp] theorem setOverride_frame (v : Option Nat) (s : State) :
    (setOverride v s).changer = s.changer ∧ (setOverride v s).drive = s.drive ∧
    (setOverride v s).thermal = s.thermal ∧ (setOverride v s).tape = s.tape ∧ (setOverride v s).cue = s.cue ∧
    (setOverride v s).remote = s.remote ∧ (setOverride v s).bus = s.bus ∧ (setOverride v s).link = s.link ∧
    (setOverride v s).pending = s.pending := by
  simp [setOverride]

@[simp] theorem lightKey_frame (up : Bool) (s : State) :
    (lightKey up s).changer = s.changer ∧ (lightKey up s).drive = s.drive ∧ (lightKey up s).thermal = s.thermal ∧
    (lightKey up s).tape = s.tape ∧ (lightKey up s).cue = s.cue ∧ (lightKey up s).remote = s.remote ∧
    (lightKey up s).bus = s.bus ∧ (lightKey up s).link = s.link ∧ (lightKey up s).pending = s.pending := by
  simp only [lightKey]
  (repeat' split) <;> simp

@[simp] theorem lampResetRequest_frame (s : State) :
    (lampResetRequest s).changer = s.changer ∧ (lampResetRequest s).drive = s.drive ∧
    (lampResetRequest s).tape = s.tape ∧ (lampResetRequest s).cue = s.cue ∧ (lampResetRequest s).remote = s.remote ∧
    (lampResetRequest s).bus = s.bus ∧ (lampResetRequest s).link = s.link ∧
    (lampResetRequest s).pending = s.pending := by
  simp [lampResetRequest]

/-! ### The Tape and Sound Unit -/

@[simp] theorem setTransport_frame (new : Transport) (s : State) :
    (setTransport new s).changer = s.changer ∧ (setTransport new s).drive = s.drive ∧
    (setTransport new s).lamp = s.lamp ∧ (setTransport new s).thermal = s.thermal ∧
    (setTransport new s).remote = s.remote ∧ (setTransport new s).bus = s.bus ∧ (setTransport new s).link = s.link ∧
    (setTransport new s).pending = s.pending := by
  simp [setTransport]

@[simp] theorem enterPlaying_frame (s : State) :
    (enterPlaying s).changer = s.changer ∧ (enterPlaying s).drive = s.drive ∧ (enterPlaying s).lamp = s.lamp ∧
    (enterPlaying s).thermal = s.thermal ∧ (enterPlaying s).remote = s.remote ∧ (enterPlaying s).bus = s.bus ∧
    (enterPlaying s).link = s.link ∧ (enterPlaying s).pending = s.pending := by
  simp [enterPlaying]

@[simp] theorem enterWinding_frame (w : Transport) (s : State) :
    (enterWinding w s).changer = s.changer ∧ (enterWinding w s).drive = s.drive ∧ (enterWinding w s).lamp = s.lamp ∧
    (enterWinding w s).thermal = s.thermal ∧ (enterWinding w s).remote = s.remote ∧ (enterWinding w s).bus = s.bus ∧
    (enterWinding w s).link = s.link ∧ (enterWinding w s).pending = s.pending := by
  simp [enterWinding]

@[simp] theorem enterPaused_frame (s : State) :
    (enterPaused s).changer = s.changer ∧ (enterPaused s).drive = s.drive ∧ (enterPaused s).lamp = s.lamp ∧
    (enterPaused s).thermal = s.thermal ∧ (enterPaused s).remote = s.remote ∧ (enterPaused s).bus = s.bus ∧
    (enterPaused s).link = s.link ∧ (enterPaused s).pending = s.pending := by
  simp [enterPaused]

@[simp] theorem enterStopped_frame (r : Option RunDown) (s : State) :
    (enterStopped r s).changer = s.changer ∧ (enterStopped r s).drive = s.drive ∧ (enterStopped r s).lamp = s.lamp ∧
    (enterStopped r s).thermal = s.thermal ∧ (enterStopped r s).remote = s.remote ∧ (enterStopped r s).bus = s.bus ∧
    (enterStopped r s).link = s.link ∧ (enterStopped r s).pending = s.pending := by
  simp [enterStopped]

@[simp] theorem setPendingMotion_frame (n : PendingMotion) (s : State) :
    (setPendingMotion n s).changer = s.changer ∧ (setPendingMotion n s).drive = s.drive ∧
    (setPendingMotion n s).lamp = s.lamp ∧ (setPendingMotion n s).thermal = s.thermal ∧
    (setPendingMotion n s).cue = s.cue ∧ (setPendingMotion n s).remote = s.remote ∧
    (setPendingMotion n s).bus = s.bus ∧ (setPendingMotion n s).link = s.link ∧
    (setPendingMotion n s).pending = s.pending := by
  simp [setPendingMotion]

@[simp] theorem offerTapePlay_frame (s : State) :
    (offerTapePlay s).1.changer = s.changer ∧ (offerTapePlay s).1.drive = s.drive ∧
    (offerTapePlay s).1.lamp = s.lamp ∧ (offerTapePlay s).1.thermal = s.thermal ∧
    (offerTapePlay s).1.remote = s.remote ∧ (offerTapePlay s).1.bus = s.bus ∧ (offerTapePlay s).1.link = s.link ∧
    (offerTapePlay s).1.pending = s.pending := by
  simp only [offerTapePlay]
  (repeat' split) <;> simp

@[simp] theorem offerTapePause_frame (s : State) :
    (offerTapePause s).1.changer = s.changer ∧ (offerTapePause s).1.drive = s.drive ∧
    (offerTapePause s).1.lamp = s.lamp ∧ (offerTapePause s).1.thermal = s.thermal ∧
    (offerTapePause s).1.remote = s.remote ∧ (offerTapePause s).1.bus = s.bus ∧ (offerTapePause s).1.link = s.link ∧
    (offerTapePause s).1.pending = s.pending := by
  simp only [offerTapePause]
  (repeat' split) <;> simp

@[simp] theorem offerTapeStop_frame (s : State) :
    (offerTapeStop s).1.changer = s.changer ∧ (offerTapeStop s).1.drive = s.drive ∧
    (offerTapeStop s).1.lamp = s.lamp ∧ (offerTapeStop s).1.thermal = s.thermal ∧
    (offerTapeStop s).1.remote = s.remote ∧ (offerTapeStop s).1.bus = s.bus ∧ (offerTapeStop s).1.link = s.link ∧
    (offerTapeStop s).1.pending = s.pending := by
  simp only [offerTapeStop]
  (repeat' split) <;> simp

@[simp] theorem offerTapeWind_frame (d : Dir) (s : State) :
    (offerTapeWind d s).1.changer = s.changer ∧ (offerTapeWind d s).1.drive = s.drive ∧
    (offerTapeWind d s).1.lamp = s.lamp ∧ (offerTapeWind d s).1.thermal = s.thermal ∧
    (offerTapeWind d s).1.remote = s.remote ∧ (offerTapeWind d s).1.bus = s.bus ∧
    (offerTapeWind d s).1.link = s.link ∧ (offerTapeWind d s).1.pending = s.pending := by
  simp only [offerTapeWind]
  (repeat' split) <;> simp

@[simp] theorem applyTapeMark_frame (m : TapeMark) (s : State) :
    (applyTapeMark m s).changer = s.changer ∧ (applyTapeMark m s).drive = s.drive ∧
    (applyTapeMark m s).lamp = s.lamp ∧ (applyTapeMark m s).thermal = s.thermal ∧
    (applyTapeMark m s).remote = s.remote ∧ (applyTapeMark m s).bus = s.bus ∧ (applyTapeMark m s).link = s.link ∧
    (applyTapeMark m s).pending = s.pending := by
  simp only [applyTapeMark]
  (repeat' split) <;> simp

@[simp] theorem tapeResetTransport_frame (s : State) :
    (tapeResetTransport s).changer = s.changer ∧ (tapeResetTransport s).drive = s.drive ∧
    (tapeResetTransport s).lamp = s.lamp ∧ (tapeResetTransport s).thermal = s.thermal ∧
    (tapeResetTransport s).remote = s.remote ∧ (tapeResetTransport s).bus = s.bus ∧
    (tapeResetTransport s).link = s.link ∧ (tapeResetTransport s).pending = s.pending := by
  simp only [tapeResetTransport]
  (repeat' split) <;> simp

@[simp] theorem tapeResetRequest_frame (s : State) :
    (tapeResetRequest s).changer = s.changer ∧ (tapeResetRequest s).drive = s.drive ∧
    (tapeResetRequest s).lamp = s.lamp ∧ (tapeResetRequest s).thermal = s.thermal ∧
    (tapeResetRequest s).remote = s.remote ∧ (tapeResetRequest s).bus = s.bus ∧ (tapeResetRequest s).link = s.link ∧
    (tapeResetRequest s).pending = s.pending := by
  simp [tapeResetRequest]

/-! ### The Changer Controller and the Tray Drive -/

@[simp] theorem finishChange_frame (r : ChangeResult) (s : State) :
    (finishChange r s).drive = s.drive ∧ (finishChange r s).lamp = s.lamp ∧ (finishChange r s).thermal = s.thermal ∧
    (finishChange r s).tape = s.tape ∧ (finishChange r s).cue = s.cue ∧ (finishChange r s).remote = s.remote ∧
    (finishChange r s).bus = s.bus ∧ (finishChange r s).pending = s.pending := by
  simp only [finishChange]
  (repeat' split) <;> simp

@[simp] theorem jam_frame (r : JamReason) (s : State) :
    (jam r s).thermal = s.thermal ∧ (jam r s).tape = s.tape ∧ (jam r s).cue = s.cue ∧ (jam r s).remote = s.remote ∧
    (jam r s).bus = s.bus ∧ (jam r s).pending = s.pending := by
  simp [jam]

@[simp] theorem enterSettling_frame (s : State) :
    (enterSettling s).lamp = s.lamp ∧ (enterSettling s).thermal = s.thermal ∧ (enterSettling s).tape = s.tape ∧
    (enterSettling s).cue = s.cue ∧ (enterSettling s).remote = s.remote ∧ (enterSettling s).bus = s.bus ∧
    (enterSettling s).link = s.link ∧ (enterSettling s).pending = s.pending := by
  simp [enterSettling]

@[simp] theorem enterDropping_frame (s : State) :
    (enterDropping s).lamp = s.lamp ∧ (enterDropping s).thermal = s.thermal ∧ (enterDropping s).tape = s.tape ∧
    (enterDropping s).cue = s.cue ∧ (enterDropping s).remote = s.remote ∧ (enterDropping s).bus = s.bus ∧
    (enterDropping s).link = s.link ∧ (enterDropping s).pending = s.pending := by
  simp only [enterDropping]
  (repeat' split) <;> simp

@[simp] theorem windowReached_frame (s : State) :
    (windowReached s).lamp = s.lamp ∧ (windowReached s).thermal = s.thermal ∧ (windowReached s).tape = s.tape ∧
    (windowReached s).cue = s.cue ∧ (windowReached s).remote = s.remote ∧ (windowReached s).bus = s.bus ∧
    (windowReached s).link = s.link ∧ (windowReached s).pending = s.pending := by
  simp [windowReached]

@[simp] theorem enterRotating_frame (s : State) :
    (enterRotating s).thermal = s.thermal ∧ (enterRotating s).tape = s.tape ∧ (enterRotating s).cue = s.cue ∧
    (enterRotating s).remote = s.remote ∧ (enterRotating s).bus = s.bus ∧ (enterRotating s).pending = s.pending := by
  simp only [enterRotating]
  (repeat' split) <;> simp

@[simp] theorem stall_frame (s : State) :
    (stall s).thermal = s.thermal ∧ (stall s).tape = s.tape ∧ (stall s).cue = s.cue ∧ (stall s).remote = s.remote ∧
    (stall s).bus = s.bus ∧ (stall s).pending = s.pending := by
  simp only [stall]
  (repeat' split) <;> simp

@[simp] theorem windowMiss_frame (s : State) :
    (windowMiss s).thermal = s.thermal ∧ (windowMiss s).tape = s.tape ∧ (windowMiss s).cue = s.cue ∧
    (windowMiss s).remote = s.remote ∧ (windowMiss s).bus = s.bus ∧ (windowMiss s).pending = s.pending := by
  simp only [windowMiss]
  (repeat' split) <;> simp

@[simp] theorem windowBrakeEnd_frame (s : State) :
    (windowBrakeEnd s).thermal = s.thermal ∧ (windowBrakeEnd s).tape = s.tape ∧ (windowBrakeEnd s).cue = s.cue ∧
    (windowBrakeEnd s).remote = s.remote ∧ (windowBrakeEnd s).bus = s.bus ∧
    (windowBrakeEnd s).pending = s.pending := by
  simp only [windowBrakeEnd]
  (repeat' split) <;> simp

@[simp] theorem brakeEnd_frame (s : State) :
    (brakeEnd s).thermal = s.thermal ∧ (brakeEnd s).tape = s.tape ∧ (brakeEnd s).cue = s.cue ∧
    (brakeEnd s).remote = s.remote ∧ (brakeEnd s).bus = s.bus ∧ (brakeEnd s).pending = s.pending := by
  simp only [brakeEnd]
  (repeat' split) <;> simp

@[simp] theorem enterLifting_frame (s : State) :
    (enterLifting s).thermal = s.thermal ∧ (enterLifting s).tape = s.tape ∧ (enterLifting s).cue = s.cue ∧
    (enterLifting s).remote = s.remote ∧ (enterLifting s).bus = s.bus ∧ (enterLifting s).pending = s.pending := by
  simp only [enterLifting]
  (repeat' split) <;> simp

@[simp] theorem enterFadingOut_frame (s : State) :
    (enterFadingOut s).thermal = s.thermal ∧ (enterFadingOut s).tape = s.tape ∧ (enterFadingOut s).cue = s.cue ∧
    (enterFadingOut s).remote = s.remote ∧ (enterFadingOut s).bus = s.bus ∧
    (enterFadingOut s).pending = s.pending := by
  simp only [enterFadingOut]
  (repeat' split) <;> simp

@[simp] theorem discardAtTrayEnd_frame (rest : List Entry) (s : State) :
    (discardAtTrayEnd rest s).drive = s.drive ∧ (discardAtTrayEnd rest s).lamp = s.lamp ∧
    (discardAtTrayEnd rest s).thermal = s.thermal ∧ (discardAtTrayEnd rest s).tape = s.tape ∧
    (discardAtTrayEnd rest s).cue = s.cue ∧ (discardAtTrayEnd rest s).remote = s.remote ∧
    (discardAtTrayEnd rest s).bus = s.bus ∧ (discardAtTrayEnd rest s).pending = s.pending := by
  simp [discardAtTrayEnd]

@[simp] theorem takeFrom_frame (q : List Entry) (s : State) :
    (takeFrom q s).thermal = s.thermal ∧ (takeFrom q s).tape = s.tape ∧ (takeFrom q s).cue = s.cue ∧
    (takeFrom q s).remote = s.remote ∧ (takeFrom q s).bus = s.bus ∧ (takeFrom q s).pending = s.pending := by
  induction q generalizing s with
  | nil => simp [takeFrom]
  | cons e rest ih =>
    simp only [takeFrom]
    split <;> simp [ih]

@[simp] theorem pump_frame (s : State) :
    (pump s).thermal = s.thermal ∧ (pump s).tape = s.tape ∧ (pump s).cue = s.cue ∧ (pump s).remote = s.remote ∧
    (pump s).bus = s.bus ∧ (pump s).pending = s.pending := by
  simp only [pump]
  (repeat' split) <;> simp

@[simp] theorem enterShowing_frame (s : State) :
    (enterShowing s).thermal = s.thermal ∧ (enterShowing s).tape = s.tape ∧ (enterShowing s).cue = s.cue ∧
    (enterShowing s).remote = s.remote ∧ (enterShowing s).bus = s.bus ∧ (enterShowing s).pending = s.pending := by
  simp [enterShowing]

@[simp] theorem pushLoop_frame (slot count : Nat) (s : State) :
    (pushLoop slot count s).drive = s.drive ∧ (pushLoop slot count s).lamp = s.lamp ∧
    (pushLoop slot count s).thermal = s.thermal ∧ (pushLoop slot count s).tape = s.tape ∧
    (pushLoop slot count s).cue = s.cue ∧ (pushLoop slot count s).remote = s.remote ∧
    (pushLoop slot count s).bus = s.bus ∧ (pushLoop slot count s).pending = s.pending := by
  simp only [pushLoop]
  (repeat' split) <;> simp

@[simp] theorem arriveLoop_frame (slot : Nat) (mark : LoopMark) (isStep : Bool) (s : State) :
    (arriveLoop slot mark isStep s).drive = s.drive ∧ (arriveLoop slot mark isStep s).lamp = s.lamp ∧
    (arriveLoop slot mark isStep s).thermal = s.thermal ∧ (arriveLoop slot mark isStep s).tape = s.tape ∧
    (arriveLoop slot mark isStep s).cue = s.cue ∧ (arriveLoop slot mark isStep s).remote = s.remote ∧
    (arriveLoop slot mark isStep s).bus = s.bus ∧ (arriveLoop slot mark isStep s).pending = s.pending := by
  simp only [arriveLoop]
  (repeat' split) <;> simp

@[simp] theorem arrive_frame (slot : Nat) (r : SlotRecord) (isStep : Bool) (s : State) :
    (arrive slot r isStep s).drive = s.drive ∧ (arrive slot r isStep s).thermal = s.thermal ∧
    (arrive slot r isStep s).remote = s.remote ∧ (arrive slot r isStep s).bus = s.bus ∧
    (arrive slot r isStep s).pending = s.pending := by
  simp [arrive]

@[simp] theorem slideFound_frame (slot : Nat) (isStep : Bool) (s : State) :
    (slideFound slot isStep s).thermal = s.thermal ∧ (slideFound slot isStep s).remote = s.remote ∧
    (slideFound slot isStep s).bus = s.bus ∧ (slideFound slot isStep s).pending = s.pending := by
  simp only [slideFound]
  (repeat' split) <;> simp

@[simp] theorem showDark_frame (s : State) :
    (showDark s).thermal = s.thermal ∧ (showDark s).tape = s.tape ∧ (showDark s).cue = s.cue ∧
    (showDark s).remote = s.remote ∧ (showDark s).bus = s.bus ∧ (showDark s).pending = s.pending := by
  simp [showDark]

@[simp] theorem gateEmpty_frame (slot : Nat) (ch : Change) (s : State) :
    (gateEmpty slot ch s).thermal = s.thermal ∧ (gateEmpty slot ch s).tape = s.tape ∧
    (gateEmpty slot ch s).cue = s.cue ∧ (gateEmpty slot ch s).remote = s.remote ∧
    (gateEmpty slot ch s).bus = s.bus ∧ (gateEmpty slot ch s).pending = s.pending := by
  simp only [gateEmpty]
  (repeat' split) <;> simp

@[simp] theorem settleEnd_frame (s : State) :
    (settleEnd s).thermal = s.thermal ∧ (settleEnd s).remote = s.remote ∧ (settleEnd s).bus = s.bus ∧
    (settleEnd s).pending = s.pending := by
  simp only [settleEnd]
  (repeat' split) <;> simp

@[simp] theorem startSeek_frame (s : State) :
    (startSeek s).changer = s.changer ∧ (startSeek s).lamp = s.lamp ∧ (startSeek s).thermal = s.thermal ∧
    (startSeek s).tape = s.tape ∧ (startSeek s).cue = s.cue ∧ (startSeek s).remote = s.remote ∧
    (startSeek s).bus = s.bus ∧ (startSeek s).link = s.link ∧ (startSeek s).pending = s.pending := by
  simp [startSeek]

@[simp] theorem startHoming_frame (src : Source) (s : State) :
    (startHoming src s).thermal = s.thermal ∧ (startHoming src s).tape = s.tape ∧ (startHoming src s).cue = s.cue ∧
    (startHoming src s).remote = s.remote ∧ (startHoming src s).bus = s.bus ∧ (startHoming src s).link = s.link ∧
    (startHoming src s).pending = s.pending := by
  simp only [startHoming]
  (repeat' split) <;> simp

@[simp] theorem rehome_frame (s : State) :
    (rehome s).thermal = s.thermal ∧ (rehome s).tape = s.tape ∧ (rehome s).cue = s.cue ∧
    (rehome s).remote = s.remote ∧ (rehome s).bus = s.bus ∧ (rehome s).link = s.link ∧
    (rehome s).pending = s.pending := by
  simp [rehome]

@[simp] theorem indexSeen_frame (s : State) :
    (indexSeen s).lamp = s.lamp ∧ (indexSeen s).thermal = s.thermal ∧ (indexSeen s).tape = s.tape ∧
    (indexSeen s).cue = s.cue ∧ (indexSeen s).remote = s.remote ∧ (indexSeen s).bus = s.bus ∧
    (indexSeen s).link = s.link ∧ (indexSeen s).pending = s.pending := by
  simp [indexSeen]

@[simp] theorem reportDisplaced_frame (e : Entry) (s : State) :
    (reportDisplaced e s).changer = s.changer ∧ (reportDisplaced e s).drive = s.drive ∧
    (reportDisplaced e s).lamp = s.lamp ∧ (reportDisplaced e s).thermal = s.thermal ∧
    (reportDisplaced e s).tape = s.tape ∧ (reportDisplaced e s).cue = s.cue ∧
    (reportDisplaced e s).remote = s.remote ∧ (reportDisplaced e s).bus = s.bus ∧
    (reportDisplaced e s).pending = s.pending := by
  simp only [reportDisplaced]
  (repeat' split) <;> simp

@[simp] theorem refuseUnhomed_frame (src : Source) (s : State) :
    (refuseUnhomed src s).1.thermal = s.thermal ∧ (refuseUnhomed src s).1.tape = s.tape ∧
    (refuseUnhomed src s).1.cue = s.cue ∧ (refuseUnhomed src s).1.remote = s.remote ∧
    (refuseUnhomed src s).1.bus = s.bus ∧ (refuseUnhomed src s).1.link = s.link ∧
    (refuseUnhomed src s).1.pending = s.pending := by
  simp only [refuseUnhomed]
  (repeat' split) <;> simp

@[simp] theorem enqueue_frame (q : List Entry) (s : State) :
    (enqueue q s).thermal = s.thermal ∧ (enqueue q s).tape = s.tape ∧ (enqueue q s).cue = s.cue ∧
    (enqueue q s).remote = s.remote ∧ (enqueue q s).bus = s.bus ∧ (enqueue q s).pending = s.pending := by
  simp [enqueue]

@[simp] theorem offerStep_frame (src : Source) (k : Int) (s : State) :
    (offerStep src k s).1.thermal = s.thermal ∧ (offerStep src k s).1.tape = s.tape ∧
    (offerStep src k s).1.cue = s.cue ∧ (offerStep src k s).1.remote = s.remote ∧
    (offerStep src k s).1.bus = s.bus ∧ (offerStep src k s).1.pending = s.pending := by
  simp only [offerStep]
  (repeat' split) <;> simp

@[simp] theorem queueGoto_frame (e : Entry) (s : State) :
    (queueGoto e s).thermal = s.thermal ∧ (queueGoto e s).tape = s.tape ∧ (queueGoto e s).cue = s.cue ∧
    (queueGoto e s).remote = s.remote ∧ (queueGoto e s).bus = s.bus ∧ (queueGoto e s).pending = s.pending := by
  simp only [queueGoto]
  (repeat' split) <;> simp

@[simp] theorem offerGoto_frame (src : Source) (lb : Bool) (n : Nat) (s : State) :
    (offerGoto src lb n s).1.thermal = s.thermal ∧ (offerGoto src lb n s).1.tape = s.tape ∧
    (offerGoto src lb n s).1.cue = s.cue ∧ (offerGoto src lb n s).1.remote = s.remote ∧
    (offerGoto src lb n s).1.bus = s.bus ∧ (offerGoto src lb n s).1.pending = s.pending := by
  simp only [offerGoto]
  (repeat' split) <;> simp

@[simp] theorem autoStep_frame (s : State) :
    (autoStep s).thermal = s.thermal ∧ (autoStep s).tape = s.tape ∧ (autoStep s).cue = s.cue ∧
    (autoStep s).remote = s.remote ∧ (autoStep s).bus = s.bus ∧ (autoStep s).pending = s.pending := by
  simp only [autoStep]
  (repeat' split) <;> simp

@[simp] theorem loopBack_frame (top : LoopFrame) (more : List LoopFrame) (s : State) :
    (loopBack top more s).thermal = s.thermal ∧ (loopBack top more s).tape = s.tape ∧
    (loopBack top more s).cue = s.cue ∧ (loopBack top more s).remote = s.remote ∧
    (loopBack top more s).bus = s.bus ∧ (loopBack top more s).pending = s.pending := by
  simp only [loopBack]
  (repeat' split) <;> simp

@[simp] theorem expireDwell_frame (s : State) :
    (expireDwell s).thermal = s.thermal ∧ (expireDwell s).tape = s.tape ∧ (expireDwell s).cue = s.cue ∧
    (expireDwell s).remote = s.remote ∧ (expireDwell s).bus = s.bus ∧ (expireDwell s).pending = s.pending := by
  simp only [expireDwell]
  (repeat' split) <;> simp

@[simp] theorem gateInShowing_frame (occupied : Bool) (slot : Nat) (s : State) :
    (gateInShowing occupied slot s).drive = s.drive ∧ (gateInShowing occupied slot s).thermal = s.thermal ∧
    (gateInShowing occupied slot s).tape = s.tape ∧ (gateInShowing occupied slot s).cue = s.cue ∧
    (gateInShowing occupied slot s).remote = s.remote ∧ (gateInShowing occupied slot s).bus = s.bus ∧
    (gateInShowing occupied slot s).pending = s.pending := by
  simp only [gateInShowing]
  (repeat' split) <;> simp

@[simp] theorem indexHomed_frame (s : State) :
    (indexHomed s).changer = s.changer ∧ (indexHomed s).lamp = s.lamp ∧ (indexHomed s).thermal = s.thermal ∧
    (indexHomed s).tape = s.tape ∧ (indexHomed s).cue = s.cue ∧ (indexHomed s).remote = s.remote ∧
    (indexHomed s).bus = s.bus ∧ (indexHomed s).pending = s.pending := by
  simp only [indexHomed]
  (repeat' split) <;> simp

@[simp] theorem upReached_frame (s : State) :
    (upReached s).thermal = s.thermal ∧ (upReached s).tape = s.tape ∧ (upReached s).cue = s.cue ∧
    (upReached s).remote = s.remote ∧ (upReached s).bus = s.bus ∧ (upReached s).pending = s.pending := by
  simp only [upReached]
  (repeat' split) <;> simp

@[simp] theorem downReached_frame (s : State) :
    (downReached s).lamp = s.lamp ∧ (downReached s).thermal = s.thermal ∧ (downReached s).tape = s.tape ∧
    (downReached s).cue = s.cue ∧ (downReached s).remote = s.remote ∧ (downReached s).bus = s.bus ∧
    (downReached s).link = s.link ∧ (downReached s).pending = s.pending := by
  simp only [downReached]
  (repeat' split) <;> simp

@[simp] theorem offerHome_frame (s : State) :
    (offerHome s).1.thermal = s.thermal ∧ (offerHome s).1.tape = s.tape ∧ (offerHome s).1.cue = s.cue ∧
    (offerHome s).1.remote = s.remote ∧ (offerHome s).1.bus = s.bus ∧ (offerHome s).1.link = s.link ∧
    (offerHome s).1.pending = s.pending := by
  simp only [offerHome]
  (repeat' split) <;> simp

/-! ### The Thermal Unit -/

@[simp] theorem offerProfile_frame (p : Nat) (s : State) :
    (offerProfile p s).1.changer = s.changer ∧ (offerProfile p s).1.drive = s.drive ∧
    (offerProfile p s).1.lamp = s.lamp ∧ (offerProfile p s).1.tape = s.tape ∧ (offerProfile p s).1.cue = s.cue ∧
    (offerProfile p s).1.remote = s.remote ∧ (offerProfile p s).1.bus = s.bus ∧ (offerProfile p s).1.link = s.link ∧
    (offerProfile p s).1.pending = s.pending := by
  simp only [offerProfile]
  (repeat' split) <;> simp

@[simp] theorem estimateStage_frame (used : Bool) (light duty : Nat) (s : State) :
    (estimateStage used light duty s).changer = s.changer ∧ (estimateStage used light duty s).drive = s.drive ∧
    (estimateStage used light duty s).lamp = s.lamp ∧ (estimateStage used light duty s).tape = s.tape ∧
    (estimateStage used light duty s).cue = s.cue ∧ (estimateStage used light duty s).remote = s.remote ∧
    (estimateStage used light duty s).bus = s.bus ∧ (estimateStage used light duty s).pending = s.pending := by
  simp only [estimateStage]
  (repeat' split) <;> simp

@[simp] theorem bandEntered_frame (before : Band) (s : State) :
    (bandEntered before s).changer = s.changer ∧ (bandEntered before s).drive = s.drive ∧
    (bandEntered before s).tape = s.tape ∧ (bandEntered before s).cue = s.cue ∧
    (bandEntered before s).remote = s.remote ∧ (bandEntered before s).bus = s.bus ∧
    (bandEntered before s).pending = s.pending := by
  simp only [bandEntered]
  (repeat' split) <;> simp

@[simp] theorem bandStage_frame (cd : Bool) (s : State) :
    (bandStage cd s).changer = s.changer ∧ (bandStage cd s).drive = s.drive ∧ (bandStage cd s).tape = s.tape ∧
    (bandStage cd s).cue = s.cue ∧ (bandStage cd s).remote = s.remote ∧ (bandStage cd s).bus = s.bus ∧
    (bandStage cd s).pending = s.pending := by
  simp [bandStage]

@[simp] theorem tachStage_frame (duty : Nat) (s : State) :
    (tachStage duty s).changer = s.changer ∧ (tachStage duty s).drive = s.drive ∧ (tachStage duty s).lamp = s.lamp ∧
    (tachStage duty s).tape = s.tape ∧ (tachStage duty s).cue = s.cue ∧ (tachStage duty s).remote = s.remote ∧
    (tachStage duty s).bus = s.bus ∧ (tachStage duty s).pending = s.pending := by
  simp only [tachStage]
  (repeat' split) <;> simp

@[simp] theorem dutyStage_frame (duty : Nat) (s : State) :
    (dutyStage duty s).changer = s.changer ∧ (dutyStage duty s).drive = s.drive ∧ (dutyStage duty s).lamp = s.lamp ∧
    (dutyStage duty s).tape = s.tape ∧ (dutyStage duty s).cue = s.cue ∧ (dutyStage duty s).remote = s.remote ∧
    (dutyStage duty s).bus = s.bus ∧ (dutyStage duty s).link = s.link ∧ (dutyStage duty s).pending = s.pending := by
  simp [dutyStage]

@[simp] theorem reportStage_frame (s : State) :
    (reportStage s).changer = s.changer ∧ (reportStage s).drive = s.drive ∧ (reportStage s).tape = s.tape ∧
    (reportStage s).cue = s.cue ∧ (reportStage s).remote = s.remote ∧ (reportStage s).bus = s.bus ∧
    (reportStage s).link = s.link ∧ (reportStage s).pending = s.pending := by
  simp [reportStage]

@[simp] theorem sampleStage_frame (r : Sample) (theta : Int) (s : State) :
    (sampleStage r theta s).changer = s.changer ∧ (sampleStage r theta s).drive = s.drive ∧
    (sampleStage r theta s).tape = s.tape ∧ (sampleStage r theta s).cue = s.cue ∧
    (sampleStage r theta s).remote = s.remote ∧ (sampleStage r theta s).bus = s.bus ∧
    (sampleStage r theta s).pending = s.pending := by
  simp only [sampleStage]
  (repeat' split) <;> simp

@[simp] theorem periodComputation_frame (r : Sample) (h : Handover) (s : State) :
    (periodComputation r h s).changer = s.changer ∧ (periodComputation r h s).drive = s.drive ∧
    (periodComputation r h s).tape = s.tape ∧ (periodComputation r h s).cue = s.cue ∧
    (periodComputation r h s).remote = s.remote ∧ (periodComputation r h s).bus = s.bus ∧
    (periodComputation r h s).pending = s.pending := by
  simp [periodComputation]

/-! ### The Bus Port -/

@[simp] theorem offerFrame_frame (o d key : Nat) (args : List Nat) (rep : Bool) (s : State) :
    (offerFrame o d key args rep s).1.changer = s.changer ∧ (offerFrame o d key args rep s).1.drive = s.drive ∧
    (offerFrame o d key args rep s).1.lamp = s.lamp ∧ (offerFrame o d key args rep s).1.thermal = s.thermal ∧
    (offerFrame o d key args rep s).1.tape = s.tape ∧ (offerFrame o d key args rep s).1.cue = s.cue ∧
    (offerFrame o d key args rep s).1.remote = s.remote ∧ (offerFrame o d key args rep s).1.link = s.link ∧
    (offerFrame o d key args rep s).1.pending = s.pending := by
  simp only [offerFrame]
  (repeat' split) <;> simp

@[simp] theorem dropFrame_frame (c : DropCause) (s : State) :
    (dropFrame c s).changer = s.changer ∧ (dropFrame c s).drive = s.drive ∧ (dropFrame c s).lamp = s.lamp ∧
    (dropFrame c s).thermal = s.thermal ∧ (dropFrame c s).tape = s.tape ∧ (dropFrame c s).cue = s.cue ∧
    (dropFrame c s).remote = s.remote ∧ (dropFrame c s).pending = s.pending := by
  simp only [dropFrame]
  (repeat' split) <;> simp

@[simp] theorem retryFrame_frame (s : State) :
    (retryFrame s).changer = s.changer ∧ (retryFrame s).drive = s.drive ∧ (retryFrame s).lamp = s.lamp ∧
    (retryFrame s).thermal = s.thermal ∧ (retryFrame s).tape = s.tape ∧ (retryFrame s).cue = s.cue ∧
    (retryFrame s).remote = s.remote ∧ (retryFrame s).pending = s.pending := by
  simp only [retryFrame]
  (repeat' split) <;> simp

@[simp] theorem enterPort_frame (p : PortState) (s : State) :
    (enterPort p s).changer = s.changer ∧ (enterPort p s).drive = s.drive ∧ (enterPort p s).lamp = s.lamp ∧
    (enterPort p s).thermal = s.thermal ∧ (enterPort p s).tape = s.tape ∧ (enterPort p s).cue = s.cue ∧
    (enterPort p s).remote = s.remote ∧ (enterPort p s).pending = s.pending := by
  simp only [enterPort]
  (repeat' split) <;> simp

@[simp] theorem decidePort_frame (s : State) :
    (decidePort s).changer = s.changer ∧ (decidePort s).drive = s.drive ∧ (decidePort s).lamp = s.lamp ∧
    (decidePort s).thermal = s.thermal ∧ (decidePort s).tape = s.tape ∧ (decidePort s).cue = s.cue ∧
    (decidePort s).remote = s.remote ∧ (decidePort s).pending = s.pending := by
  simp only [decidePort]
  (repeat' split) <;> simp

@[simp] theorem countGood_frame (s : State) :
    (countGood s).changer = s.changer ∧ (countGood s).drive = s.drive ∧ (countGood s).lamp = s.lamp ∧
    (countGood s).thermal = s.thermal ∧ (countGood s).tape = s.tape ∧ (countGood s).cue = s.cue ∧
    (countGood s).remote = s.remote ∧ (countGood s).pending = s.pending := by
  simp [countGood]

@[simp] theorem countBad_frame (s : State) :
    (countBad s).changer = s.changer ∧ (countBad s).drive = s.drive ∧ (countBad s).lamp = s.lamp ∧
    (countBad s).thermal = s.thermal ∧ (countBad s).tape = s.tape ∧ (countBad s).cue = s.cue ∧
    (countBad s).remote = s.remote ∧ (countBad s).pending = s.pending := by
  simp [countBad]

@[simp] theorem countCollision_frame (s : State) :
    (countCollision s).changer = s.changer ∧ (countCollision s).drive = s.drive ∧ (countCollision s).lamp = s.lamp ∧
    (countCollision s).thermal = s.thermal ∧ (countCollision s).tape = s.tape ∧ (countCollision s).cue = s.cue ∧
    (countCollision s).remote = s.remote ∧ (countCollision s).pending = s.pending := by
  simp [countCollision]

@[simp] theorem answerStatus_frame (seq : Nat) (s : State) :
    (answerStatus seq s).changer = s.changer ∧ (answerStatus seq s).drive = s.drive ∧
    (answerStatus seq s).lamp = s.lamp ∧ (answerStatus seq s).thermal = s.thermal ∧
    (answerStatus seq s).tape = s.tape ∧ (answerStatus seq s).cue = s.cue ∧ (answerStatus seq s).remote = s.remote ∧
    (answerStatus seq s).link = s.link ∧ (answerStatus seq s).pending = s.pending := by
  simp only [answerStatus]
  (repeat' split) <;> simp

@[simp] theorem giveWay_frame (p : Port) (s : State) :
    (giveWay p s).changer = s.changer ∧ (giveWay p s).drive = s.drive ∧ (giveWay p s).lamp = s.lamp ∧
    (giveWay p s).thermal = s.thermal ∧ (giveWay p s).tape = s.tape ∧ (giveWay p s).cue = s.cue ∧
    (giveWay p s).remote = s.remote ∧ (giveWay p s).pending = s.pending := by
  simp only [giveWay]
  (repeat' split) <;> simp

@[simp] theorem startForward_frame (p : Port) (bytes : List Byte) (s : State) :
    (startForward p bytes s).changer = s.changer ∧ (startForward p bytes s).drive = s.drive ∧
    (startForward p bytes s).lamp = s.lamp ∧ (startForward p bytes s).thermal = s.thermal ∧
    (startForward p bytes s).tape = s.tape ∧ (startForward p bytes s).cue = s.cue ∧
    (startForward p bytes s).remote = s.remote ∧ (startForward p bytes s).pending = s.pending := by
  simp [startForward]

/-! ### The Remote Unit -/

@[simp] theorem offerKey_frame (src : Source) (key : Nat) (args : List Nat) (s : State) :
    (offerKey src key args s).1.remote = s.remote ∧ (offerKey src key args s).1.bus = s.bus ∧
    (offerKey src key args s).1.pending = s.pending := by
  simp only [offerKey]
  (repeat' split) <;> simp

@[simp] theorem actKey_frame (src : Source) (key : Nat) (args : List Nat) (s : State) :
    (actKey src key args s).remote = s.remote ∧ (actKey src key args s).bus = s.bus ∧
    (actKey src key args s).pending = s.pending := by
  simp only [actKey]
  (repeat' split) <;> simp

@[simp] theorem actHandsetKey_frame (rights : Rights) (f : RemoteFrame) (s : State) :
    (actHandsetKey rights f s).remote = s.remote ∧ (actHandsetKey rights f s).bus = s.bus ∧
    (actHandsetKey rights f s).pending = s.pending := by
  simp only [actHandsetKey]
  (repeat' split) <;> simp

@[simp] theorem handsetFrame_frame (n : Nat) (f : RemoteFrame) (s : State) :
    (handsetFrame n f s).bus = s.bus ∧ (handsetFrame n f s).pending = s.pending := by
  simp only [handsetFrame]
  (repeat' split) <;> simp

@[simp] theorem consoleFrame_frame (f : RemoteFrame) (s : State) :
    (consoleFrame f s).bus = s.bus ∧ (consoleFrame f s).pending = s.pending := by
  simp only [consoleFrame]
  (repeat' split) <;> simp

@[simp] theorem pairEntry_frame (n : Nat) (w : PairingWindow) (f : RemoteFrame) (old : Option Nat) (s : State) :
    (pairEntry n w f old s).changer = s.changer ∧ (pairEntry n w f old s).drive = s.drive ∧
    (pairEntry n w f old s).lamp = s.lamp ∧ (pairEntry n w f old s).thermal = s.thermal ∧
    (pairEntry n w f old s).tape = s.tape ∧ (pairEntry n w f old s).cue = s.cue ∧
    (pairEntry n w f old s).bus = s.bus ∧ (pairEntry n w f old s).pending = s.pending := by
  simp [pairEntry]

@[simp] theorem pairNew_frame (w : PairingWindow) (f : RemoteFrame) (s : State) :
    (pairNew w f s).changer = s.changer ∧ (pairNew w f s).drive = s.drive ∧ (pairNew w f s).lamp = s.lamp ∧
    (pairNew w f s).thermal = s.thermal ∧ (pairNew w f s).tape = s.tape ∧ (pairNew w f s).cue = s.cue ∧
    (pairNew w f s).bus = s.bus ∧ (pairNew w f s).pending = s.pending := by
  simp only [pairNew]
  (repeat' split) <;> simp

@[simp] theorem senderFrame_frame (f : RemoteFrame) (s : State) :
    (senderFrame f s).bus = s.bus ∧ (senderFrame f s).pending = s.pending := by
  simp only [senderFrame]
  (repeat' split) <;> simp

@[simp] theorem irFrameDone_frame (bytes : List Byte) (mine : Bool) (s : State) :
    (irFrameDone bytes mine s).bus = s.bus ∧ (irFrameDone bytes mine s).pending = s.pending := by
  simp only [irFrameDone]
  (repeat' split) <;> simp

@[simp] theorem irDiscard_frame (c : FrameFault) (s : State) :
    (irDiscard c s).changer = s.changer ∧ (irDiscard c s).drive = s.drive ∧ (irDiscard c s).lamp = s.lamp ∧
    (irDiscard c s).thermal = s.thermal ∧ (irDiscard c s).tape = s.tape ∧ (irDiscard c s).cue = s.cue ∧
    (irDiscard c s).bus = s.bus ∧ (irDiscard c s).pending = s.pending := by
  simp [irDiscard]

@[simp] theorem irByte_frame (before : List Byte) (mine : Bool) (b : Byte) (s : State) :
    (irByte before mine b s).bus = s.bus ∧ (irByte before mine b s).pending = s.pending := by
  simp only [irByte]
  (repeat' split) <;> simp

@[simp] theorem irTake_frame (b : Byte) (s : State) :
    (irTake b s).bus = s.bus ∧ (irTake b s).pending = s.pending := by
  simp only [irTake]
  (repeat' split) <;> simp

/-! ### Receiving on the bus -/

@[simp] theorem reportBad_frame (p : Port) (named : Bool) (c : FrameFault) (s : State) :
    (reportBad p named c s).changer = s.changer ∧ (reportBad p named c s).drive = s.drive ∧
    (reportBad p named c s).lamp = s.lamp ∧ (reportBad p named c s).thermal = s.thermal ∧
    (reportBad p named c s).tape = s.tape ∧ (reportBad p named c s).cue = s.cue ∧
    (reportBad p named c s).remote = s.remote ∧ (reportBad p named c s).bus = s.bus ∧
    (reportBad p named c s).pending = s.pending := by
  simp only [reportBad]
  (repeat' split) <;> simp

@[simp] theorem endBad_frame (p : Port) (rx : BusRx) (named : Bool) (c : FrameFault) (s : State) :
    (endBad p rx named c s).changer = s.changer ∧ (endBad p rx named c s).drive = s.drive ∧
    (endBad p rx named c s).lamp = s.lamp ∧ (endBad p rx named c s).thermal = s.thermal ∧
    (endBad p rx named c s).tape = s.tape ∧ (endBad p rx named c s).cue = s.cue ∧
    (endBad p rx named c s).remote = s.remote ∧ (endBad p rx named c s).pending = s.pending := by
  simp [endBad]

@[simp] theorem takeFrame_frame (f : RemoteFrame) (s : State) :
    (takeFrame f s).pending = s.pending := by
  simp only [takeFrame]
  (repeat' split) <;> simp

@[simp] theorem endComplete_frame (p : Port) (bytes : List Byte) (c : Bool) (s : State) :
    (endComplete p bytes c s).pending = s.pending := by
  simp only [endComplete]
  (repeat' split) <;> simp

@[simp] theorem decideIn_frame (l b : Byte) (s : State) :
    (decideIn l b s).changer = s.changer ∧ (decideIn l b s).drive = s.drive ∧ (decideIn l b s).lamp = s.lamp ∧
    (decideIn l b s).thermal = s.thermal ∧ (decideIn l b s).tape = s.tape ∧ (decideIn l b s).cue = s.cue ∧
    (decideIn l b s).remote = s.remote ∧ (decideIn l b s).pending = s.pending := by
  simp only [decideIn]
  (repeat' split) <;> simp

@[simp] theorem decideOut_frame (l b : Byte) (s : State) :
    (decideOut l b s).changer = s.changer ∧ (decideOut l b s).drive = s.drive ∧ (decideOut l b s).lamp = s.lamp ∧
    (decideOut l b s).thermal = s.thermal ∧ (decideOut l b s).tape = s.tape ∧ (decideOut l b s).cue = s.cue ∧
    (decideOut l b s).remote = s.remote ∧ (decideOut l b s).pending = s.pending := by
  simp only [decideOut]
  (repeat' split) <;> simp

@[simp] theorem decideDestination_frame (p : Port) (l b : Byte) (s : State) :
    (decideDestination p l b s).changer = s.changer ∧ (decideDestination p l b s).drive = s.drive ∧
    (decideDestination p l b s).lamp = s.lamp ∧ (decideDestination p l b s).thermal = s.thermal ∧
    (decideDestination p l b s).tape = s.tape ∧ (decideDestination p l b s).cue = s.cue ∧
    (decideDestination p l b s).remote = s.remote ∧ (decideDestination p l b s).pending = s.pending := by
  simp only [decideDestination]
  (repeat' split) <;> simp

@[simp] theorem firstByte_frame (p : Port) (b : Byte) (s : State) :
    (firstByte p b s).changer = s.changer ∧ (firstByte p b s).drive = s.drive ∧ (firstByte p b s).lamp = s.lamp ∧
    (firstByte p b s).thermal = s.thermal ∧ (firstByte p b s).tape = s.tape ∧ (firstByte p b s).cue = s.cue ∧
    (firstByte p b s).remote = s.remote ∧ (firstByte p b s).pending = s.pending := by
  simp only [firstByte]
  (repeat' split) <;> simp

@[simp] theorem laterByte_frame (p : Port) (before : List Byte) (c : Bool) (b : Byte) (s : State) :
    (laterByte p before c b s).pending = s.pending := by
  simp only [laterByte]
  (repeat' split) <;> simp

@[simp] theorem busByte_frame (p : Port) (b : Byte) (s : State) :
    (busByte p b s).pending = s.pending := by
  simp only [busByte]
  (repeat' split) <;> simp

@[simp] theorem busErrorByte_frame (p : Port) (s : State) :
    (busErrorByte p s).changer = s.changer ∧ (busErrorByte p s).drive = s.drive ∧ (busErrorByte p s).lamp = s.lamp ∧
    (busErrorByte p s).thermal = s.thermal ∧ (busErrorByte p s).tape = s.tape ∧ (busErrorByte p s).cue = s.cue ∧
    (busErrorByte p s).remote = s.remote ∧ (busErrorByte p s).pending = s.pending := by
  simp only [busErrorByte]
  (repeat' split) <;> simp

@[simp] theorem busGap_frame (p : Port) (s : State) :
    (busGap p s).changer = s.changer ∧ (busGap p s).drive = s.drive ∧ (busGap p s).lamp = s.lamp ∧
    (busGap p s).thermal = s.thermal ∧ (busGap p s).tape = s.tape ∧ (busGap p s).cue = s.cue ∧
    (busGap p s).remote = s.remote ∧ (busGap p s).pending = s.pending := by
  simp only [busGap]
  (repeat' split) <;> simp

@[simp] theorem collide_frame (p : Port) (s : State) :
    (collide p s).changer = s.changer ∧ (collide p s).drive = s.drive ∧ (collide p s).lamp = s.lamp ∧
    (collide p s).thermal = s.thermal ∧ (collide p s).tape = s.tape ∧ (collide p s).cue = s.cue ∧
    (collide p s).remote = s.remote ∧ (collide p s).pending = s.pending := by
  simp only [collide]
  (repeat' split) <;> simp

/-! ### The Cue Unit -/

@[simp] theorem offerAction_frame (n : Nat) (a : CueAction) (s : State) :
    (offerAction n a s).1.remote = s.remote ∧ (offerAction n a s).1.pending = s.pending := by
  simp only [offerAction]
  (repeat' split) <;> simp

@[simp] theorem cueHit_frame (n : Nat) (code : CueCode) (s : State) :
    (cueHit n code s).remote = s.remote ∧ (cueHit n code s).pending = s.pending := by
  simp only [cueHit]
  (repeat' split) <;> simp

@[simp] theorem legacyStep_frame (code : CueCode) (s : State) :
    (legacyStep code s).thermal = s.thermal ∧ (legacyStep code s).tape = s.tape ∧ (legacyStep code s).cue = s.cue ∧
    (legacyStep code s).remote = s.remote ∧ (legacyStep code s).bus = s.bus ∧
    (legacyStep code s).pending = s.pending := by
  simp only [legacyStep]
  (repeat' split) <;> simp

@[simp] theorem lookUp_frame (code : CueCode) (kind : CodeKind) (s : State) :
    (lookUp code kind s).remote = s.remote ∧ (lookUp code kind s).pending = s.pending := by
  simp only [lookUp]
  (repeat' split) <;> simp

@[simp] theorem learn_frame (code : CueCode) (kind : CodeKind) (s : State) :
    (learn code kind s).changer = s.changer ∧ (learn code kind s).drive = s.drive ∧
    (learn code kind s).lamp = s.lamp ∧ (learn code kind s).thermal = s.thermal ∧
    (learn code kind s).tape = s.tape ∧ (learn code kind s).remote = s.remote ∧ (learn code kind s).bus = s.bus ∧
    (learn code kind s).pending = s.pending := by
  simp only [learn]
  (repeat' split) <;> simp

@[simp] theorem acceptCode_frame (code : CueCode) (kind : CodeKind) (s : State) :
    (acceptCode code kind s).remote = s.remote ∧ (acceptCode code kind s).pending = s.pending := by
  simp only [acceptCode]
  (repeat' split) <;> simp

@[simp] theorem confirmWord_frame (code : CueCode) (s : State) :
    (confirmWord code s).remote = s.remote ∧ (confirmWord code s).pending = s.pending := by
  simp only [confirmWord]
  (repeat' split) <;> simp

@[simp] theorem wordDone_frame (bits : List Bool) (stop : Bool) (s : State) :
    (wordDone bits stop s).remote = s.remote ∧ (wordDone bits stop s).pending = s.pending := by
  simp only [wordDone]
  (repeat' split) <;> simp

@[simp] theorem toneEnd_frame (s : State) :
    (toneEnd s).changer = s.changer ∧ (toneEnd s).drive = s.drive ∧ (toneEnd s).lamp = s.lamp ∧
    (toneEnd s).thermal = s.thermal ∧ (toneEnd s).tape = s.tape ∧ (toneEnd s).remote = s.remote ∧
    (toneEnd s).bus = s.bus ∧ (toneEnd s).link = s.link ∧ (toneEnd s).pending = s.pending := by
  simp [toneEnd]

/-! ### The Panel Link -/

@[simp] theorem takeRequest_frame (frame : List Byte) (s : State) :
    (takeRequest frame s).changer = s.changer ∧ (takeRequest frame s).drive = s.drive ∧
    (takeRequest frame s).lamp = s.lamp ∧ (takeRequest frame s).thermal = s.thermal ∧
    (takeRequest frame s).tape = s.tape ∧ (takeRequest frame s).cue = s.cue ∧
    (takeRequest frame s).remote = s.remote ∧ (takeRequest frame s).bus = s.bus ∧
    (takeRequest frame s).pending = s.pending := by
  simp only [takeRequest]
  (repeat' split) <;> simp

@[simp] theorem resetBlocks_frame (s : State) :
    (resetBlocks s).pending = s.pending := by
  simp [resetBlocks]

@[simp] theorem resetRequest_frame (s : State) :
    (resetRequest s).pending = s.pending := by
  simp [resetRequest]

end Sys2Proof.Machine
end

