-- ==== Sys2Proof/Laws/Ops.lean ====
section
/-! SUPPORT. What each shared operation can do, said once: the numbered tables (a read after a write), a raised notice, an
answer over the link, a host request, the ramp arithmetic, and the changes of lamp and tape state. -/

namespace Sys2Proof.Machine

/-! ### The numbered tables -/

theorem Changer.slot_of_range (c : Changer) {n : Nat} (h : 1 ≤ n ∧ n ≤ 140) : c.slot n = c.slots[n - 1] := by
  simp [Changer.slot, h]

/-- A read of the slot written gives the record written. -/
theorem Changer.slot_setSlot_same (c : Changer) {n : Nat} (r : SlotRecord) (h : 1 ≤ n ∧ n ≤ 140) :
    (c.setSlot n r).slot n = r := by
  simp [Changer.slot, Changer.setSlot, h]

/-- A write of one slot leaves every other. -/
theorem Changer.slot_setSlot_other (c : Changer) {n m : Nat} (r : SlotRecord) (h : m ≠ n) :
    (c.setSlot n r).slot m = c.slot m := by
  unfold Changer.slot Changer.setSlot
  split
  · split
    · rw [Vector.getElem_set_ne]
      omega
    · rfl
  · rfl

@[simp] theorem Changer.setSlot_fields (c : Changer) (n : Nat) (r : SlotRecord) :
    (c.setSlot n r).tray = c.tray ∧ (c.setSlot n r).homed = c.homed ∧ (c.setSlot n r).current = c.current ∧
    (c.setSlot n r).state = c.state ∧ (c.setSlot n r).held = c.held ∧ (c.setSlot n r).dwell = c.dwell ∧
    (c.setSlot n r).dwellDue = c.dwellDue ∧ (c.setSlot n r).loops = c.loops ∧ (c.setSlot n r).run = c.run ∧
    (c.setSlot n r).skipEmpty = c.skipEmpty ∧ (c.setSlot n r).skipBlank = c.skipBlank ∧
    (c.setSlot n r).wrap = c.wrap ∧ (c.setSlot n r).queue = c.queue ∧ (c.setSlot n r).change = c.change ∧
    (c.setSlot n r).keptLoop = c.keptLoop := by
  unfold Changer.setSlot
  split <;> simp

@[simp] theorem Changer.setOccupancy_fields (c : Changer) (n : Nat) (o : Occupancy) :
    (c.setOccupancy n o).tray = c.tray ∧ (c.setOccupancy n o).homed = c.homed ∧
    (c.setOccupancy n o).current = c.current ∧ (c.setOccupancy n o).state = c.state ∧
    (c.setOccupancy n o).held = c.held ∧ (c.setOccupancy n o).dwell = c.dwell ∧
    (c.setOccupancy n o).dwellDue = c.dwellDue ∧ (c.setOccupancy n o).loops = c.loops ∧
    (c.setOccupancy n o).run = c.run ∧ (c.setOccupancy n o).skipEmpty = c.skipEmpty ∧
    (c.setOccupancy n o).skipBlank = c.skipBlank ∧ (c.setOccupancy n o).wrap = c.wrap ∧
    (c.setOccupancy n o).queue = c.queue ∧ (c.setOccupancy n o).change = c.change ∧
    (c.setOccupancy n o).keptLoop = c.keptLoop := by
  simp [Changer.setOccupancy]

/-- R4: a range change gives every record of the range the change, and no other. -/
theorem Changer.slot_mapSlots (c : Changer) (first last n : Nat) (f : SlotRecord → SlotRecord) (h : 1 ≤ n ∧ n ≤ 140) :
    (c.mapSlots first last f).slot n = if inSlotRange first last n then f (c.slot n) else c.slot n := by
  have e : n - 1 + 1 = n := by omega
  simp [Changer.slot, Changer.mapSlots, h, e]

/-- A read of the cue entry written gives the entry written. -/
theorem CueUnit.entry_setEntry_same (u : CueUnit) {n : Nat} (e : CueEntry) (h : 1 ≤ n ∧ n ≤ 32) :
    (u.setEntry n e).entry n = e := by
  simp [CueUnit.entry, CueUnit.setEntry, h]

/-- A write of one cue entry leaves every other. -/
theorem CueUnit.entry_setEntry_other (u : CueUnit) {n m : Nat} (e : CueEntry) (h : m ≠ n) :
    (u.setEntry n e).entry m = u.entry m := by
  unfold CueUnit.entry CueUnit.setEntry
  split
  · split
    · rw [Vector.getElem_set_ne]
      omega
    · rfl
  · rfl

@[simp] theorem CueUnit.setEntry_fields (u : CueUnit) (n : Nat) (e : CueEntry) :
    (u.setEntry n e).rx = u.rx ∧ (u.setEntry n e).holding = u.holding ∧ (u.setEntry n e).burst = u.burst ∧
    (u.setEntry n e).tone = u.tone ∧ (u.setEntry n e).maskGlobal = u.maskGlobal ∧
    (u.setEntry n e).maskA = u.maskA ∧ (u.setEntry n e).maskB = u.maskB ∧ (u.setEntry n e).confirm = u.confirm ∧
    (u.setEntry n e).legacy = u.legacy ∧ (u.setEntry n e).learn = u.learn ∧ (u.setEntry n e).buffer = u.buffer := by
  unfold CueUnit.setEntry
  split <;> simp

/-- A read of the handset entry written gives the entry written. -/
theorem Remote.handset_setHandset_same (r : Remote) {n : Nat} (e : Handset) (h : 1 ≤ n ∧ n ≤ 8) :
    (r.setHandset n e).handset n = e := by
  simp [Remote.handset, Remote.setHandset, h]

/-- A write of one handset entry leaves every other. -/
theorem Remote.handset_setHandset_other (r : Remote) {n m : Nat} (e : Handset) (h : m ≠ n) :
    (r.setHandset n e).handset m = r.handset m := by
  unfold Remote.handset Remote.setHandset
  split
  · split
    · rw [Vector.getElem_set_ne]
      omega
    · rfl
  · rfl

@[simp] theorem Remote.setHandset_fields (r : Remote) (n : Nat) (e : Handset) :
    (r.setHandset n e).window = r.window ∧ (r.setHandset n e).ir = r.ir ∧ (r.setHandset n e).irGap = r.irGap ∧
    (r.setHandset n e).console = r.console := by
  unfold Remote.setHandset
  split <;> simp

/-! ### Notices -/

/-- R187: a raised notice stands in the place of its kind with the mark set. -/
theorem raise_place_same (n : Notice) (s : State) :
    (raise n s).link.notices[n.place] = { arg := some n, mark := true } := by
  simp [raise]

/-- R187: a raised notice leaves the places of the other kinds. -/
theorem raise_place_other (n : Notice) (s : State) {i : Fin 30} (h : i ≠ n.place) :
    (raise n s).link.notices[i] = s.link.notices[i] := by
  have : n.place.val ≠ i.val := fun e => h (Fin.ext e.symm)
  simp [raise, Vector.getElem_set_ne, this]

@[simp] theorem raise_link_fields (n : Notice) (s : State) :
    (raise n s).link.status = s.link.status ∧ (raise n s).link.reqBuf = s.link.reqBuf ∧
    (raise n s).link.respBuf = s.link.respBuf ∧ (raise n s).link.shifted = s.link.shifted ∧
    (raise n s).link.mask = s.link.mask ∧ (raise n s).link.latched = s.link.latched ∧
    (raise n s).link.resetPin = s.link.resetPin := by
  simp [raise]

/-! ### Answers -/

@[simp] theorem respond_link_fields (code : Nat) (st : Status) (p : List Byte) (s : State) :
    (respond code st p s).link.status = .response ∧ (respond code st p s).link.reqBuf = [] ∧
    (respond code st p s).link.respBuf = responseFrame code st p ∧
    (respond code st p s).link.shifted = s.link.shifted ∧ (respond code st p s).link.notices = s.link.notices ∧
    (respond code st p s).link.mask = s.link.mask ∧ (respond code st p s).link.latched = s.link.latched ∧
    (respond code st p s).link.resetPin = s.link.resetPin := by
  simp [respond]

/-- In READY with the RESET pin released every host request can be taken (log 2). -/
theorem Link.accepts_of_ready (l : Link) (c : Instr) (h : l.resetPin = false) (r : l.status = .ready) :
    l.accepts c = true := by
  simp [Link.accepts, h, r]

/-- A host request that the link carries is answered by its owner. -/
theorem hostRequest_of_accepts (c : Instr) (owner : State → Reply) (s : State) (h : s.link.accepts c = true) :
    hostRequest c owner s =
      .next (respond (requestCode c) (owner s).status (owner s).payload (owner s).state) := by
  simp [hostRequest, h]

/-- A host request that the link cannot carry changes nothing. -/
theorem hostRequest_of_not_accepts (c : Instr) (owner : State → Reply) (s : State) (h : s.link.accepts c = false) :
    hostRequest c owner s = .next s := by
  simp [hostRequest, h]

/-- What a host request can come to. -/
theorem hostRequest_cases {c : Instr} {owner : State → Reply} {s t : State} (h : hostRequest c owner s = .next t) :
    (s.link.accepts c = true ∧ t = respond (requestCode c) (owner s).status (owner s).payload (owner s).state) ∨
    (s.link.accepts c = false ∧ t = s) := by
  unfold hostRequest at h
  split at h
  · exact .inl ⟨‹_›, by cases h; rfl⟩
  · rename_i no
    exact .inr ⟨eq_false_of_ne_true no, by cases h; rfl⟩

/-! ### Ramps -/

/-- R78: a ramp at or past its last step stands exactly at its end value. -/
theorem Ramp.value_of_le (r : Ramp) {k : Nat} (h : r.n ≤ k) : r.value k = r.b := by simp [Ramp.value, h]

/-- R78: a ramp never leaves the values between its two ends. -/
theorem Ramp.value_le_max (r : Ramp) (k : Nat) : r.value k ≤ max r.a r.b := by
  unfold Ramp.value
  split
  · omega
  · rename_i h
    have hn : (0 : Int) < r.n := by omega
    by_cases hab : r.a ≤ r.b
    · have h1 : ((r.b : Int) - r.a) * k ≤ ((r.b : Int) - r.a) * r.n :=
        Int.mul_le_mul_of_nonneg_left (by omega) (by omega)
      have h2 : (((r.b : Int) - r.a) * k).tdiv r.n ≤ (r.b : Int) - r.a := by
        rw [Int.tdiv_eq_ediv_of_nonneg (Int.mul_nonneg (by omega) (by omega))]
        exact Int.ediv_le_of_le_mul hn h1
      omega
    · have h1 : (((r.b : Int) - r.a) * k).tdiv r.n ≤ 0 := by
        have e : ((r.b : Int) - r.a) * k = -(((r.a : Int) - r.b) * k) := by ring
        rw [e, Int.neg_tdiv]
        have : 0 ≤ (((r.a : Int) - r.b) * k).tdiv r.n :=
          Int.tdiv_nonneg (Int.mul_nonneg (by omega) (by omega)) (by omega)
        omega
      omega

/-! ### The two ports of the bus -/

@[simp] theorem Bus.rx_setRx_same (b : Bus) (p : Port) (r : BusRx) : (b.setRx p r).rx p = r := by cases p <;> rfl

@[simp] theorem Bus.rx_setRx_other (b : Bus) (p : Port) (r : BusRx) :
    (b.setRx p r).rx (otherPort p) = b.rx (otherPort p) := by cases p <;> rfl

@[simp] theorem Bus.fwdFrom_setFwdFrom_same (b : Bus) (p : Port) (f : Forward) : (b.setFwdFrom p f).fwdFrom p = f := by
  cases p <;> rfl

@[simp] theorem Bus.fwdFrom_setFwdFrom_other (b : Bus) (p : Port) (f : Forward) :
    (b.setFwdFrom p f).fwdFrom (otherPort p) = b.fwdFrom (otherPort p) := by cases p <;> rfl

@[simp] theorem Bus.rx_setFwdFrom (b : Bus) (p q : Port) (f : Forward) : (b.setFwdFrom p f).rx q = b.rx q := by
  cases p <;> cases q <;> rfl

@[simp] theorem Bus.fwdFrom_setRx (b : Bus) (p q : Port) (r : BusRx) : (b.setRx p r).fwdFrom q = b.fwdFrom q := by
  cases p <;> cases q <;> rfl

/-- Setting a receiver changes the receivers alone. -/
@[simp] theorem Bus.setRx_fields (b : Bus) (p : Port) (r : BusRx) :
    (b.setRx p r).fwdDown = b.fwdDown ∧ (b.setRx p r).fwdUp = b.fwdUp ∧ (b.setRx p r).answer = b.answer ∧
    (b.setRx p r).slot = b.slot ∧ (b.setRx p r).running = b.running ∧ (b.setRx p r).errors = b.errors ∧
    (b.setRx p r).goodRun = b.goodRun ∧ (b.setRx p r).state = b.state := by cases p <;> simp [Bus.setRx]

/-- Setting a forward changes the forwards alone. -/
@[simp] theorem Bus.setFwdFrom_fields (b : Bus) (p : Port) (f : Forward) :
    (b.setFwdFrom p f).rxIn = b.rxIn ∧ (b.setFwdFrom p f).rxOut = b.rxOut ∧ (b.setFwdFrom p f).answer = b.answer ∧
    (b.setFwdFrom p f).slot = b.slot ∧ (b.setFwdFrom p f).running = b.running ∧ (b.setFwdFrom p f).errors = b.errors ∧
    (b.setFwdFrom p f).goodRun = b.goodRun ∧ (b.setFwdFrom p f).state = b.state := by cases p <;> simp [Bus.setFwdFrom]

/-- R173: a length byte held is given up and nothing else: no hold is left, and any other forward stands. -/
theorem Bus.dropHeld_cases (p : Port) (b : Bus) :
    (b.fwdFrom p = .holding → b.dropHeld p = b.setFwdFrom p .none) ∧ (b.fwdFrom p ≠ .holding → b.dropHeld p = b) :=
  ⟨fun h => by simp [Bus.dropHeld, h], fun h => by simp [Bus.dropHeld, h]⟩

end Sys2Proof.Machine
end

