-- ==== Sys2Proof/Laws/Commands.lean ====
section
/-! SUPPORT. What each command leaves when it gives a next state: one lemma per command, an equation for every block of
the state that the command never touches, the queue of waiting commands among them. A proof about one block has only the
commands on that block to look into. -/

namespace Sys2Proof.Machine

theorem execWriteSlot_frame {slot : Nat} {set : FieldSet} {v : SlotValues} {s t : State} (h : execWriteSlot slot set v s = .next t) :
    t.drive = s.drive ∧ t.lamp = s.lamp ∧ t.thermal = s.thermal ∧ t.tape = s.tape ∧ t.cue = s.cue ∧
    t.remote = s.remote ∧ t.bus = s.bus ∧ t.pending = s.pending := by
  unfold execWriteSlot at h
  rcases hostRequest_cases h with ⟨-, rfl⟩ | ⟨-, rfl⟩
  · (repeat' split) <;> simp
  · simp

theorem execLoadSlots_frame {first last : Nat} {set : FieldSet} {v : SlotValues} {s t : State} (h : execLoadSlots first last set v s = .next t) :
    t.drive = s.drive ∧ t.lamp = s.lamp ∧ t.thermal = s.thermal ∧ t.tape = s.tape ∧ t.cue = s.cue ∧
    t.remote = s.remote ∧ t.bus = s.bus ∧ t.pending = s.pending := by
  unfold execLoadSlots at h
  rcases hostRequest_cases h with ⟨-, rfl⟩ | ⟨-, rfl⟩
  · (repeat' split) <;> simp
  · simp

theorem execRetireSlot_frame {first last : Nat} {s t : State} (h : execRetireSlot first last s = .next t) :
    t.drive = s.drive ∧ t.lamp = s.lamp ∧ t.thermal = s.thermal ∧ t.tape = s.tape ∧ t.cue = s.cue ∧
    t.remote = s.remote ∧ t.bus = s.bus ∧ t.pending = s.pending := by
  unfold execRetireSlot at h
  rcases hostRequest_cases h with ⟨-, rfl⟩ | ⟨-, rfl⟩
  · (repeat' split) <;> simp
  · simp

theorem execReadSlot_frame {slot : Nat} {s t : State} (h : execReadSlot slot s = .next t) :
    t.changer = s.changer ∧ t.drive = s.drive ∧ t.lamp = s.lamp ∧ t.thermal = s.thermal ∧ t.tape = s.tape ∧
    t.cue = s.cue ∧ t.remote = s.remote ∧ t.bus = s.bus ∧ t.pending = s.pending := by
  unfold execReadSlot at h
  rcases hostRequest_cases h with ⟨-, rfl⟩ | ⟨-, rfl⟩
  · (repeat' split) <;> simp
  · simp

theorem execReadShow_frame {s t : State} (h : execReadShow s = .next t) :
    t.changer = s.changer ∧ t.drive = s.drive ∧ t.lamp = s.lamp ∧ t.thermal = s.thermal ∧ t.tape = s.tape ∧
    t.cue = s.cue ∧ t.remote = s.remote ∧ t.bus = s.bus ∧ t.pending = s.pending := by
  unfold execReadShow at h
  rcases hostRequest_cases h with ⟨-, rfl⟩ | ⟨-, rfl⟩
  · simp
  · simp

theorem execSetOptions_frame {skipEmpty skipBlank wrap : Option Nat} {s t : State} (h : execSetOptions skipEmpty skipBlank wrap s = .next t) :
    t.drive = s.drive ∧ t.lamp = s.lamp ∧ t.thermal = s.thermal ∧ t.tape = s.tape ∧ t.cue = s.cue ∧
    t.remote = s.remote ∧ t.bus = s.bus ∧ t.pending = s.pending := by
  unfold execSetOptions at h
  rcases hostRequest_cases h with ⟨-, rfl⟩ | ⟨-, rfl⟩
  · (repeat' split) <;> simp
  · simp

theorem execStep_frame {k : Int} {s t : State} (h : execStep k s = .next t) :
    t.thermal = s.thermal ∧ t.tape = s.tape ∧ t.cue = s.cue ∧ t.remote = s.remote ∧ t.bus = s.bus ∧
    t.pending = s.pending := by
  unfold execStep at h
  rcases hostRequest_cases h with ⟨-, rfl⟩ | ⟨-, rfl⟩
  · simp
  · simp

theorem execGoto_frame {n : Nat} {s t : State} (h : execGoto n s = .next t) :
    t.thermal = s.thermal ∧ t.tape = s.tape ∧ t.cue = s.cue ∧ t.remote = s.remote ∧ t.bus = s.bus ∧
    t.pending = s.pending := by
  unfold execGoto at h
  rcases hostRequest_cases h with ⟨-, rfl⟩ | ⟨-, rfl⟩
  · simp
  · simp

theorem execHome_frame {s t : State} (h : execHome s = .next t) :
    t.thermal = s.thermal ∧ t.tape = s.tape ∧ t.cue = s.cue ∧ t.remote = s.remote ∧ t.bus = s.bus ∧
    t.pending = s.pending := by
  unfold execHome at h
  rcases hostRequest_cases h with ⟨-, rfl⟩ | ⟨-, rfl⟩
  · simp
  · simp

theorem execHold_frame {s t : State} (h : execHold s = .next t) :
    t.drive = s.drive ∧ t.lamp = s.lamp ∧ t.thermal = s.thermal ∧ t.tape = s.tape ∧ t.cue = s.cue ∧
    t.remote = s.remote ∧ t.bus = s.bus ∧ t.pending = s.pending := by
  unfold execHold at h
  rcases hostRequest_cases h with ⟨-, rfl⟩ | ⟨-, rfl⟩
  · simp
  · simp

theorem execResume_frame {s t : State} (h : execResume s = .next t) :
    t.drive = s.drive ∧ t.lamp = s.lamp ∧ t.thermal = s.thermal ∧ t.tape = s.tape ∧ t.cue = s.cue ∧
    t.remote = s.remote ∧ t.bus = s.bus ∧ t.pending = s.pending := by
  unfold execResume at h
  rcases hostRequest_cases h with ⟨-, rfl⟩ | ⟨-, rfl⟩
  · simp
  · simp

theorem execFlush_frame {s t : State} (h : execFlush s = .next t) :
    t.drive = s.drive ∧ t.lamp = s.lamp ∧ t.thermal = s.thermal ∧ t.tape = s.tape ∧ t.cue = s.cue ∧
    t.remote = s.remote ∧ t.bus = s.bus ∧ t.pending = s.pending := by
  unfold execFlush at h
  rcases hostRequest_cases h with ⟨-, rfl⟩ | ⟨-, rfl⟩
  · simp
  · simp

theorem execReadDrive_frame {s t : State} (h : execReadDrive s = .next t) :
    t.changer = s.changer ∧ t.drive = s.drive ∧ t.lamp = s.lamp ∧ t.thermal = s.thermal ∧ t.tape = s.tape ∧
    t.cue = s.cue ∧ t.remote = s.remote ∧ t.bus = s.bus ∧ t.pending = s.pending := by
  unfold execReadDrive at h
  rcases hostRequest_cases h with ⟨-, rfl⟩ | ⟨-, rfl⟩
  · simp
  · simp

theorem execFocus_frame {dir ticks : Nat} {s t : State} (h : execFocus dir ticks s = .next t) :
    t.changer = s.changer ∧ t.lamp = s.lamp ∧ t.thermal = s.thermal ∧ t.tape = s.tape ∧ t.cue = s.cue ∧
    t.remote = s.remote ∧ t.bus = s.bus ∧ t.pending = s.pending := by
  unfold execFocus at h
  rcases hostRequest_cases h with ⟨-, rfl⟩ | ⟨-, rfl⟩
  · (repeat' split) <;> simp
  · simp

theorem execLampOn_frame {s t : State} (h : execLampOn s = .next t) :
    t.changer = s.changer ∧ t.drive = s.drive ∧ t.tape = s.tape ∧ t.cue = s.cue ∧ t.remote = s.remote ∧
    t.bus = s.bus ∧ t.pending = s.pending := by
  unfold execLampOn at h
  rcases hostRequest_cases h with ⟨-, rfl⟩ | ⟨-, rfl⟩
  · simp
  · simp

theorem execLampOff_frame {s t : State} (h : execLampOff s = .next t) :
    t.changer = s.changer ∧ t.drive = s.drive ∧ t.tape = s.tape ∧ t.cue = s.cue ∧ t.remote = s.remote ∧
    t.bus = s.bus ∧ t.pending = s.pending := by
  unfold execLampOff at h
  rcases hostRequest_cases h with ⟨-, rfl⟩ | ⟨-, rfl⟩
  · simp
  · simp

theorem execLampReset_frame {s t : State} (h : execLampReset s = .next t) :
    t.changer = s.changer ∧ t.drive = s.drive ∧ t.tape = s.tape ∧ t.cue = s.cue ∧ t.remote = s.remote ∧
    t.bus = s.bus ∧ t.pending = s.pending := by
  unfold execLampReset at h
  rcases hostRequest_cases h with ⟨-, rfl⟩ | ⟨-, rfl⟩
  · simp only [respond_frame, offerLampReset]
    (repeat' split) <;> simp
  · simp

theorem execSetLight_frame {v : Option Nat} {s t : State} (h : execSetLight v s = .next t) :
    t.changer = s.changer ∧ t.drive = s.drive ∧ t.thermal = s.thermal ∧ t.tape = s.tape ∧ t.cue = s.cue ∧
    t.remote = s.remote ∧ t.bus = s.bus ∧ t.pending = s.pending := by
  unfold execSetLight at h
  rcases hostRequest_cases h with ⟨-, rfl⟩ | ⟨-, rfl⟩
  · (repeat' split) <;> simp
  · simp

theorem execWriteExposure_frame {cls limit : Nat} {s t : State} (h : execWriteExposure cls limit s = .next t) :
    t.changer = s.changer ∧ t.drive = s.drive ∧ t.thermal = s.thermal ∧ t.tape = s.tape ∧ t.cue = s.cue ∧
    t.remote = s.remote ∧ t.bus = s.bus ∧ t.pending = s.pending := by
  unfold execWriteExposure at h
  rcases hostRequest_cases h with ⟨-, rfl⟩ | ⟨-, rfl⟩
  · (repeat' split) <;> simp
  · simp

theorem execReadLamp_frame {s t : State} (h : execReadLamp s = .next t) :
    t.changer = s.changer ∧ t.drive = s.drive ∧ t.lamp = s.lamp ∧ t.thermal = s.thermal ∧ t.tape = s.tape ∧
    t.cue = s.cue ∧ t.remote = s.remote ∧ t.bus = s.bus ∧ t.pending = s.pending := by
  unfold execReadLamp at h
  rcases hostRequest_cases h with ⟨-, rfl⟩ | ⟨-, rfl⟩
  · simp
  · simp

theorem execWriteCalibration_frame {offset : Int} {gain : Nat} {zero : Int} {s t : State} (h : execWriteCalibration offset gain zero s = .next t) :
    t.changer = s.changer ∧ t.drive = s.drive ∧ t.lamp = s.lamp ∧ t.tape = s.tape ∧ t.cue = s.cue ∧
    t.remote = s.remote ∧ t.bus = s.bus ∧ t.pending = s.pending := by
  unfold execWriteCalibration at h
  rcases hostRequest_cases h with ⟨-, rfl⟩ | ⟨-, rfl⟩
  · (repeat' split) <;> simp
  · simp

theorem execReadCalibration_frame {s t : State} (h : execReadCalibration s = .next t) :
    t.changer = s.changer ∧ t.drive = s.drive ∧ t.lamp = s.lamp ∧ t.thermal = s.thermal ∧ t.tape = s.tape ∧
    t.cue = s.cue ∧ t.remote = s.remote ∧ t.bus = s.bus ∧ t.pending = s.pending := by
  unfold execReadCalibration at h
  rcases hostRequest_cases h with ⟨-, rfl⟩ | ⟨-, rfl⟩
  · simp
  · simp

theorem execWriteProfile_frame {p : Nat} {v : ProfileValues} {s t : State} (h : execWriteProfile p v s = .next t) :
    t.changer = s.changer ∧ t.drive = s.drive ∧ t.lamp = s.lamp ∧ t.tape = s.tape ∧ t.cue = s.cue ∧
    t.remote = s.remote ∧ t.bus = s.bus ∧ t.pending = s.pending := by
  unfold execWriteProfile at h
  rcases hostRequest_cases h with ⟨-, rfl⟩ | ⟨-, rfl⟩
  · (repeat' split) <;> simp
  · simp

theorem execReadProfile_frame {p : Nat} {s t : State} (h : execReadProfile p s = .next t) :
    t.changer = s.changer ∧ t.drive = s.drive ∧ t.lamp = s.lamp ∧ t.thermal = s.thermal ∧ t.tape = s.tape ∧
    t.cue = s.cue ∧ t.remote = s.remote ∧ t.bus = s.bus ∧ t.pending = s.pending := by
  unfold execReadProfile at h
  rcases hostRequest_cases h with ⟨-, rfl⟩ | ⟨-, rfl⟩
  · (repeat' split) <;> simp
  · simp

theorem execSelectProfile_frame {p : Nat} {s t : State} (h : execSelectProfile p s = .next t) :
    t.changer = s.changer ∧ t.drive = s.drive ∧ t.lamp = s.lamp ∧ t.tape = s.tape ∧ t.cue = s.cue ∧
    t.remote = s.remote ∧ t.bus = s.bus ∧ t.pending = s.pending := by
  unfold execSelectProfile at h
  rcases hostRequest_cases h with ⟨-, rfl⟩ | ⟨-, rfl⟩
  · simp
  · simp

theorem execReadThermal_frame {s t : State} (h : execReadThermal s = .next t) :
    t.changer = s.changer ∧ t.drive = s.drive ∧ t.lamp = s.lamp ∧ t.thermal = s.thermal ∧ t.tape = s.tape ∧
    t.cue = s.cue ∧ t.remote = s.remote ∧ t.bus = s.bus ∧ t.pending = s.pending := by
  unfold execReadThermal at h
  rcases hostRequest_cases h with ⟨-, rfl⟩ | ⟨-, rfl⟩
  · simp
  · simp

theorem execTapePlay_frame {s t : State} (h : execTapePlay s = .next t) :
    t.changer = s.changer ∧ t.drive = s.drive ∧ t.lamp = s.lamp ∧ t.thermal = s.thermal ∧ t.remote = s.remote ∧
    t.bus = s.bus ∧ t.pending = s.pending := by
  unfold execTapePlay at h
  rcases hostRequest_cases h with ⟨-, rfl⟩ | ⟨-, rfl⟩
  · simp
  · simp

theorem execTapePause_frame {s t : State} (h : execTapePause s = .next t) :
    t.changer = s.changer ∧ t.drive = s.drive ∧ t.lamp = s.lamp ∧ t.thermal = s.thermal ∧ t.remote = s.remote ∧
    t.bus = s.bus ∧ t.pending = s.pending := by
  unfold execTapePause at h
  rcases hostRequest_cases h with ⟨-, rfl⟩ | ⟨-, rfl⟩
  · simp
  · simp

theorem execTapeStop_frame {s t : State} (h : execTapeStop s = .next t) :
    t.changer = s.changer ∧ t.drive = s.drive ∧ t.lamp = s.lamp ∧ t.thermal = s.thermal ∧ t.remote = s.remote ∧
    t.bus = s.bus ∧ t.pending = s.pending := by
  unfold execTapeStop at h
  rcases hostRequest_cases h with ⟨-, rfl⟩ | ⟨-, rfl⟩
  · simp
  · simp

theorem execTapeWind_frame {dir : Nat} {s t : State} (h : execTapeWind dir s = .next t) :
    t.changer = s.changer ∧ t.drive = s.drive ∧ t.lamp = s.lamp ∧ t.thermal = s.thermal ∧ t.remote = s.remote ∧
    t.bus = s.bus ∧ t.pending = s.pending := by
  unfold execTapeWind at h
  rcases hostRequest_cases h with ⟨-, rfl⟩ | ⟨-, rfl⟩
  · (repeat' split) <;> simp
  · simp

theorem execSetTapePosition_frame {v : Nat} {s t : State} (h : execSetTapePosition v s = .next t) :
    t.changer = s.changer ∧ t.drive = s.drive ∧ t.lamp = s.lamp ∧ t.thermal = s.thermal ∧ t.cue = s.cue ∧
    t.remote = s.remote ∧ t.bus = s.bus ∧ t.pending = s.pending := by
  unfold execSetTapePosition at h
  rcases hostRequest_cases h with ⟨-, rfl⟩ | ⟨-, rfl⟩
  · (repeat' split) <;> simp
  · simp

theorem execSetGain_frame {a : Nat} {s t : State} (h : execSetGain a s = .next t) :
    t.changer = s.changer ∧ t.drive = s.drive ∧ t.lamp = s.lamp ∧ t.thermal = s.thermal ∧ t.cue = s.cue ∧
    t.remote = s.remote ∧ t.bus = s.bus ∧ t.pending = s.pending := by
  unfold execSetGain at h
  rcases hostRequest_cases h with ⟨-, rfl⟩ | ⟨-, rfl⟩
  · (repeat' split) <;> simp
  · simp

theorem execSetDuckDepth_frame {depth sw : Nat} {s t : State} (h : execSetDuckDepth depth sw s = .next t) :
    t.changer = s.changer ∧ t.drive = s.drive ∧ t.lamp = s.lamp ∧ t.thermal = s.thermal ∧ t.cue = s.cue ∧
    t.remote = s.remote ∧ t.bus = s.bus ∧ t.pending = s.pending := by
  unfold execSetDuckDepth at h
  rcases hostRequest_cases h with ⟨-, rfl⟩ | ⟨-, rfl⟩
  · (repeat' split) <;> simp
  · simp

theorem execSetMute_frame {on : Nat} {s t : State} (h : execSetMute on s = .next t) :
    t.changer = s.changer ∧ t.drive = s.drive ∧ t.lamp = s.lamp ∧ t.thermal = s.thermal ∧ t.cue = s.cue ∧
    t.remote = s.remote ∧ t.bus = s.bus ∧ t.pending = s.pending := by
  unfold execSetMute at h
  rcases hostRequest_cases h with ⟨-, rfl⟩ | ⟨-, rfl⟩
  · (repeat' split) <;> simp
  · simp

theorem execReadTape_frame {s t : State} (h : execReadTape s = .next t) :
    t.changer = s.changer ∧ t.drive = s.drive ∧ t.lamp = s.lamp ∧ t.thermal = s.thermal ∧ t.tape = s.tape ∧
    t.cue = s.cue ∧ t.remote = s.remote ∧ t.bus = s.bus ∧ t.pending = s.pending := by
  unfold execReadTape at h
  rcases hostRequest_cases h with ⟨-, rfl⟩ | ⟨-, rfl⟩
  · simp
  · simp

theorem execSetCueOptions_frame {confirm legacy : Option Nat} {s t : State} (h : execSetCueOptions confirm legacy s = .next t) :
    t.changer = s.changer ∧ t.drive = s.drive ∧ t.lamp = s.lamp ∧ t.thermal = s.thermal ∧ t.tape = s.tape ∧
    t.remote = s.remote ∧ t.bus = s.bus ∧ t.pending = s.pending := by
  unfold execSetCueOptions at h
  rcases hostRequest_cases h with ⟨-, rfl⟩ | ⟨-, rfl⟩
  · (repeat' split) <;> simp
  · simp

theorem execSetMasks_frame {global localA localB : Option Nat} {s t : State} (h : execSetMasks global localA localB s = .next t) :
    t.changer = s.changer ∧ t.drive = s.drive ∧ t.lamp = s.lamp ∧ t.thermal = s.thermal ∧ t.tape = s.tape ∧
    t.remote = s.remote ∧ t.bus = s.bus ∧ t.pending = s.pending := by
  unfold execSetMasks at h
  rcases hostRequest_cases h with ⟨-, rfl⟩ | ⟨-, rfl⟩
  · (repeat' split) <;> simp
  · simp

theorem execWriteCue_frame {v : CueImage} {s t : State} (h : execWriteCue v s = .next t) :
    t.changer = s.changer ∧ t.drive = s.drive ∧ t.lamp = s.lamp ∧ t.thermal = s.thermal ∧ t.tape = s.tape ∧
    t.remote = s.remote ∧ t.bus = s.bus ∧ t.pending = s.pending := by
  unfold execWriteCue at h
  rcases hostRequest_cases h with ⟨-, rfl⟩ | ⟨-, rfl⟩
  · simp only [respond_frame, writeCue]
    (repeat' split) <;> simp
  · simp

theorem execArmCue_frame {n : Nat} {s t : State} (h : execArmCue n s = .next t) :
    t.changer = s.changer ∧ t.drive = s.drive ∧ t.lamp = s.lamp ∧ t.thermal = s.thermal ∧ t.tape = s.tape ∧
    t.remote = s.remote ∧ t.bus = s.bus ∧ t.pending = s.pending := by
  unfold execArmCue at h
  rcases hostRequest_cases h with ⟨-, rfl⟩ | ⟨-, rfl⟩
  · simp only [respond_frame, armCue, setCueState]
    (repeat' split) <;> simp
  · simp

theorem execPauseCue_frame {n : Nat} {s t : State} (h : execPauseCue n s = .next t) :
    t.changer = s.changer ∧ t.drive = s.drive ∧ t.lamp = s.lamp ∧ t.thermal = s.thermal ∧ t.tape = s.tape ∧
    t.remote = s.remote ∧ t.bus = s.bus ∧ t.pending = s.pending := by
  unfold execPauseCue at h
  rcases hostRequest_cases h with ⟨-, rfl⟩ | ⟨-, rfl⟩
  · simp only [respond_frame, pauseCue, setCueState]
    (repeat' split) <;> simp
  · simp

theorem execRetireCue_frame {n : Nat} {s t : State} (h : execRetireCue n s = .next t) :
    t.changer = s.changer ∧ t.drive = s.drive ∧ t.lamp = s.lamp ∧ t.thermal = s.thermal ∧ t.tape = s.tape ∧
    t.remote = s.remote ∧ t.bus = s.bus ∧ t.pending = s.pending := by
  unfold execRetireCue at h
  rcases hostRequest_cases h with ⟨-, rfl⟩ | ⟨-, rfl⟩
  · (repeat' split) <;> simp
  · simp

theorem execReadCue_frame {n : Nat} {s t : State} (h : execReadCue n s = .next t) :
    t.changer = s.changer ∧ t.drive = s.drive ∧ t.lamp = s.lamp ∧ t.thermal = s.thermal ∧ t.tape = s.tape ∧
    t.cue = s.cue ∧ t.remote = s.remote ∧ t.bus = s.bus ∧ t.pending = s.pending := by
  unfold execReadCue at h
  rcases hostRequest_cases h with ⟨-, rfl⟩ | ⟨-, rfl⟩
  · (repeat' split) <;> simp
  · simp

theorem execLearnOn_frame {s t : State} (h : execLearnOn s = .next t) :
    t.changer = s.changer ∧ t.drive = s.drive ∧ t.lamp = s.lamp ∧ t.thermal = s.thermal ∧ t.tape = s.tape ∧
    t.remote = s.remote ∧ t.bus = s.bus ∧ t.pending = s.pending := by
  unfold execLearnOn at h
  rcases hostRequest_cases h with ⟨-, rfl⟩ | ⟨-, rfl⟩
  · simp
  · simp

theorem execLearnOff_frame {s t : State} (h : execLearnOff s = .next t) :
    t.changer = s.changer ∧ t.drive = s.drive ∧ t.lamp = s.lamp ∧ t.thermal = s.thermal ∧ t.tape = s.tape ∧
    t.remote = s.remote ∧ t.bus = s.bus ∧ t.pending = s.pending := by
  unfold execLearnOff at h
  rcases hostRequest_cases h with ⟨-, rfl⟩ | ⟨-, rfl⟩
  · simp
  · simp

theorem execReadLearn_frame {s t : State} (h : execReadLearn s = .next t) :
    t.changer = s.changer ∧ t.drive = s.drive ∧ t.lamp = s.lamp ∧ t.thermal = s.thermal ∧ t.tape = s.tape ∧
    t.remote = s.remote ∧ t.bus = s.bus ∧ t.pending = s.pending := by
  unfold execReadLearn at h
  rcases hostRequest_cases h with ⟨-, rfl⟩ | ⟨-, rfl⟩
  · simp
  · simp

theorem execReadCueUnit_frame {s t : State} (h : execReadCueUnit s = .next t) :
    t.changer = s.changer ∧ t.drive = s.drive ∧ t.lamp = s.lamp ∧ t.thermal = s.thermal ∧ t.tape = s.tape ∧
    t.cue = s.cue ∧ t.remote = s.remote ∧ t.bus = s.bus ∧ t.pending = s.pending := by
  unfold execReadCueUnit at h
  rcases hostRequest_cases h with ⟨-, rfl⟩ | ⟨-, rfl⟩
  · simp
  · simp

theorem execOpenPairing_frame {rights : Nat} {s t : State} (h : execOpenPairing rights s = .next t) :
    t.changer = s.changer ∧ t.drive = s.drive ∧ t.lamp = s.lamp ∧ t.thermal = s.thermal ∧ t.tape = s.tape ∧
    t.cue = s.cue ∧ t.bus = s.bus ∧ t.pending = s.pending := by
  unfold execOpenPairing at h
  rcases hostRequest_cases h with ⟨-, rfl⟩ | ⟨-, rfl⟩
  · (repeat' split) <;> simp
  · simp

theorem execClosePairing_frame {s t : State} (h : execClosePairing s = .next t) :
    t.changer = s.changer ∧ t.drive = s.drive ∧ t.lamp = s.lamp ∧ t.thermal = s.thermal ∧ t.tape = s.tape ∧
    t.cue = s.cue ∧ t.bus = s.bus ∧ t.pending = s.pending := by
  unfold execClosePairing at h
  rcases hostRequest_cases h with ⟨-, rfl⟩ | ⟨-, rfl⟩
  · simp
  · simp

theorem execReadHandset_frame {n : Nat} {s t : State} (h : execReadHandset n s = .next t) :
    t.changer = s.changer ∧ t.drive = s.drive ∧ t.lamp = s.lamp ∧ t.thermal = s.thermal ∧ t.tape = s.tape ∧
    t.cue = s.cue ∧ t.remote = s.remote ∧ t.bus = s.bus ∧ t.pending = s.pending := by
  unfold execReadHandset at h
  rcases hostRequest_cases h with ⟨-, rfl⟩ | ⟨-, rfl⟩
  · (repeat' split) <;> simp
  · simp

theorem execSetRights_frame {n rights : Nat} {s t : State} (h : execSetRights n rights s = .next t) :
    t.changer = s.changer ∧ t.drive = s.drive ∧ t.lamp = s.lamp ∧ t.thermal = s.thermal ∧ t.tape = s.tape ∧
    t.cue = s.cue ∧ t.bus = s.bus ∧ t.pending = s.pending := by
  unfold execSetRights at h
  rcases hostRequest_cases h with ⟨-, rfl⟩ | ⟨-, rfl⟩
  · simp only [respond_frame]
    (repeat' split) <;> simp
  · simp

theorem execBlockHandset_frame {n : Nat} {s t : State} (h : execBlockHandset n s = .next t) :
    t.changer = s.changer ∧ t.drive = s.drive ∧ t.lamp = s.lamp ∧ t.thermal = s.thermal ∧ t.tape = s.tape ∧
    t.cue = s.cue ∧ t.bus = s.bus ∧ t.pending = s.pending := by
  unfold execBlockHandset at h
  rcases hostRequest_cases h with ⟨-, rfl⟩ | ⟨-, rfl⟩
  · simp only [respond_frame, offerBlock]
    (repeat' split) <;> simp
  · simp

theorem execUnblockHandset_frame {n : Nat} {s t : State} (h : execUnblockHandset n s = .next t) :
    t.changer = s.changer ∧ t.drive = s.drive ∧ t.lamp = s.lamp ∧ t.thermal = s.thermal ∧ t.tape = s.tape ∧
    t.cue = s.cue ∧ t.bus = s.bus ∧ t.pending = s.pending := by
  unfold execUnblockHandset at h
  rcases hostRequest_cases h with ⟨-, rfl⟩ | ⟨-, rfl⟩
  · simp only [respond_frame, offerUnblock]
    (repeat' split) <;> simp
  · simp

theorem execRetireHandset_frame {n : Nat} {s t : State} (h : execRetireHandset n s = .next t) :
    t.changer = s.changer ∧ t.drive = s.drive ∧ t.lamp = s.lamp ∧ t.thermal = s.thermal ∧ t.tape = s.tape ∧
    t.cue = s.cue ∧ t.bus = s.bus ∧ t.pending = s.pending := by
  unfold execRetireHandset at h
  rcases hostRequest_cases h with ⟨-, rfl⟩ | ⟨-, rfl⟩
  · (repeat' split) <;> simp
  · simp

theorem execSetAddress_frame {address : Nat} {groups : List Nat} {s t : State} (h : execSetAddress address groups s = .next t) :
    t.changer = s.changer ∧ t.drive = s.drive ∧ t.lamp = s.lamp ∧ t.thermal = s.thermal ∧ t.tape = s.tape ∧
    t.cue = s.cue ∧ t.remote = s.remote ∧ t.pending = s.pending := by
  unfold execSetAddress at h
  rcases hostRequest_cases h with ⟨-, rfl⟩ | ⟨-, rfl⟩
  · (repeat' split) <;> simp
  · simp

theorem execSendFrame_frame {dest key : Nat} {args : List Nat} {rep : Nat} {s t : State} (h : execSendFrame dest key args rep s = .next t) :
    t.changer = s.changer ∧ t.drive = s.drive ∧ t.lamp = s.lamp ∧ t.thermal = s.thermal ∧ t.tape = s.tape ∧
    t.cue = s.cue ∧ t.remote = s.remote ∧ t.pending = s.pending := by
  unfold execSendFrame at h
  rcases hostRequest_cases h with ⟨-, rfl⟩ | ⟨-, rfl⟩
  · (repeat' split) <;> simp
  · simp

theorem execPortAbort_frame {s t : State} (h : execPortAbort s = .next t) :
    t.changer = s.changer ∧ t.drive = s.drive ∧ t.lamp = s.lamp ∧ t.thermal = s.thermal ∧ t.tape = s.tape ∧
    t.cue = s.cue ∧ t.remote = s.remote ∧ t.pending = s.pending := by
  unfold execPortAbort at h
  rcases hostRequest_cases h with ⟨-, rfl⟩ | ⟨-, rfl⟩
  · simp
  · simp

theorem execPortRestart_frame {s t : State} (h : execPortRestart s = .next t) :
    t.changer = s.changer ∧ t.drive = s.drive ∧ t.lamp = s.lamp ∧ t.thermal = s.thermal ∧ t.tape = s.tape ∧
    t.cue = s.cue ∧ t.remote = s.remote ∧ t.pending = s.pending := by
  unfold execPortRestart at h
  rcases hostRequest_cases h with ⟨-, rfl⟩ | ⟨-, rfl⟩
  · simp only [respond_frame]
    (repeat' split) <;> simp
  · simp

theorem execReadPort_frame {s t : State} (h : execReadPort s = .next t) :
    t.changer = s.changer ∧ t.drive = s.drive ∧ t.lamp = s.lamp ∧ t.thermal = s.thermal ∧ t.tape = s.tape ∧
    t.cue = s.cue ∧ t.remote = s.remote ∧ t.bus = s.bus ∧ t.pending = s.pending := by
  unfold execReadPort at h
  rcases hostRequest_cases h with ⟨-, rfl⟩ | ⟨-, rfl⟩
  · simp
  · simp

theorem execSetNoticeMask_frame {mask : List Nat} {s t : State} (h : execSetNoticeMask mask s = .next t) :
    t.changer = s.changer ∧ t.drive = s.drive ∧ t.lamp = s.lamp ∧ t.thermal = s.thermal ∧ t.tape = s.tape ∧
    t.cue = s.cue ∧ t.remote = s.remote ∧ t.bus = s.bus ∧ t.pending = s.pending := by
  unfold execSetNoticeMask at h
  rcases hostRequest_cases h with ⟨-, rfl⟩ | ⟨-, rfl⟩
  · (repeat' split) <;> simp
  · simp

theorem execReadNotices_frame {s t : State} (h : execReadNotices s = .next t) :
    t.changer = s.changer ∧ t.drive = s.drive ∧ t.lamp = s.lamp ∧ t.thermal = s.thermal ∧ t.tape = s.tape ∧
    t.cue = s.cue ∧ t.remote = s.remote ∧ t.bus = s.bus ∧ t.pending = s.pending := by
  unfold execReadNotices at h
  rcases hostRequest_cases h with ⟨-, rfl⟩ | ⟨-, rfl⟩
  · simp
  · simp

theorem execReadNotice_frame {kind : Nat} {s t : State} (h : execReadNotice kind s = .next t) :
    t.changer = s.changer ∧ t.drive = s.drive ∧ t.lamp = s.lamp ∧ t.thermal = s.thermal ∧ t.tape = s.tape ∧
    t.cue = s.cue ∧ t.remote = s.remote ∧ t.bus = s.bus ∧ t.pending = s.pending := by
  unfold execReadNotice at h
  rcases hostRequest_cases h with ⟨-, rfl⟩ | ⟨-, rfl⟩
  · (repeat' split) <;> simp
  · simp

theorem execClearNotices_frame {s t : State} (h : execClearNotices s = .next t) :
    t.changer = s.changer ∧ t.drive = s.drive ∧ t.lamp = s.lamp ∧ t.thermal = s.thermal ∧ t.tape = s.tape ∧
    t.cue = s.cue ∧ t.remote = s.remote ∧ t.bus = s.bus ∧ t.pending = s.pending := by
  unfold execClearNotices at h
  rcases hostRequest_cases h with ⟨-, rfl⟩ | ⟨-, rfl⟩
  · simp
  · simp

theorem execReset_frame {s t : State} (h : execReset s = .next t) :
    t.pending = s.pending := by
  unfold execReset at h
  rcases hostRequest_cases h with ⟨-, rfl⟩ | ⟨-, rfl⟩
  · simp
  · simp

theorem execPollPeriod_frame {kind len : Nat} {s t : State} (h : execPollPeriod kind len s = .next t) :
    t.changer = s.changer ∧ t.drive = s.drive ∧ t.lamp = s.lamp ∧ t.thermal = s.thermal ∧ t.tape = s.tape ∧
    t.cue = s.cue ∧ t.remote = s.remote ∧ t.bus = s.bus ∧ t.pending = s.pending := by
  simp only [execPollPeriod] at h
  cases h
  simp

theorem execRequestFrame_frame {bytes : List Byte} {s t : State} (h : execRequestFrame bytes s = .next t) :
    t.changer = s.changer ∧ t.drive = s.drive ∧ t.lamp = s.lamp ∧ t.thermal = s.thermal ∧ t.tape = s.tape ∧
    t.cue = s.cue ∧ t.remote = s.remote ∧ t.bus = s.bus ∧ t.pending = s.pending := by
  simp only [execRequestFrame] at h
  (repeat' split at h) <;> (cases h; simp)

theorem execFetch_frame {len : Nat} {s t : State} (h : execFetch len s = .next t) :
    t.changer = s.changer ∧ t.drive = s.drive ∧ t.lamp = s.lamp ∧ t.thermal = s.thermal ∧ t.tape = s.tape ∧
    t.cue = s.cue ∧ t.remote = s.remote ∧ t.bus = s.bus ∧ t.pending = s.pending := by
  simp only [execFetch] at h
  cases h
  simp

theorem execResetPinAssert_frame {s t : State} (h : execResetPinAssert s = .next t) :
    t.changer = s.changer ∧ t.drive = s.drive ∧ t.lamp = s.lamp ∧ t.thermal = s.thermal ∧ t.tape = s.tape ∧
    t.cue = s.cue ∧ t.remote = s.remote ∧ t.bus = s.bus ∧ t.pending = s.pending := by
  simp only [execResetPinAssert] at h
  cases h
  simp

theorem execPowerOnReset_frame {s t : State} (h : execPowerOnReset s = .next t) :
    t.pending = s.pending := by
  simp only [execPowerOnReset, powerOn] at h
  cases h
  simp

theorem execTrayRemoval_frame {s t : State} (h : execTrayRemoval s = .next t) :
    t.thermal = s.thermal ∧ t.tape = s.tape ∧ t.cue = s.cue ∧ t.remote = s.remote ∧ t.bus = s.bus ∧
    t.pending = s.pending := by
  simp only [execTrayRemoval] at h
  (repeat' split at h) <;> (cases h; simp)

theorem execTrayInsertion_frame {lugs : BitVec 2} {s t : State} (h : execTrayInsertion lugs s = .next t) :
    t.lamp = s.lamp ∧ t.thermal = s.thermal ∧ t.tape = s.tape ∧ t.cue = s.cue ∧ t.remote = s.remote ∧
    t.bus = s.bus ∧ t.pending = s.pending := by
  simp only [execTrayInsertion] at h
  (repeat' split at h) <;> (cases h; simp)

theorem execGateStateChange_frame {occupied : Bool} {s t : State} (h : execGateStateChange occupied s = .next t) :
    t.thermal = s.thermal ∧ t.tape = s.tape ∧ t.cue = s.cue ∧ t.remote = s.remote ∧ t.bus = s.bus ∧
    t.pending = s.pending := by
  simp only [execGateStateChange] at h
  (repeat' split at h) <;> (cases h; simp)

theorem execEncoderCount_frame {s t : State} (h : execEncoderCount s = .next t) :
    t.changer = s.changer ∧ t.lamp = s.lamp ∧ t.thermal = s.thermal ∧ t.tape = s.tape ∧ t.cue = s.cue ∧
    t.remote = s.remote ∧ t.bus = s.bus ∧ t.link = s.link ∧ t.pending = s.pending := by
  simp only [execEncoderCount] at h
  (repeat' split at h) <;> (cases h; simp)

theorem execBackOffComplete_frame {s t : State} (h : execBackOffComplete s = .next t) :
    t.changer = s.changer ∧ t.lamp = s.lamp ∧ t.thermal = s.thermal ∧ t.tape = s.tape ∧ t.cue = s.cue ∧
    t.remote = s.remote ∧ t.bus = s.bus ∧ t.link = s.link ∧ t.pending = s.pending := by
  simp only [execBackOffComplete] at h
  (repeat' split at h) <;> (cases h; simp)

theorem execNoIndexBudgetExhausted_frame {s t : State} (h : execNoIndexBudgetExhausted s = .next t) :
    t.thermal = s.thermal ∧ t.tape = s.tape ∧ t.cue = s.cue ∧ t.remote = s.remote ∧ t.bus = s.bus ∧
    t.pending = s.pending := by
  simp only [execNoIndexBudgetExhausted] at h
  (repeat' split at h) <;> (cases h; simp)

theorem execIndexPass_frame {s t : State} (h : execIndexPass s = .next t) :
    t.lamp = s.lamp ∧ t.thermal = s.thermal ∧ t.tape = s.tape ∧ t.cue = s.cue ∧ t.remote = s.remote ∧
    t.bus = s.bus ∧ t.pending = s.pending := by
  simp only [execIndexPass] at h
  (repeat' split at h) <;> (cases h; simp)

theorem execStallWatchdogExpiry_frame {s t : State} (h : execStallWatchdogExpiry s = .next t) :
    t.thermal = s.thermal ∧ t.tape = s.tape ∧ t.cue = s.cue ∧ t.remote = s.remote ∧ t.bus = s.bus ∧
    t.pending = s.pending := by
  simp only [execStallWatchdogExpiry] at h
  (repeat' split at h) <;> (cases h; simp)

theorem execBrakeEnd_frame {s t : State} (h : execBrakeEnd s = .next t) :
    t.thermal = s.thermal ∧ t.tape = s.tape ∧ t.cue = s.cue ∧ t.remote = s.remote ∧ t.bus = s.bus ∧
    t.pending = s.pending := by
  simp only [execBrakeEnd] at h
  (repeat' split at h) <;> (cases h; simp)

theorem execLiftDone_frame {s t : State} (h : execLiftDone s = .next t) :
    t.thermal = s.thermal ∧ t.tape = s.tape ∧ t.cue = s.cue ∧ t.remote = s.remote ∧ t.bus = s.bus ∧
    t.pending = s.pending := by
  simp only [execLiftDone] at h
  (repeat' split at h) <;> (cases h; simp)

theorem execDropDone_frame {s t : State} (h : execDropDone s = .next t) :
    t.lamp = s.lamp ∧ t.thermal = s.thermal ∧ t.tape = s.tape ∧ t.cue = s.cue ∧ t.remote = s.remote ∧
    t.bus = s.bus ∧ t.link = s.link ∧ t.pending = s.pending := by
  simp only [execDropDone] at h
  (repeat' split at h) <;> (cases h; simp)

theorem execLifterTimeout_frame {s t : State} (h : execLifterTimeout s = .next t) :
    t.thermal = s.thermal ∧ t.tape = s.tape ∧ t.cue = s.cue ∧ t.remote = s.remote ∧ t.bus = s.bus ∧
    t.pending = s.pending := by
  simp only [execLifterTimeout] at h
  (repeat' split at h) <;> (cases h; simp)

theorem execLifterSwitchChange_frame {up down : Bool} {s t : State} (h : execLifterSwitchChange up down s = .next t) :
    t.thermal = s.thermal ∧ t.tape = s.tape ∧ t.cue = s.cue ∧ t.remote = s.remote ∧ t.bus = s.bus ∧
    t.pending = s.pending := by
  simp only [execLifterSwitchChange] at h
  (repeat' split at h) <;> (cases h; simp)

theorem execSettleEnd_frame {s t : State} (h : execSettleEnd s = .next t) :
    t.thermal = s.thermal ∧ t.remote = s.remote ∧ t.bus = s.bus ∧ t.pending = s.pending := by
  simp only [execSettleEnd] at h
  (repeat' split at h) <;> (cases h; simp)

theorem execFadeTick_frame {s t : State} (h : execFadeTick s = .next t) :
    t.changer = s.changer ∧ t.drive = s.drive ∧ t.thermal = s.thermal ∧ t.tape = s.tape ∧ t.cue = s.cue ∧
    t.remote = s.remote ∧ t.bus = s.bus ∧ t.link = s.link ∧ t.pending = s.pending := by
  simp only [execFadeTick] at h
  cases h
  simp

theorem execFadeOutEnd_frame {s t : State} (h : execFadeOutEnd s = .next t) :
    t.thermal = s.thermal ∧ t.tape = s.tape ∧ t.cue = s.cue ∧ t.remote = s.remote ∧ t.bus = s.bus ∧
    t.pending = s.pending := by
  simp only [execFadeOutEnd] at h
  (repeat' split at h) <;> (cases h; simp)

theorem execFadeInEnd_frame {s t : State} (h : execFadeInEnd s = .next t) :
    t.thermal = s.thermal ∧ t.tape = s.tape ∧ t.cue = s.cue ∧ t.remote = s.remote ∧ t.bus = s.bus ∧
    t.pending = s.pending := by
  simp only [execFadeInEnd] at h
  (repeat' split at h) <;> (cases h; simp)

theorem execDwellTenth_frame {s t : State} (h : execDwellTenth s = .next t) :
    t.drive = s.drive ∧ t.lamp = s.lamp ∧ t.thermal = s.thermal ∧ t.tape = s.tape ∧ t.cue = s.cue ∧
    t.remote = s.remote ∧ t.bus = s.bus ∧ t.link = s.link ∧ t.pending = s.pending := by
  simp only [execDwellTenth] at h
  (repeat' split at h) <;> (cases h; simp)

theorem execDwellExpiry_frame {s t : State} (h : execDwellExpiry s = .next t) :
    t.thermal = s.thermal ∧ t.tape = s.tape ∧ t.cue = s.cue ∧ t.remote = s.remote ∧ t.bus = s.bus ∧
    t.pending = s.pending := by
  simp only [execDwellExpiry] at h
  (repeat' split at h) <;> (cases h; simp)

theorem execFocusStopTimerExpiry_frame {s t : State} (h : execFocusStopTimerExpiry s = .next t) :
    t.changer = s.changer ∧ t.lamp = s.lamp ∧ t.thermal = s.thermal ∧ t.tape = s.tape ∧ t.cue = s.cue ∧
    t.remote = s.remote ∧ t.bus = s.bus ∧ t.link = s.link ∧ t.pending = s.pending := by
  simp only [execFocusStopTimerExpiry] at h
  (repeat' split at h) <;> (cases h; simp)

theorem execFocusDurationEnd_frame {s t : State} (h : execFocusDurationEnd s = .next t) :
    t.changer = s.changer ∧ t.lamp = s.lamp ∧ t.thermal = s.thermal ∧ t.tape = s.tape ∧ t.cue = s.cue ∧
    t.remote = s.remote ∧ t.bus = s.bus ∧ t.link = s.link ∧ t.pending = s.pending := by
  simp only [execFocusDurationEnd] at h
  (repeat' split at h) <;> (cases h; simp)

theorem execFocusPauseEnd_frame {s t : State} (h : execFocusPauseEnd s = .next t) :
    t.changer = s.changer ∧ t.lamp = s.lamp ∧ t.thermal = s.thermal ∧ t.tape = s.tape ∧ t.cue = s.cue ∧
    t.remote = s.remote ∧ t.bus = s.bus ∧ t.link = s.link ∧ t.pending = s.pending := by
  simp only [execFocusPauseEnd] at h
  cases h
  simp

theorem execFocusEndSwitch_frame {dir : FocusDir} {closed : Bool} {s t : State} (h : execFocusEndSwitch dir closed s = .next t) :
    t.changer = s.changer ∧ t.lamp = s.lamp ∧ t.thermal = s.thermal ∧ t.tape = s.tape ∧ t.cue = s.cue ∧
    t.remote = s.remote ∧ t.bus = s.bus ∧ t.link = s.link ∧ t.pending = s.pending := by
  simp only [execFocusEndSwitch] at h
  cases h
  simp

theorem execStrikeAttemptTimer_frame {s t : State} (h : execStrikeAttemptTimer s = .next t) :
    t.changer = s.changer ∧ t.drive = s.drive ∧ t.tape = s.tape ∧ t.cue = s.cue ∧ t.remote = s.remote ∧
    t.bus = s.bus ∧ t.link = s.link ∧ t.pending = s.pending := by
  simp only [execStrikeAttemptTimer] at h
  (repeat' split at h) <;> (cases h; simp)

theorem execStrikeWindowEnd_frame {s t : State} (h : execStrikeWindowEnd s = .next t) :
    t.changer = s.changer ∧ t.drive = s.drive ∧ t.tape = s.tape ∧ t.cue = s.cue ∧ t.remote = s.remote ∧
    t.bus = s.bus ∧ t.pending = s.pending := by
  simp only [execStrikeWindowEnd] at h
  (repeat' split at h) <;> (cases h; simp)

theorem execCurrentSenseChange_frame {flowing : Bool} {s t : State} (h : execCurrentSenseChange flowing s = .next t) :
    t.changer = s.changer ∧ t.drive = s.drive ∧ t.tape = s.tape ∧ t.cue = s.cue ∧ t.remote = s.remote ∧
    t.bus = s.bus ∧ t.link = s.link ∧ t.pending = s.pending := by
  simp only [execCurrentSenseChange] at h
  (repeat' split at h) <;> (cases h; simp)

theorem execWarmUpEnd_frame {s t : State} (h : execWarmUpEnd s = .next t) :
    t.changer = s.changer ∧ t.drive = s.drive ∧ t.tape = s.tape ∧ t.cue = s.cue ∧ t.remote = s.remote ∧
    t.bus = s.bus ∧ t.link = s.link ∧ t.pending = s.pending := by
  simp only [execWarmUpEnd] at h
  (repeat' split at h) <;> (cases h; simp)

theorem execCurrentLoss_frame {s t : State} (h : execCurrentLoss s = .next t) :
    t.changer = s.changer ∧ t.drive = s.drive ∧ t.tape = s.tape ∧ t.cue = s.cue ∧ t.remote = s.remote ∧
    t.bus = s.bus ∧ t.pending = s.pending := by
  simp only [execCurrentLoss] at h
  (repeat' split at h) <;> (cases h; simp)

theorem execCooldownTimerExpiry_frame {s t : State} (h : execCooldownTimerExpiry s = .next t) :
    t.changer = s.changer ∧ t.drive = s.drive ∧ t.tape = s.tape ∧ t.cue = s.cue ∧ t.remote = s.remote ∧
    t.bus = s.bus ∧ t.link = s.link ∧ t.pending = s.pending := by
  simp only [execCooldownTimerExpiry] at h
  (repeat' split at h) <;> (cases h; simp)

theorem execLampPeriodEnd_frame {s t : State} (h : execLampPeriodEnd s = .next t) :
    t.changer = s.changer ∧ t.drive = s.drive ∧ t.tape = s.tape ∧ t.cue = s.cue ∧ t.remote = s.remote ∧
    t.bus = s.bus ∧ t.pending = s.pending := by
  simp only [execLampPeriodEnd] at h
  (repeat' split at h) <;> (cases h; simp)

theorem execThermistorSample_frame {r : Sample} {s t : State} (h : execThermistorSample r s = .next t) :
    t.changer = s.changer ∧ t.drive = s.drive ∧ t.lamp = s.lamp ∧ t.tape = s.tape ∧ t.cue = s.cue ∧
    t.remote = s.remote ∧ t.bus = s.bus ∧ t.link = s.link ∧ t.pending = s.pending := by
  simp only [execThermistorSample] at h
  cases h
  simp

theorem execPeriodComputation_frame {s t : State} (h : execPeriodComputation s = .next t) :
    t.changer = s.changer ∧ t.drive = s.drive ∧ t.tape = s.tape ∧ t.cue = s.cue ∧ t.remote = s.remote ∧
    t.bus = s.bus ∧ t.pending = s.pending := by
  simp only [execPeriodComputation] at h
  (repeat' split at h) <;> (cases h; simp)

theorem execTachPulse_frame {us : Nat} {s t : State} (h : execTachPulse us s = .next t) :
    t.changer = s.changer ∧ t.drive = s.drive ∧ t.lamp = s.lamp ∧ t.tape = s.tape ∧ t.cue = s.cue ∧
    t.remote = s.remote ∧ t.bus = s.bus ∧ t.link = s.link ∧ t.pending = s.pending := by
  simp only [execTachPulse] at h
  cases h
  simp

theorem execCassetteRemoval_frame {s t : State} (h : execCassetteRemoval s = .next t) :
    t.changer = s.changer ∧ t.drive = s.drive ∧ t.lamp = s.lamp ∧ t.thermal = s.thermal ∧ t.remote = s.remote ∧
    t.bus = s.bus ∧ t.pending = s.pending := by
  simp only [execCassetteRemoval] at h
  (repeat' split at h) <;> (cases h; simp)

theorem execCassetteInsertion_frame {s t : State} (h : execCassetteInsertion s = .next t) :
    t.changer = s.changer ∧ t.drive = s.drive ∧ t.lamp = s.lamp ∧ t.thermal = s.thermal ∧ t.remote = s.remote ∧
    t.bus = s.bus ∧ t.link = s.link ∧ t.pending = s.pending := by
  simp only [execCassetteInsertion] at h
  (repeat' split at h) <;> (cases h; simp)

theorem execRunDownEnd_frame {s t : State} (h : execRunDownEnd s = .next t) :
    t.changer = s.changer ∧ t.drive = s.drive ∧ t.lamp = s.lamp ∧ t.thermal = s.thermal ∧ t.remote = s.remote ∧
    t.bus = s.bus ∧ t.link = s.link ∧ t.pending = s.pending := by
  simp only [execRunDownEnd] at h
  (repeat' split at h) <;> (cases h; simp)

theorem execCapstanPulse_frame {s t : State} (h : execCapstanPulse s = .next t) :
    t.changer = s.changer ∧ t.drive = s.drive ∧ t.lamp = s.lamp ∧ t.thermal = s.thermal ∧ t.cue = s.cue ∧
    t.remote = s.remote ∧ t.bus = s.bus ∧ t.link = s.link ∧ t.pending = s.pending := by
  simp only [execCapstanPulse] at h
  (repeat' split at h) <;> (cases h; simp)

theorem execReelPulse_frame {s t : State} (h : execReelPulse s = .next t) :
    t.changer = s.changer ∧ t.drive = s.drive ∧ t.lamp = s.lamp ∧ t.thermal = s.thermal ∧ t.cue = s.cue ∧
    t.remote = s.remote ∧ t.bus = s.bus ∧ t.link = s.link ∧ t.pending = s.pending := by
  simp only [execReelPulse] at h
  (repeat' split at h) <;> (cases h; simp)

theorem execTapeEndTimeout_frame {s t : State} (h : execTapeEndTimeout s = .next t) :
    t.changer = s.changer ∧ t.drive = s.drive ∧ t.lamp = s.lamp ∧ t.thermal = s.thermal ∧ t.remote = s.remote ∧
    t.bus = s.bus ∧ t.pending = s.pending := by
  simp only [execTapeEndTimeout] at h
  (repeat' split at h) <;> (cases h; simp)

theorem execReelTimeout_frame {s t : State} (h : execReelTimeout s = .next t) :
    t.changer = s.changer ∧ t.drive = s.drive ∧ t.lamp = s.lamp ∧ t.thermal = s.thermal ∧ t.remote = s.remote ∧
    t.bus = s.bus ∧ t.pending = s.pending := by
  simp only [execReelTimeout] at h
  (repeat' split at h) <;> (cases h; simp)

theorem execSoundTick_frame {s t : State} (h : execSoundTick s = .next t) :
    t.changer = s.changer ∧ t.drive = s.drive ∧ t.lamp = s.lamp ∧ t.thermal = s.thermal ∧ t.cue = s.cue ∧
    t.remote = s.remote ∧ t.bus = s.bus ∧ t.link = s.link ∧ t.pending = s.pending := by
  simp only [execSoundTick] at h
  cases h
  simp

theorem execBaseRampEnd_frame {s t : State} (h : execBaseRampEnd s = .next t) :
    t.changer = s.changer ∧ t.drive = s.drive ∧ t.lamp = s.lamp ∧ t.thermal = s.thermal ∧ t.cue = s.cue ∧
    t.remote = s.remote ∧ t.bus = s.bus ∧ t.link = s.link ∧ t.pending = s.pending := by
  simp only [execBaseRampEnd] at h
  (repeat' split at h) <;> (cases h; simp)

theorem execDuckRampEnd_frame {s t : State} (h : execDuckRampEnd s = .next t) :
    t.changer = s.changer ∧ t.drive = s.drive ∧ t.lamp = s.lamp ∧ t.thermal = s.thermal ∧ t.cue = s.cue ∧
    t.remote = s.remote ∧ t.bus = s.bus ∧ t.link = s.link ∧ t.pending = s.pending := by
  simp only [execDuckRampEnd] at h
  (repeat' split at h) <;> (cases h; simp)

theorem execCueWordComplete_frame {stopBit : Bool} {s t : State} (h : execCueWordComplete stopBit s = .next t) :
    t.remote = s.remote ∧ t.pending = s.pending := by
  simp only [execCueWordComplete] at h
  (repeat' split at h) <;> (cases h; simp)

theorem execConfirmTimeout_frame {s t : State} (h : execConfirmTimeout s = .next t) :
    t.changer = s.changer ∧ t.drive = s.drive ∧ t.lamp = s.lamp ∧ t.thermal = s.thermal ∧ t.tape = s.tape ∧
    t.remote = s.remote ∧ t.bus = s.bus ∧ t.link = s.link ∧ t.pending = s.pending := by
  simp only [execConfirmTimeout] at h
  cases h
  simp

theorem execPulseCue_frame {s t : State} (h : execPulseCue s = .next t) :
    t.remote = s.remote ∧ t.pending = s.pending := by
  simp only [execPulseCue] at h
  (repeat' split at h) <;> (cases h; simp)

theorem execIrFrame_frame {last : Byte} {s t : State} (h : execIrFrame last s = .next t) :
    t.bus = s.bus ∧ t.pending = s.pending := by
  simp only [execIrFrame] at h
  (repeat' split at h) <;> (cases h; simp)

theorem execIrFrameError_frame {cause : IrFault} {s t : State} (h : execIrFrameError cause s = .next t) :
    t.changer = s.changer ∧ t.drive = s.drive ∧ t.lamp = s.lamp ∧ t.thermal = s.thermal ∧ t.tape = s.tape ∧
    t.cue = s.cue ∧ t.bus = s.bus ∧ t.pending = s.pending := by
  simp only [execIrFrameError] at h
  (repeat' split at h) <;> (cases h; simp)

theorem execIrGapTimeout_frame {s t : State} (h : execIrGapTimeout s = .next t) :
    t.changer = s.changer ∧ t.drive = s.drive ∧ t.lamp = s.lamp ∧ t.thermal = s.thermal ∧ t.tape = s.tape ∧
    t.cue = s.cue ∧ t.bus = s.bus ∧ t.pending = s.pending := by
  simp only [execIrGapTimeout] at h
  (repeat' split at h) <;> (cases h; simp)

theorem execPairingWindowExpiry_frame {s t : State} (h : execPairingWindowExpiry s = .next t) :
    t.changer = s.changer ∧ t.drive = s.drive ∧ t.lamp = s.lamp ∧ t.thermal = s.thermal ∧ t.tape = s.tape ∧
    t.cue = s.cue ∧ t.bus = s.bus ∧ t.link = s.link ∧ t.pending = s.pending := by
  simp only [execPairingWindowExpiry] at h
  cases h
  simp

theorem execQuietTimeStep_frame {s t : State} (h : execQuietTimeStep s = .next t) :
    t.changer = s.changer ∧ t.drive = s.drive ∧ t.lamp = s.lamp ∧ t.thermal = s.thermal ∧ t.tape = s.tape ∧
    t.cue = s.cue ∧ t.bus = s.bus ∧ t.link = s.link ∧ t.pending = s.pending := by
  simp only [execQuietTimeStep] at h
  cases h
  simp

theorem execBusDestinationDecided_frame {port : Port} {b : Byte} {s t : State} (h : execBusDestinationDecided port b s = .next t) :
    t.pending = s.pending := by
  simp only [execBusDestinationDecided] at h
  (repeat' split at h) <;> (cases h; simp)

theorem execBusFrameEnd_frame {port : Port} {last : Option Byte} {s t : State} (h : execBusFrameEnd port last s = .next t) :
    t.pending = s.pending := by
  simp only [execBusFrameEnd] at h
  (repeat' split at h) <;> (cases h; simp)

theorem execBusGapTimeout_frame {port : Port} {s t : State} (h : execBusGapTimeout port s = .next t) :
    t.changer = s.changer ∧ t.drive = s.drive ∧ t.lamp = s.lamp ∧ t.thermal = s.thermal ∧ t.tape = s.tape ∧
    t.cue = s.cue ∧ t.remote = s.remote ∧ t.pending = s.pending := by
  simp only [execBusGapTimeout] at h
  cases h
  simp

theorem execBusTailQuiet_frame {port : Port} {s t : State} (h : execBusTailQuiet port s = .next t) :
    t.changer = s.changer ∧ t.drive = s.drive ∧ t.lamp = s.lamp ∧ t.thermal = s.thermal ∧ t.tape = s.tape ∧
    t.cue = s.cue ∧ t.remote = s.remote ∧ t.link = s.link ∧ t.pending = s.pending := by
  simp only [execBusTailQuiet] at h
  (repeat' split at h) <;> (cases h; simp)

theorem execBusCollision_frame {port : Port} {s t : State} (h : execBusCollision port s = .next t) :
    t.changer = s.changer ∧ t.drive = s.drive ∧ t.lamp = s.lamp ∧ t.thermal = s.thermal ∧ t.tape = s.tape ∧
    t.cue = s.cue ∧ t.remote = s.remote ∧ t.pending = s.pending := by
  simp only [execBusCollision] at h
  cases h
  simp

theorem execStatusAnswerStart_frame {s t : State} (h : execStatusAnswerStart s = .next t) :
    t.changer = s.changer ∧ t.drive = s.drive ∧ t.lamp = s.lamp ∧ t.thermal = s.thermal ∧ t.tape = s.tape ∧
    t.cue = s.cue ∧ t.remote = s.remote ∧ t.link = s.link ∧ t.pending = s.pending := by
  simp only [execStatusAnswerStart] at h
  (repeat' split at h) <;> (cases h; simp)

theorem execStatusAnswerDone_frame {s t : State} (h : execStatusAnswerDone s = .next t) :
    t.changer = s.changer ∧ t.drive = s.drive ∧ t.lamp = s.lamp ∧ t.thermal = s.thermal ∧ t.tape = s.tape ∧
    t.cue = s.cue ∧ t.remote = s.remote ∧ t.link = s.link ∧ t.pending = s.pending := by
  simp only [execStatusAnswerDone] at h
  (repeat' split at h) <;> (cases h; simp)

theorem execStatusAnswerTimeout_frame {s t : State} (h : execStatusAnswerTimeout s = .next t) :
    t.changer = s.changer ∧ t.drive = s.drive ∧ t.lamp = s.lamp ∧ t.thermal = s.thermal ∧ t.tape = s.tape ∧
    t.cue = s.cue ∧ t.remote = s.remote ∧ t.link = s.link ∧ t.pending = s.pending := by
  simp only [execStatusAnswerTimeout] at h
  (repeat' split at h) <;> (cases h; simp)

theorem execOriginationStart_frame {s t : State} (h : execOriginationStart s = .next t) :
    t.changer = s.changer ∧ t.drive = s.drive ∧ t.lamp = s.lamp ∧ t.thermal = s.thermal ∧ t.tape = s.tape ∧
    t.cue = s.cue ∧ t.remote = s.remote ∧ t.link = s.link ∧ t.pending = s.pending := by
  simp only [execOriginationStart] at h
  (repeat' split at h) <;> (cases h; simp)

theorem execOriginationDone_frame {s t : State} (h : execOriginationDone s = .next t) :
    t.changer = s.changer ∧ t.drive = s.drive ∧ t.lamp = s.lamp ∧ t.thermal = s.thermal ∧ t.tape = s.tape ∧
    t.cue = s.cue ∧ t.remote = s.remote ∧ t.link = s.link ∧ t.pending = s.pending := by
  simp only [execOriginationDone] at h
  (repeat' split at h) <;> (cases h; simp)

theorem execOriginationWaitTimeout_frame {s t : State} (h : execOriginationWaitTimeout s = .next t) :
    t.changer = s.changer ∧ t.drive = s.drive ∧ t.lamp = s.lamp ∧ t.thermal = s.thermal ∧ t.tape = s.tape ∧
    t.cue = s.cue ∧ t.remote = s.remote ∧ t.pending = s.pending := by
  simp only [execOriginationWaitTimeout] at h
  (repeat' split at h) <;> (cases h; simp)

theorem execBackoffEnd_frame {s t : State} (h : execBackoffEnd s = .next t) :
    t.changer = s.changer ∧ t.drive = s.drive ∧ t.lamp = s.lamp ∧ t.thermal = s.thermal ∧ t.tape = s.tape ∧
    t.cue = s.cue ∧ t.remote = s.remote ∧ t.link = s.link ∧ t.pending = s.pending := by
  simp only [execBackoffEnd] at h
  (repeat' split at h) <;> (cases h; simp)

theorem execCueDataFallingEdge_frame {s t : State} (h : execCueDataFallingEdge s = .next t) :
    t.changer = s.changer ∧ t.drive = s.drive ∧ t.lamp = s.lamp ∧ t.thermal = s.thermal ∧ t.tape = s.tape ∧
    t.remote = s.remote ∧ t.bus = s.bus ∧ t.link = s.link ∧ t.pending = s.pending := by
  simp only [execCueDataFallingEdge] at h
  (repeat' split at h) <;> (cases h; simp)

theorem execStartBitRecheck_frame {high : Bool} {s t : State} (h : execStartBitRecheck high s = .next t) :
    t.changer = s.changer ∧ t.drive = s.drive ∧ t.lamp = s.lamp ∧ t.thermal = s.thermal ∧ t.tape = s.tape ∧
    t.remote = s.remote ∧ t.bus = s.bus ∧ t.link = s.link ∧ t.pending = s.pending := by
  simp only [execStartBitRecheck] at h
  (repeat' split at h) <;> (cases h; simp)

theorem execCueBitSample_frame {high : Bool} {s t : State} (h : execCueBitSample high s = .next t) :
    t.changer = s.changer ∧ t.drive = s.drive ∧ t.lamp = s.lamp ∧ t.thermal = s.thermal ∧ t.tape = s.tape ∧
    t.remote = s.remote ∧ t.bus = s.bus ∧ t.link = s.link ∧ t.pending = s.pending := by
  simp only [execCueBitSample] at h
  (repeat' split at h) <;> (cases h; simp)

theorem execToneBurstStart_frame {s t : State} (h : execToneBurstStart s = .next t) :
    t.changer = s.changer ∧ t.drive = s.drive ∧ t.lamp = s.lamp ∧ t.thermal = s.thermal ∧ t.tape = s.tape ∧
    t.remote = s.remote ∧ t.bus = s.bus ∧ t.link = s.link ∧ t.pending = s.pending := by
  simp only [execToneBurstStart] at h
  (repeat' split at h) <;> (cases h; simp)

theorem execShortToneBurstEnd_frame {s t : State} (h : execShortToneBurstEnd s = .next t) :
    t.changer = s.changer ∧ t.drive = s.drive ∧ t.lamp = s.lamp ∧ t.thermal = s.thermal ∧ t.tape = s.tape ∧
    t.remote = s.remote ∧ t.bus = s.bus ∧ t.link = s.link ∧ t.pending = s.pending := by
  simp only [execShortToneBurstEnd] at h
  cases h
  simp

theorem execIrCarrierPresent_frame {s t : State} (h : execIrCarrierPresent s = .next t) :
    t.changer = s.changer ∧ t.drive = s.drive ∧ t.lamp = s.lamp ∧ t.thermal = s.thermal ∧ t.tape = s.tape ∧
    t.cue = s.cue ∧ t.bus = s.bus ∧ t.link = s.link ∧ t.pending = s.pending := by
  simp only [execIrCarrierPresent] at h
  (repeat' split at h) <;> (cases h; simp)

theorem execIrLeaderEnd_frame {us : Nat} {s t : State} (h : execIrLeaderEnd us s = .next t) :
    t.changer = s.changer ∧ t.drive = s.drive ∧ t.lamp = s.lamp ∧ t.thermal = s.thermal ∧ t.tape = s.tape ∧
    t.cue = s.cue ∧ t.bus = s.bus ∧ t.link = s.link ∧ t.pending = s.pending := by
  simp only [execIrLeaderEnd] at h
  (repeat' split at h) <;> (cases h; simp)

theorem execIrLeaderTooLong_frame {s t : State} (h : execIrLeaderTooLong s = .next t) :
    t.changer = s.changer ∧ t.drive = s.drive ∧ t.lamp = s.lamp ∧ t.thermal = s.thermal ∧ t.tape = s.tape ∧
    t.cue = s.cue ∧ t.bus = s.bus ∧ t.link = s.link ∧ t.pending = s.pending := by
  simp only [execIrLeaderTooLong] at h
  (repeat' split at h) <;> (cases h; simp)

theorem execIrByteComplete_frame {b : Byte} {s t : State} (h : execIrByteComplete b s = .next t) :
    t.bus = s.bus ∧ t.pending = s.pending := by
  simp only [execIrByteComplete] at h
  cases h
  simp

theorem execBusByteReceived_frame {port : Port} {b : Byte} {s t : State} (h : execBusByteReceived port b s = .next t) :
    t.pending = s.pending := by
  simp only [execBusByteReceived] at h
  cases h
  simp

theorem execBusForwardEnd_frame {sender : Port} {s t : State} (h : execBusForwardEnd sender s = .next t) :
    t.changer = s.changer ∧ t.drive = s.drive ∧ t.lamp = s.lamp ∧ t.thermal = s.thermal ∧ t.tape = s.tape ∧
    t.cue = s.cue ∧ t.remote = s.remote ∧ t.link = s.link ∧ t.pending = s.pending := by
  simp only [execBusForwardEnd] at h
  (repeat' split at h) <;> (cases h; simp)

end Sys2Proof.Machine
end

