-- ==== Sys2Proof/Laws/Touches.lean ====
section
/-! SUPPORT. Which blocks of the state each command may touch, and the one law that the others are left alone. -/

namespace Sys2Proof.Machine

/-- The blocks of the state, and the queue of waiting commands. -/
inductive Block
  | changer
  | drive
  | lamp
  | thermal
  | tape
  | cue
  | remote
  | bus
  | link
  | queue
  deriving DecidableEq, Repr

/-- Two states agree on a block. -/
def Block.same (s t : State) : Block → Prop
  | .changer => t.changer = s.changer
  | .drive => t.drive = s.drive
  | .lamp => t.lamp = s.lamp
  | .thermal => t.thermal = s.thermal
  | .tape => t.tape = s.tape
  | .cue => t.cue = s.cue
  | .remote => t.remote = s.remote
  | .bus => t.bus = s.bus
  | .link => t.link = s.link
  | .queue => t.pending = s.pending

/-- The blocks a command may touch. -/
def touches : Instr → List Block
  | .writeSlot _ _ _ => [.changer, .link]
  | .loadSlots _ _ _ _ => [.changer, .link]
  | .retireSlot _ _ => [.changer, .link]
  | .readSlot _ => [.link]
  | .readShow => [.link]
  | .setOptions _ _ _ => [.changer, .link]
  | .step _ => [.changer, .drive, .lamp, .link]
  | .goto _ => [.changer, .drive, .lamp, .link]
  | .home => [.changer, .drive, .lamp, .link]
  | .hold => [.changer, .link]
  | .resume => [.changer, .link]
  | .flush => [.changer, .link]
  | .readDrive => [.link]
  | .focus _ _ => [.drive, .link]
  | .lampOn => [.lamp, .thermal, .link]
  | .lampOff => [.lamp, .thermal, .link]
  | .lampReset => [.lamp, .thermal, .link]
  | .setLight _ => [.lamp, .link]
  | .writeExposure _ _ => [.lamp, .link]
  | .readLamp => [.link]
  | .writeCalibration _ _ _ => [.thermal, .link]
  | .readCalibration => [.link]
  | .writeProfile _ _ => [.thermal, .link]
  | .readProfile _ => [.link]
  | .selectProfile _ => [.thermal, .link]
  | .readThermal => [.link]
  | .tapePlay => [.tape, .cue, .link]
  | .tapePause => [.tape, .cue, .link]
  | .tapeStop => [.tape, .cue, .link]
  | .tapeWind _ => [.tape, .cue, .link]
  | .setTapePosition _ => [.tape, .link]
  | .setGain _ => [.tape, .link]
  | .setDuckDepth _ _ => [.tape, .link]
  | .setMute _ => [.tape, .link]
  | .readTape => [.link]
  | .setCueOptions _ _ => [.cue, .link]
  | .setMasks _ _ _ => [.cue, .link]
  | .writeCue _ => [.cue, .link]
  | .armCue _ => [.cue, .link]
  | .pauseCue _ => [.cue, .link]
  | .retireCue _ => [.cue, .link]
  | .readCue _ => [.link]
  | .learnOn => [.cue, .link]
  | .learnOff => [.cue, .link]
  | .readLearn => [.cue, .link]
  | .readCueUnit => [.link]
  | .openPairing _ => [.remote, .link]
  | .closePairing => [.remote, .link]
  | .readHandset _ => [.link]
  | .setRights _ _ => [.remote, .link]
  | .blockHandset _ => [.remote, .link]
  | .unblockHandset _ => [.remote, .link]
  | .retireHandset _ => [.remote, .link]
  | .setAddress _ _ => [.bus, .link]
  | .sendFrame _ _ _ _ => [.bus, .link]
  | .portAbort => [.bus, .link]
  | .portRestart => [.bus, .link]
  | .readPort => [.link]
  | .setNoticeMask _ => [.link]
  | .readNotices => [.link]
  | .readNotice _ => [.link]
  | .clearNotices => [.link]
  | .reset => [.changer, .drive, .lamp, .thermal, .tape, .cue, .remote, .bus, .link]
  | .pollPeriod _ _ => [.link]
  | .requestFrame _ => [.link]
  | .fetch _ => [.link]
  | .resetPinAssert => [.link]
  | .powerOnReset => [.changer, .drive, .lamp, .thermal, .tape, .cue, .remote, .bus, .link]
  | .trayRemoval => [.changer, .drive, .lamp, .link]
  | .trayInsertion _ => [.changer, .drive, .link]
  | .gateStateChange _ => [.changer, .drive, .lamp, .link]
  | .encoderCount => [.drive]
  | .backOffComplete => [.drive]
  | .noIndexBudgetExhausted => [.changer, .drive, .lamp, .link]
  | .indexPass => [.changer, .drive, .link]
  | .stallWatchdogExpiry => [.changer, .drive, .lamp, .link]
  | .brakeEnd => [.changer, .drive, .lamp, .link]
  | .liftDone => [.changer, .drive, .lamp, .link]
  | .dropDone => [.changer, .drive]
  | .lifterTimeout => [.changer, .drive, .lamp, .link]
  | .lifterSwitchChange _ _ => [.changer, .drive, .lamp, .link]
  | .settleEnd => [.changer, .drive, .lamp, .tape, .cue, .link]
  | .fadeTick => [.lamp]
  | .fadeOutEnd => [.changer, .drive, .lamp, .link]
  | .fadeInEnd => [.changer, .drive, .lamp, .link]
  | .dwellTenth => [.changer]
  | .dwellExpiry => [.changer, .drive, .lamp, .link]
  | .focusStopTimerExpiry => [.drive]
  | .focusDurationEnd => [.drive]
  | .focusPauseEnd => [.drive]
  | .focusEndSwitch _ _ => [.drive]
  | .strikeAttemptTimer => [.lamp, .thermal]
  | .strikeWindowEnd => [.lamp, .thermal, .link]
  | .currentSenseChange _ => [.lamp, .thermal]
  | .warmUpEnd => [.lamp, .thermal]
  | .currentLoss => [.lamp, .thermal, .link]
  | .cooldownTimerExpiry => [.lamp, .thermal]
  | .lampPeriodEnd => [.lamp, .thermal, .link]
  | .thermistorSample _ => [.thermal]
  | .periodComputation => [.lamp, .thermal, .link]
  | .tachPulse _ => [.thermal]
  | .cassetteRemoval => [.tape, .cue, .link]
  | .cassetteInsertion => [.tape, .cue]
  | .runDownEnd => [.tape, .cue]
  | .capstanPulse => [.tape]
  | .reelPulse => [.tape]
  | .tapeEndTimeout => [.tape, .cue, .link]
  | .reelTimeout => [.tape, .cue, .link]
  | .soundTick => [.tape]
  | .baseRampEnd => [.tape]
  | .duckRampEnd => [.tape]
  | .cueWordComplete _ => [.changer, .drive, .lamp, .thermal, .tape, .cue, .link, .bus]
  | .confirmTimeout => [.cue]
  | .pulseCue => [.changer, .drive, .lamp, .thermal, .tape, .cue, .link, .bus]
  | .irFrame _ => [.changer, .drive, .lamp, .thermal, .tape, .cue, .link, .remote]
  | .irFrameError _ => [.remote, .link]
  | .irGapTimeout => [.remote, .link]
  | .pairingWindowExpiry => [.remote]
  | .quietTimeStep => [.remote]
  | .busDestinationDecided _ _ => [.changer, .drive, .lamp, .thermal, .tape, .cue, .link, .remote, .bus]
  | .busFrameEnd _ _ => [.changer, .drive, .lamp, .thermal, .tape, .cue, .link, .remote, .bus]
  | .busGapTimeout _ => [.bus, .link]
  | .busTailQuiet _ => [.bus]
  | .busCollision _ => [.bus, .link]
  | .statusAnswerStart => [.bus]
  | .statusAnswerDone => [.bus]
  | .statusAnswerTimeout => [.bus]
  | .originationStart => [.bus]
  | .originationDone => [.bus]
  | .originationWaitTimeout => [.bus, .link]
  | .backoffEnd => [.bus]
  | .cueDataFallingEdge => [.cue]
  | .startBitRecheck _ => [.cue]
  | .cueBitSample _ => [.cue]
  | .toneBurstStart => [.cue]
  | .shortToneBurstEnd => [.cue]
  | .irCarrierPresent => [.remote]
  | .irLeaderEnd _ => [.remote]
  | .irLeaderTooLong => [.remote]
  | .irByteComplete _ => [.changer, .drive, .lamp, .thermal, .tape, .cue, .link, .remote]
  | .busByteReceived _ _ => [.changer, .drive, .lamp, .thermal, .tape, .cue, .link, .remote, .bus]
  | .busForwardEnd _ => [.bus]

/-- A command that gives a next state leaves every block it does not touch. -/
theorem exec_leaves {c : Instr} {s t : State} (b : Block) (h : exec c s = .next t) (hb : b ∉ touches c) :
    b.same s t := by
  cases c with
  | writeSlot _ _ _ => have f := execWriteSlot_frame h; cases b <;> first | (simp only [Block.same, f]; done) | simp [touches] at hb
  | loadSlots _ _ _ _ => have f := execLoadSlots_frame h; cases b <;> first | (simp only [Block.same, f]; done) | simp [touches] at hb
  | retireSlot _ _ => have f := execRetireSlot_frame h; cases b <;> first | (simp only [Block.same, f]; done) | simp [touches] at hb
  | readSlot _ => have f := execReadSlot_frame h; cases b <;> first | (simp only [Block.same, f]; done) | simp [touches] at hb
  | readShow => have f := execReadShow_frame h; cases b <;> first | (simp only [Block.same, f]; done) | simp [touches] at hb
  | setOptions _ _ _ => have f := execSetOptions_frame h; cases b <;> first | (simp only [Block.same, f]; done) | simp [touches] at hb
  | step _ => have f := execStep_frame h; cases b <;> first | (simp only [Block.same, f]; done) | simp [touches] at hb
  | goto _ => have f := execGoto_frame h; cases b <;> first | (simp only [Block.same, f]; done) | simp [touches] at hb
  | home => have f := execHome_frame h; cases b <;> first | (simp only [Block.same, f]; done) | simp [touches] at hb
  | hold => have f := execHold_frame h; cases b <;> first | (simp only [Block.same, f]; done) | simp [touches] at hb
  | resume => have f := execResume_frame h; cases b <;> first | (simp only [Block.same, f]; done) | simp [touches] at hb
  | flush => have f := execFlush_frame h; cases b <;> first | (simp only [Block.same, f]; done) | simp [touches] at hb
  | readDrive => have f := execReadDrive_frame h; cases b <;> first | (simp only [Block.same, f]; done) | simp [touches] at hb
  | focus _ _ => have f := execFocus_frame h; cases b <;> first | (simp only [Block.same, f]; done) | simp [touches] at hb
  | lampOn => have f := execLampOn_frame h; cases b <;> first | (simp only [Block.same, f]; done) | simp [touches] at hb
  | lampOff => have f := execLampOff_frame h; cases b <;> first | (simp only [Block.same, f]; done) | simp [touches] at hb
  | lampReset => have f := execLampReset_frame h; cases b <;> first | (simp only [Block.same, f]; done) | simp [touches] at hb
  | setLight _ => have f := execSetLight_frame h; cases b <;> first | (simp only [Block.same, f]; done) | simp [touches] at hb
  | writeExposure _ _ => have f := execWriteExposure_frame h; cases b <;> first | (simp only [Block.same, f]; done) | simp [touches] at hb
  | readLamp => have f := execReadLamp_frame h; cases b <;> first | (simp only [Block.same, f]; done) | simp [touches] at hb
  | writeCalibration _ _ _ => have f := execWriteCalibration_frame h; cases b <;> first | (simp only [Block.same, f]; done) | simp [touches] at hb
  | readCalibration => have f := execReadCalibration_frame h; cases b <;> first | (simp only [Block.same, f]; done) | simp [touches] at hb
  | writeProfile _ _ => have f := execWriteProfile_frame h; cases b <;> first | (simp only [Block.same, f]; done) | simp [touches] at hb
  | readProfile _ => have f := execReadProfile_frame h; cases b <;> first | (simp only [Block.same, f]; done) | simp [touches] at hb
  | selectProfile _ => have f := execSelectProfile_frame h; cases b <;> first | (simp only [Block.same, f]; done) | simp [touches] at hb
  | readThermal => have f := execReadThermal_frame h; cases b <;> first | (simp only [Block.same, f]; done) | simp [touches] at hb
  | tapePlay => have f := execTapePlay_frame h; cases b <;> first | (simp only [Block.same, f]; done) | simp [touches] at hb
  | tapePause => have f := execTapePause_frame h; cases b <;> first | (simp only [Block.same, f]; done) | simp [touches] at hb
  | tapeStop => have f := execTapeStop_frame h; cases b <;> first | (simp only [Block.same, f]; done) | simp [touches] at hb
  | tapeWind _ => have f := execTapeWind_frame h; cases b <;> first | (simp only [Block.same, f]; done) | simp [touches] at hb
  | setTapePosition _ => have f := execSetTapePosition_frame h; cases b <;> first | (simp only [Block.same, f]; done) | simp [touches] at hb
  | setGain _ => have f := execSetGain_frame h; cases b <;> first | (simp only [Block.same, f]; done) | simp [touches] at hb
  | setDuckDepth _ _ => have f := execSetDuckDepth_frame h; cases b <;> first | (simp only [Block.same, f]; done) | simp [touches] at hb
  | setMute _ => have f := execSetMute_frame h; cases b <;> first | (simp only [Block.same, f]; done) | simp [touches] at hb
  | readTape => have f := execReadTape_frame h; cases b <;> first | (simp only [Block.same, f]; done) | simp [touches] at hb
  | setCueOptions _ _ => have f := execSetCueOptions_frame h; cases b <;> first | (simp only [Block.same, f]; done) | simp [touches] at hb
  | setMasks _ _ _ => have f := execSetMasks_frame h; cases b <;> first | (simp only [Block.same, f]; done) | simp [touches] at hb
  | writeCue _ => have f := execWriteCue_frame h; cases b <;> first | (simp only [Block.same, f]; done) | simp [touches] at hb
  | armCue _ => have f := execArmCue_frame h; cases b <;> first | (simp only [Block.same, f]; done) | simp [touches] at hb
  | pauseCue _ => have f := execPauseCue_frame h; cases b <;> first | (simp only [Block.same, f]; done) | simp [touches] at hb
  | retireCue _ => have f := execRetireCue_frame h; cases b <;> first | (simp only [Block.same, f]; done) | simp [touches] at hb
  | readCue _ => have f := execReadCue_frame h; cases b <;> first | (simp only [Block.same, f]; done) | simp [touches] at hb
  | learnOn => have f := execLearnOn_frame h; cases b <;> first | (simp only [Block.same, f]; done) | simp [touches] at hb
  | learnOff => have f := execLearnOff_frame h; cases b <;> first | (simp only [Block.same, f]; done) | simp [touches] at hb
  | readLearn => have f := execReadLearn_frame h; cases b <;> first | (simp only [Block.same, f]; done) | simp [touches] at hb
  | readCueUnit => have f := execReadCueUnit_frame h; cases b <;> first | (simp only [Block.same, f]; done) | simp [touches] at hb
  | openPairing _ => have f := execOpenPairing_frame h; cases b <;> first | (simp only [Block.same, f]; done) | simp [touches] at hb
  | closePairing => have f := execClosePairing_frame h; cases b <;> first | (simp only [Block.same, f]; done) | simp [touches] at hb
  | readHandset _ => have f := execReadHandset_frame h; cases b <;> first | (simp only [Block.same, f]; done) | simp [touches] at hb
  | setRights _ _ => have f := execSetRights_frame h; cases b <;> first | (simp only [Block.same, f]; done) | simp [touches] at hb
  | blockHandset _ => have f := execBlockHandset_frame h; cases b <;> first | (simp only [Block.same, f]; done) | simp [touches] at hb
  | unblockHandset _ => have f := execUnblockHandset_frame h; cases b <;> first | (simp only [Block.same, f]; done) | simp [touches] at hb
  | retireHandset _ => have f := execRetireHandset_frame h; cases b <;> first | (simp only [Block.same, f]; done) | simp [touches] at hb
  | setAddress _ _ => have f := execSetAddress_frame h; cases b <;> first | (simp only [Block.same, f]; done) | simp [touches] at hb
  | sendFrame _ _ _ _ => have f := execSendFrame_frame h; cases b <;> first | (simp only [Block.same, f]; done) | simp [touches] at hb
  | portAbort => have f := execPortAbort_frame h; cases b <;> first | (simp only [Block.same, f]; done) | simp [touches] at hb
  | portRestart => have f := execPortRestart_frame h; cases b <;> first | (simp only [Block.same, f]; done) | simp [touches] at hb
  | readPort => have f := execReadPort_frame h; cases b <;> first | (simp only [Block.same, f]; done) | simp [touches] at hb
  | setNoticeMask _ => have f := execSetNoticeMask_frame h; cases b <;> first | (simp only [Block.same, f]; done) | simp [touches] at hb
  | readNotices => have f := execReadNotices_frame h; cases b <;> first | (simp only [Block.same, f]; done) | simp [touches] at hb
  | readNotice _ => have f := execReadNotice_frame h; cases b <;> first | (simp only [Block.same, f]; done) | simp [touches] at hb
  | clearNotices => have f := execClearNotices_frame h; cases b <;> first | (simp only [Block.same, f]; done) | simp [touches] at hb
  | reset => have f := execReset_frame h; cases b <;> first | (simp only [Block.same, f]; done) | simp [touches] at hb
  | pollPeriod k _ => have f := execPollPeriod_frame (kind := k) h; cases b <;> first | (simp only [Block.same, f]; done) | simp [touches] at hb
  | requestFrame _ => have f := execRequestFrame_frame h; cases b <;> first | (simp only [Block.same, f]; done) | simp [touches] at hb
  | fetch _ => have f := execFetch_frame h; cases b <;> first | (simp only [Block.same, f]; done) | simp [touches] at hb
  | resetPinAssert => have f := execResetPinAssert_frame h; cases b <;> first | (simp only [Block.same, f]; done) | simp [touches] at hb
  | powerOnReset => have f := execPowerOnReset_frame h; cases b <;> first | (simp only [Block.same, f]; done) | simp [touches] at hb
  | trayRemoval => have f := execTrayRemoval_frame h; cases b <;> first | (simp only [Block.same, f]; done) | simp [touches] at hb
  | trayInsertion _ => have f := execTrayInsertion_frame h; cases b <;> first | (simp only [Block.same, f]; done) | simp [touches] at hb
  | gateStateChange _ => have f := execGateStateChange_frame h; cases b <;> first | (simp only [Block.same, f]; done) | simp [touches] at hb
  | encoderCount => have f := execEncoderCount_frame h; cases b <;> first | (simp only [Block.same, f]; done) | simp [touches] at hb
  | backOffComplete => have f := execBackOffComplete_frame h; cases b <;> first | (simp only [Block.same, f]; done) | simp [touches] at hb
  | noIndexBudgetExhausted => have f := execNoIndexBudgetExhausted_frame h; cases b <;> first | (simp only [Block.same, f]; done) | simp [touches] at hb
  | indexPass => have f := execIndexPass_frame h; cases b <;> first | (simp only [Block.same, f]; done) | simp [touches] at hb
  | stallWatchdogExpiry => have f := execStallWatchdogExpiry_frame h; cases b <;> first | (simp only [Block.same, f]; done) | simp [touches] at hb
  | brakeEnd => have f := execBrakeEnd_frame h; cases b <;> first | (simp only [Block.same, f]; done) | simp [touches] at hb
  | liftDone => have f := execLiftDone_frame h; cases b <;> first | (simp only [Block.same, f]; done) | simp [touches] at hb
  | dropDone => have f := execDropDone_frame h; cases b <;> first | (simp only [Block.same, f]; done) | simp [touches] at hb
  | lifterTimeout => have f := execLifterTimeout_frame h; cases b <;> first | (simp only [Block.same, f]; done) | simp [touches] at hb
  | lifterSwitchChange _ _ => have f := execLifterSwitchChange_frame h; cases b <;> first | (simp only [Block.same, f]; done) | simp [touches] at hb
  | settleEnd => have f := execSettleEnd_frame h; cases b <;> first | (simp only [Block.same, f]; done) | simp [touches] at hb
  | fadeTick => have f := execFadeTick_frame h; cases b <;> first | (simp only [Block.same, f]; done) | simp [touches] at hb
  | fadeOutEnd => have f := execFadeOutEnd_frame h; cases b <;> first | (simp only [Block.same, f]; done) | simp [touches] at hb
  | fadeInEnd => have f := execFadeInEnd_frame h; cases b <;> first | (simp only [Block.same, f]; done) | simp [touches] at hb
  | dwellTenth => have f := execDwellTenth_frame h; cases b <;> first | (simp only [Block.same, f]; done) | simp [touches] at hb
  | dwellExpiry => have f := execDwellExpiry_frame h; cases b <;> first | (simp only [Block.same, f]; done) | simp [touches] at hb
  | focusStopTimerExpiry => have f := execFocusStopTimerExpiry_frame h; cases b <;> first | (simp only [Block.same, f]; done) | simp [touches] at hb
  | focusDurationEnd => have f := execFocusDurationEnd_frame h; cases b <;> first | (simp only [Block.same, f]; done) | simp [touches] at hb
  | focusPauseEnd => have f := execFocusPauseEnd_frame h; cases b <;> first | (simp only [Block.same, f]; done) | simp [touches] at hb
  | focusEndSwitch _ _ => have f := execFocusEndSwitch_frame h; cases b <;> first | (simp only [Block.same, f]; done) | simp [touches] at hb
  | strikeAttemptTimer => have f := execStrikeAttemptTimer_frame h; cases b <;> first | (simp only [Block.same, f]; done) | simp [touches] at hb
  | strikeWindowEnd => have f := execStrikeWindowEnd_frame h; cases b <;> first | (simp only [Block.same, f]; done) | simp [touches] at hb
  | currentSenseChange _ => have f := execCurrentSenseChange_frame h; cases b <;> first | (simp only [Block.same, f]; done) | simp [touches] at hb
  | warmUpEnd => have f := execWarmUpEnd_frame h; cases b <;> first | (simp only [Block.same, f]; done) | simp [touches] at hb
  | currentLoss => have f := execCurrentLoss_frame h; cases b <;> first | (simp only [Block.same, f]; done) | simp [touches] at hb
  | cooldownTimerExpiry => have f := execCooldownTimerExpiry_frame h; cases b <;> first | (simp only [Block.same, f]; done) | simp [touches] at hb
  | lampPeriodEnd => have f := execLampPeriodEnd_frame h; cases b <;> first | (simp only [Block.same, f]; done) | simp [touches] at hb
  | thermistorSample _ => have f := execThermistorSample_frame h; cases b <;> first | (simp only [Block.same, f]; done) | simp [touches] at hb
  | periodComputation => have f := execPeriodComputation_frame h; cases b <;> first | (simp only [Block.same, f]; done) | simp [touches] at hb
  | tachPulse _ => have f := execTachPulse_frame h; cases b <;> first | (simp only [Block.same, f]; done) | simp [touches] at hb
  | cassetteRemoval => have f := execCassetteRemoval_frame h; cases b <;> first | (simp only [Block.same, f]; done) | simp [touches] at hb
  | cassetteInsertion => have f := execCassetteInsertion_frame h; cases b <;> first | (simp only [Block.same, f]; done) | simp [touches] at hb
  | runDownEnd => have f := execRunDownEnd_frame h; cases b <;> first | (simp only [Block.same, f]; done) | simp [touches] at hb
  | capstanPulse => have f := execCapstanPulse_frame h; cases b <;> first | (simp only [Block.same, f]; done) | simp [touches] at hb
  | reelPulse => have f := execReelPulse_frame h; cases b <;> first | (simp only [Block.same, f]; done) | simp [touches] at hb
  | tapeEndTimeout => have f := execTapeEndTimeout_frame h; cases b <;> first | (simp only [Block.same, f]; done) | simp [touches] at hb
  | reelTimeout => have f := execReelTimeout_frame h; cases b <;> first | (simp only [Block.same, f]; done) | simp [touches] at hb
  | soundTick => have f := execSoundTick_frame h; cases b <;> first | (simp only [Block.same, f]; done) | simp [touches] at hb
  | baseRampEnd => have f := execBaseRampEnd_frame h; cases b <;> first | (simp only [Block.same, f]; done) | simp [touches] at hb
  | duckRampEnd => have f := execDuckRampEnd_frame h; cases b <;> first | (simp only [Block.same, f]; done) | simp [touches] at hb
  | cueWordComplete _ => have f := execCueWordComplete_frame h; cases b <;> first | (simp only [Block.same, f]; done) | simp [touches] at hb
  | confirmTimeout => have f := execConfirmTimeout_frame h; cases b <;> first | (simp only [Block.same, f]; done) | simp [touches] at hb
  | pulseCue => have f := execPulseCue_frame h; cases b <;> first | (simp only [Block.same, f]; done) | simp [touches] at hb
  | irFrame _ => have f := execIrFrame_frame h; cases b <;> first | (simp only [Block.same, f]; done) | simp [touches] at hb
  | irFrameError _ => have f := execIrFrameError_frame h; cases b <;> first | (simp only [Block.same, f]; done) | simp [touches] at hb
  | irGapTimeout => have f := execIrGapTimeout_frame h; cases b <;> first | (simp only [Block.same, f]; done) | simp [touches] at hb
  | pairingWindowExpiry => have f := execPairingWindowExpiry_frame h; cases b <;> first | (simp only [Block.same, f]; done) | simp [touches] at hb
  | quietTimeStep => have f := execQuietTimeStep_frame h; cases b <;> first | (simp only [Block.same, f]; done) | simp [touches] at hb
  | busDestinationDecided _ _ => have f := execBusDestinationDecided_frame h; cases b <;> first | (simp only [Block.same, f]; done) | simp [touches] at hb
  | busFrameEnd _ _ => have f := execBusFrameEnd_frame h; cases b <;> first | (simp only [Block.same, f]; done) | simp [touches] at hb
  | busGapTimeout _ => have f := execBusGapTimeout_frame h; cases b <;> first | (simp only [Block.same, f]; done) | simp [touches] at hb
  | busTailQuiet _ => have f := execBusTailQuiet_frame h; cases b <;> first | (simp only [Block.same, f]; done) | simp [touches] at hb
  | busCollision _ => have f := execBusCollision_frame h; cases b <;> first | (simp only [Block.same, f]; done) | simp [touches] at hb
  | statusAnswerStart => have f := execStatusAnswerStart_frame h; cases b <;> first | (simp only [Block.same, f]; done) | simp [touches] at hb
  | statusAnswerDone => have f := execStatusAnswerDone_frame h; cases b <;> first | (simp only [Block.same, f]; done) | simp [touches] at hb
  | statusAnswerTimeout => have f := execStatusAnswerTimeout_frame h; cases b <;> first | (simp only [Block.same, f]; done) | simp [touches] at hb
  | originationStart => have f := execOriginationStart_frame h; cases b <;> first | (simp only [Block.same, f]; done) | simp [touches] at hb
  | originationDone => have f := execOriginationDone_frame h; cases b <;> first | (simp only [Block.same, f]; done) | simp [touches] at hb
  | originationWaitTimeout => have f := execOriginationWaitTimeout_frame h; cases b <;> first | (simp only [Block.same, f]; done) | simp [touches] at hb
  | backoffEnd => have f := execBackoffEnd_frame h; cases b <;> first | (simp only [Block.same, f]; done) | simp [touches] at hb
  | cueDataFallingEdge => have f := execCueDataFallingEdge_frame h; cases b <;> first | (simp only [Block.same, f]; done) | simp [touches] at hb
  | startBitRecheck _ => have f := execStartBitRecheck_frame h; cases b <;> first | (simp only [Block.same, f]; done) | simp [touches] at hb
  | cueBitSample _ => have f := execCueBitSample_frame h; cases b <;> first | (simp only [Block.same, f]; done) | simp [touches] at hb
  | toneBurstStart => have f := execToneBurstStart_frame h; cases b <;> first | (simp only [Block.same, f]; done) | simp [touches] at hb
  | shortToneBurstEnd => have f := execShortToneBurstEnd_frame h; cases b <;> first | (simp only [Block.same, f]; done) | simp [touches] at hb
  | irCarrierPresent => have f := execIrCarrierPresent_frame h; cases b <;> first | (simp only [Block.same, f]; done) | simp [touches] at hb
  | irLeaderEnd _ => have f := execIrLeaderEnd_frame h; cases b <;> first | (simp only [Block.same, f]; done) | simp [touches] at hb
  | irLeaderTooLong => have f := execIrLeaderTooLong_frame h; cases b <;> first | (simp only [Block.same, f]; done) | simp [touches] at hb
  | irByteComplete _ => have f := execIrByteComplete_frame h; cases b <;> first | (simp only [Block.same, f]; done) | simp [touches] at hb
  | busByteReceived _ _ => have f := execBusByteReceived_frame h; cases b <;> first | (simp only [Block.same, f]; done) | simp [touches] at hb
  | busForwardEnd _ => have f := execBusForwardEnd_frame h; cases b <;> first | (simp only [Block.same, f]; done) | simp [touches] at hb

end Sys2Proof.Machine
end

