-- ==== Sys2Proof/Tests/Slice0.lean ====
section
/-! SUPPORT. Tests: an ill-formed term for each check of WellFormed, the manual's worked examples, and for each
obligation with hypotheses a witness: concrete states and operands that meet the hypotheses of its clauses, at the
boundaries of their ranges, with a value or two of the state that follows. -/

namespace Sys2Proof.Machine.Tests

/-! ### Helpers -/

/-- The state a command gives. -/
def after (c : Instr) (s : State) : State :=
  match exec c s with
  | .next t => t
  | .fault _ => s
  | .refused _ => s

/-- The status code of the response in the buffer. -/
def answered (c : Instr) (s : State) : Nat := ((after c s).link.respBuf.getD 2 255).toNat

/-- A 50-slot tray in SHOWING with slot 3 in the gate and the lifter DOWN. -/
def show3 : State :=
  { State.reset with
    changer := { Changer.reset with tray := some .n50, homed := true, current := some 3, state := .showing }
    drive := { Drive.reset with swDown := true, gate := true, position := 48 } }

/-- That state with the Changer changed. -/
def showing (f : Changer → Changer) : State := show3.onChanger f

/-- A change in flight to slot 5. -/
def change5 : Change := { source := .host, kind := .goto 5, loopback := false, target := some 5, dir := .forward }

/-- A phase of that change, with its drive. -/
def phase (st : ChangerState) (f : Drive → Drive) : State :=
  (showing fun c => { c with state := st, change := some change5 }).onDrive f

/-- A lamp in a state. -/
def lampIn (st : LampState) (f : Lamp → Lamp) : State :=
  State.reset.onLamp fun l => f { l with state := st, checkDone := true }

/-- A transport state with its Cue Unit. -/
def tapeIn (tr : Transport) (f : Tape → Tape) (g : CueUnit → CueUnit) : State :=
  (State.reset.onTape fun t => f { t with transport := tr }).onCue g

/-- A place of the notice set after a command. -/
def noticed (c : Instr) (s : State) (i : Fin 30) : Option Notice := (after c s).link.notices[i].arg

/-- Slot values with a light level. -/
def values (light : Nat) : SlotValues :=
  { dwell := 0, fadeOut := 0, fadeIn := 0, light := light, cls := 0, sound := 255, tapeMark := 0, hold := 0, loop := 0,
    loopCount := 0 }

/-- The field set of no field. -/
def noFields : FieldSet :=
  { dwell := false, fadeOut := false, fadeIn := false, light := false, cls := false, sound := false, tapeMark := false,
    hold := false, loop := false }

/-- The field set of the light level. -/
def lightField : FieldSet := { noFields with light := true }

/-- Profile values in their ranges. -/
def profileValues : ProfileValues :=
  { c := Vector.replicate 8 0, cP := 0, cF := 0, q := 12, tset := 0, k := 0, floor := 0, slew := 10, w := 0, h := 1, x := 2,
    warmCap := 0, hotCap := 0, coolTime := 30, coolLimit := -1, guardLevel := 0 }

/-- A cue entry to write: code 0A7h, EXACT, NOTIFY 7, ARMED. -/
def image : CueImage :=
  { entry := 1, want := 1, code := 0x0A7, selector := 0, action := 11, a0 := 7, a1 := 0, a2 := 0, a3 := 0, single := 1,
    tapePresent := 0, tapeFrom := 0, tapeTo := 0, slotPresent := 0, slotLo := 0, slotHi := 0 }

/-- The entry it writes. -/
def notify7 : CueEntry :=
  { state := .armed, code := 0x0A7, selector := .exact, action := some (.notify 7), single := true, tapeWindow := none,
    slotWindow := none, hits := 0 }

/-! ### WellFormed: one ill-formed term for each check -/

theorem test_wellFormed_slots :
    ∀ v ∈ [{ values 0 with dwell := 65536 }, { values 0 with fadeOut := 65536 }, { values 0 with fadeIn := 65536 },
      { values 0 with light := 65536 }, { values 0 with cls := 256 }, { values 0 with sound := 256 },
      { values 0 with tapeMark := 256 }, { values 0 with hold := 256 }, { values 0 with loop := 256 },
      { values 0 with loopCount := 256 }],
      (Instr.writeSlot 1 noFields v).wellFormed = false ∧ (Instr.loadSlots 1 1 noFields v).wellFormed = false := by
  decide

theorem test_wellFormed_numbers :
    ∀ c ∈ [Instr.writeSlot 256 noFields (values 0), .loadSlots 256 1 noFields (values 0),
      .loadSlots 1 256 noFields (values 0), .retireSlot 256 1, .retireSlot 1 256, .readSlot 256,
      .setOptions (some 256) none none, .setOptions none (some 256) none, .setOptions none none (some 256),
      .step 128, .step (-129), .goto 256, .focus 256 1, .focus 0 256, .setLight (some 65535), .writeExposure 256 0,
      .writeExposure 0 4294967296, .writeCalibration 32768 0 0, .writeCalibration (-32769) 0 0,
      .writeCalibration 0 65536 0, .writeCalibration 0 0 32768, .readProfile 256, .selectProfile 256],
      c.wellFormed = false := by
  decide

theorem test_wellFormed_profiles :
    (∀ v ∈ [{ profileValues with c := Vector.replicate 8 32768 }, { profileValues with cP := 32768 },
      { profileValues with cF := -32769 }, { profileValues with q := 256 }, { profileValues with tset := 32768 },
      { profileValues with k := 256 }, { profileValues with floor := 65536 }, { profileValues with slew := 65536 },
      { profileValues with w := 32768 }, { profileValues with h := 32768 }, { profileValues with x := 32768 },
      { profileValues with warmCap := 65536 }, { profileValues with hotCap := 65536 },
      { profileValues with coolTime := 65536 }, { profileValues with coolLimit := 32768 },
      { profileValues with guardLevel := 65536 }], (Instr.writeProfile 0 v).wellFormed = false) ∧
    (Instr.writeProfile 256 profileValues).wellFormed = false := by
  decide

theorem test_wellFormed_sound_and_cues :
    (∀ c ∈ [Instr.tapeWind 256, .setTapePosition 65536, .setGain 256, .setDuckDepth 256 0, .setDuckDepth 0 256,
      .setMute 256, .setCueOptions (some 256) none, .setCueOptions none (some 256), .setMasks (some 65536) none none,
      .setMasks none (some 65536) none, .setMasks none none (some 65536), .armCue 256, .pauseCue 256, .retireCue 256,
      .readCue 256], c.wellFormed = false) ∧
    (∀ v ∈ [{ image with entry := 256 }, { image with want := 256 }, { image with code := 65536 },
      { image with selector := 256 }, { image with action := 256 }, { image with a0 := 256 }, { image with a1 := 256 },
      { image with a2 := 256 }, { image with a3 := 256 }, { image with single := 256 },
      { image with tapePresent := 256 }, { image with tapeFrom := 65536 }, { image with tapeTo := 65536 },
      { image with slotPresent := 256 }, { image with slotLo := 256 }, { image with slotHi := 256 }],
      (Instr.writeCue v).wellFormed = false) := by
  decide

theorem test_wellFormed_remote_and_link :
    ∀ c ∈ [Instr.openPairing 256, .readHandset 256, .setRights 256 0, .setRights 1 256, .blockHandset 256,
      .unblockHandset 256, .retireHandset 256, .setAddress 256 [], .setAddress 1 [25, 24], .setAddress 1 [23],
      .sendFrame 256 1 [] 0, .sendFrame 1 256 [] 0, .sendFrame 1 1 [256] 0, .sendFrame 1 1 [] 256,
      .sendFrame 1 1 (List.replicate 57 0) 0, .setNoticeMask [1], .setNoticeMask (List.replicate 30 256),
      .readNotice 256, .pollPeriod 1 3, .pollPeriod 2 3, .pollPeriod 256 3, .requestFrame [2, 3], .requestFrame [],
      .tachPulse 0, .irLeaderEnd 10001], c.wellFormed = false := by
  decide

/-- The opcode table gives no row bits: no word spells a command, and placing one changes nothing. -/
theorem test_no_word_spells_a_command :
    decodeTableWord 8 1 = none ∧ decodeTableWord 32 0xFFFFFFFF = none ∧ show3.withFetchWord 8 1 = show3 :=
  ⟨rfl, rfl, rfl⟩

/-! ### The manual's worked examples -/

/-- R152's example: the checks of 8, 5, 18, 52, 7, 1, 0 are 91 and 152. -/
theorem test_checks_of_the_example : withSums [8, 5, 18, 52, 7, 1, 0] = [8, 5, 18, 52, 7, 1, 0, 91, 152] := by decide

/-- R78's examples: a fade-in over 7 ticks, and a fade-out from 700 over 3. -/
theorem test_ramps_of_the_example :
    [1, 2, 3, 4, 5, 6, 7].map ({ a := 0, b := 1000, n := 7, k := 0 } : Ramp).value =
      [142, 285, 428, 571, 714, 857, 1000] ∧
    [1, 2, 3].map ({ a := 700, b := 0, n := 3, k := 0 } : Ramp).value = [467, 234, 0] := by
  decide

/-- R129's example: 1, 1, 1, 0, 0, 1, 0, 1, 0, 0, 0, 0 with parity 1 is the good word 0A7h; a flipped fourth bit fails. -/
theorem test_word_of_the_example :
    checkWord [true, true, true, false, false, true, false, true, false, false, false, false, true] true =
      .good 0x0A7 ∧
    checkWord [true, true, true, true, false, true, false, true, false, false, false, false, true] true =
      .bad .parity := by
  decide

/-- The mask examples of R141: 3A5h matches 3A0h under FF0h and 0A5h under 0FFh, and 7A5h neither 3A0h nor 3A5h. -/
theorem test_masks_of_the_example :
    codesMatch 0xFF0 0x3A5 0x3A0 = true ∧ codesMatch 0x0FF 0x3A5 0x0A5 = true ∧
    codesMatch 0xFF0 0x7A5 0x3A0 = false ∧ codesMatch 0xFFF 0x7A5 0x3A5 = false := by
  decide

/-- The request frame of READ SLOT 12: L, the code, the slot and the checks; it is taken and then answered. -/
theorem test_request_frame_of_read_slot :
    encodeRequest (.readSlot 12) = [4, 4, 12, 20, 32] ∧
    (after (.requestFrame (1 :: encodeRequest (.readSlot 12))) State.reset).link.status = .busy ∧
    (after (.readSlot 12) (after (.requestFrame (1 :: encodeRequest (.readSlot 12))) State.reset)).link.respBuf.take 4 =
      [21, 4, 0, 12] := by
  decide

/-- The worked case of one period at steady temperature: T = 960, D = 730, and the duty slews from 400 to 500. -/
theorem test_period_of_the_worked_case :
    let s := (State.reset.onThermal fun t => { t with
      cal := { t.cal with offset := 102 }, line := some (Vector.replicate 8 840), duty := 400, sample := some 2150
      handover := some { p := 800, coolDone := true } }).onLamp fun l => { l with state := .run, checkDone := true }
    let t := after .periodComputation s
    t.thermal.est = 960 ∧ t.thermal.band = .normal ∧ t.thermal.snapshot.demand = 730 ∧ t.thermal.duty = 500 := by
  decide

/-- The example of merging at the queue: STEP −4 of the host meets STEP +6, and +2 of the host is left. -/
theorem test_merging_of_the_example :
    queueStep [] (.handset 4100) 1 = some [stepEntry (.handset 4100) 1] ∧
    queueStep [stepEntry (.handset 4100) 5] (.cue 6) 6 = some [stepEntry (.handset 4100) 9] ∧
    queueStep [stepEntry (.handset 4100) 9] (.console 3) (-1) = some [stepEntry (.handset 4100) 8] ∧
    queueStep [stepEntry .host (-3)] (.handset 4100) (-1) = some [stepEntry .host (-4)] ∧
    queueStep [stepEntry .host (-4)] .host 6 = some [stepEntry .host 2] := by
  decide

/-- The example of an arrival and a duck: 20 + 30 × k / 7 and 24 × k / 20, truncated. -/
theorem test_sound_of_the_example :
    [1, 2, 3, 4, 7].map ({ a := 20, b := 50, n := 7, k := 0 } : Ramp).value = [24, 28, 32, 37, 50] ∧
    [1, 2, 3, 4, 5, 17, 20].map ({ a := 0, b := 24, n := 20, k := 0 } : Ramp).value = [1, 2, 3, 4, 6, 20, 24] := by
  decide

/-! ### Witnesses: the link, the Tray Map and the Changer -/

theorem test_witness_AnIdleStepIsAMillisecond : State.reset.pending = [] := rfl

/-- Every request is accepted at reset, and none in RESPONSE. -/
theorem test_witness_RequestsAreAnsweredOrIgnored :
    requestCode .lampOn ≠ 0 ∧ State.reset.link.accepts .lampOn = true ∧
    (State.reset.onLink fun l => { l with status := .response }).link.accepts .lampOn = false ∧
    (State.reset.onLink fun l => { l with resetPin := true }).link.accepts .lampOn = false ∧
    (State.reset.onLink fun l => { l with status := .busy, reqBuf := encodeRequest .lampOn }).link.accepts .lampOn =
      true ∧
    (State.reset.onLink fun l => { l with status := .busy, reqBuf := encodeRequest .lampOff }).link.accepts .lampOn =
      false := by
  decide

theorem test_witness_RequestFramesRoundTrip :
    requestCode (.step (-128)) ≠ 0 ∧ (Instr.step (-128)).wellFormed = true ∧ State.reset.link.resetPin = false ∧
    State.reset.link.status = .ready ∧ decodeRequest (encodeRequest (.step (-128))) = some (.step (-128)) := by
  decide

theorem test_witness_ReadsChangeNothing :
    (∀ c ∈ [Instr.readSlot 140, .readShow, .readDrive, .readLamp, .readCalibration, .readProfile 7, .readThermal, .readTape,
      .readCue 32, .readCueUnit, .readHandset 8, .readPort, .readNotice 30], State.reset.link.accepts c = true) ∧
    [Instr.readSlot 1, .readProfile 7, .readCue 32, .readHandset 8, .readNotice 30].map (answered · State.reset) =
      [0, 0, 0, 0, 0] ∧
    [Instr.readSlot 0, .readSlot 141, .readProfile 8, .readCue 0, .readCue 33, .readHandset 0, .readHandset 9, .readNotice 0,
      .readNotice 31].map (answered · State.reset) = [2, 2, 2, 2, 2, 2, 2, 2, 2] := by
  decide

theorem test_witness_SlotWritesAreCheckedInOrder :
    State.reset.link.accepts (.writeSlot 0 noFields (values 0)) = true ∧ fieldSetAny noFields = false ∧
    fieldSetAny lightField = true ∧ slotValuesInRange lightField (values 1001) = false ∧
    answered (.writeSlot 0 noFields (values 0)) State.reset = 1 ∧
    answered (.writeSlot 0 lightField (values 1001)) State.reset = 2 ∧
    answered (.writeSlot 1 lightField (values 1001)) State.reset = 3 ∧
    answered (.loadSlots 1 141 lightField (values 0)) State.reset = 2 ∧
    answered (.loadSlots 1 140 lightField (values 1001)) State.reset = 3 ∧
    [Instr.retireSlot 0 1, .retireSlot 1 141, .retireSlot 140 1].map (answered · State.reset) = [2, 2, 0] := by
  decide

/-- A tape mark beyond PAUSE, a loop mark beyond LOOP-END and a LOOP-START of no rounds are out of range. -/
theorem test_marks_out_of_range :
    (let marked (n : Nat) := Instr.writeSlot 1 { noFields with tapeMark := true } { values 0 with tapeMark := n }
     [marked 2, marked 3].map (answered · State.reset) = [0, 3]) ∧
    (let looped (n count : Nat) :=
       Instr.writeSlot 1 { noFields with loop := true } { values 0 with loop := n, loopCount := count }
     [looped 1 0, looped 1 255, looped 2 0, looped 3 0].map (answered · State.reset) = [3, 0, 0, 3]) := by
  decide

/-- A range that goes round: slots 139, 140 and 1 are written, 2 is not. -/
theorem test_witness_SlotWritesAndRangesAreOneEvent :
    State.reset.link.accepts (.writeSlot 140 lightField (values 1000)) = true ∧
    State.reset.link.accepts (.retireSlot 140 140) = true ∧ fieldSetAny lightField = true ∧
    slotValuesInRange lightField (values 1000) = true ∧
    (let t := after (.loadSlots 139 1 lightField (values 7)) State.reset
     [t.changer.slot 139, t.changer.slot 140, t.changer.slot 1, t.changer.slot 2].map SlotRecord.light = [7, 7, 7, 1000]) ∧
    (after (.writeSlot 140 lightField (values 1000)) State.reset).changer.slot 140 =
      { SlotRecord.default with programmed := true } := by
  decide

theorem test_witness_OptionsAndMasksAreSet :
    (∀ c ∈ [Instr.setOptions (some 0) none none, .setCueOptions (some 0) none, .setMasks (some 4095) none none,
      .setNoticeMask (List.replicate 30 0)], State.reset.link.accepts c = true) ∧
    (after (.setOptions (some 0) none none) State.reset).changer.skipEmpty = false ∧
    (after (.setMasks (some 0xFF0) none none) State.reset).cue.maskGlobal = 0xFF0 ∧
    [Instr.setOptions none none none, .setCueOptions none none, .setMasks none none none].map (answered · State.reset) =
      [1, 1, 1] ∧
    [Instr.setOptions none (some 2) none, .setCueOptions none (some 2), .setMasks none (some 4096) none,
      .setNoticeMask (2 :: List.replicate 29 0)].map (answered · State.reset) = [3, 3, 3, 3] := by
  decide

theorem test_witness_TraysComeAndGo :
    State.reset.changer.tray = none ∧ show3.changer.tray ≠ none ∧ (phase .rotating id).changer.change = some change5 ∧
    (phase .rotating fun d => { d with bridge := .forward }).drive.bridge ≠ .off ∧
    noticed .trayRemoval (phase .rotating id) 0 = some (.changeDone .host .aborted) ∧
    noticed (.trayInsertion 3) State.reset 4 = some (.trayIn 140) := by
  decide

theorem test_witness_GateChangesInShowing :
    show3.drive.gate = true ∧ show3.changer.state = .showing ∧ show3.changer.current = some 3 ∧
    State.reset.drive.gate ≠ true ∧ State.reset.changer.current = none ∧
    (after (.gateStateChange false) show3).changer.slot 3 = { SlotRecord.default with occupancy := .empty } := by
  decide

/-- A queue of one entry in a phase of a change. -/
def waiting (k : EntryKind) : State :=
  showing fun c => { c with
    state := .lifting, change := some change5, queue := [{ source := .auto, kind := k, loopback := false }] }

theorem test_witness_TheQueueTakesRequests :
    (waiting (.step 3)).link.accepts (.step (-9)) = true ∧ (waiting (.step 3)).changer.homed = true ∧
    (waiting (.step 3)).changer.tray ≠ none ∧
    (after (.step 9) (waiting (.step 3))).changer.queue.map Entry.kind = [.step 9] ∧
    (after (.step 1) (waiting (.step 9))).changer.queue.map Entry.kind = [.step 9, .step 1] ∧
    (after (.step (-3)) (waiting (.step 3))).changer.queue = [] ∧
    (after (.step (-9)) (waiting (.step 3))).changer.queue = [{ source := .host, kind := .step (-6), loopback := false }] ∧
    (after (.step 1) (waiting (.goto 7))).changer.queue.map Entry.kind = [.goto 7, .step 1] := by
  decide

/-- A full queue, whose tail a GOTO displaces, while a STEP is refused. -/
theorem test_witness_full_queue :
    let full := (waiting (.goto 7)).onChanger fun c => { c with queue := List.replicate 4 (c.queue.headD
      { source := .host, kind := .goto 1, loopback := false }) }
    full.changer.queue.length = 4 ∧ full.link.accepts (.goto 50) = true ∧ full.changer.size = 50 ∧
    (after (.goto 50) full).changer.queue.map Entry.kind = [.goto 7, .goto 7, .goto 7, .goto 50] ∧
    noticed (.goto 50) full 0 = some (.changeDone .auto .displaced) ∧ answered (.step 1) full = 7 := by
  decide

theorem test_witness_ChangeRequestsAreChecked :
    answered (.step 10) show3 = 3 ∧ answered (.step 9) State.reset = 9 ∧ answered (.goto 0) show3 = 2 ∧
    answered (.goto 140) State.reset = 9 ∧ answered (.goto 51) show3 = 2 ∧
    (let unhomed := showing fun c => { c with state := .unhomed, homed := false, current := none }
     unhomed.link.accepts (.step 1) = true ∧ unhomed.link.accepts .home = true ∧ answered (.step 1) unhomed = 9 ∧
     (after (.step 1) unhomed).changer.state = .homing ∧ answered (.goto 50) unhomed = 9 ∧
     (after (.goto 50) unhomed).changer.state = .homing ∧ answered (.goto 51) unhomed = 2) ∧
    (let jammed := showing fun c => { c with state := .jammed, homed := false, current := none }
     answered (.goto 50) jammed = 9 ∧ (after (.goto 50) jammed).changer.state = .jammed) := by
  decide

/-- SHOWING with light on the screen; the current slot fades out over 50 ticks. -/
def lit3 : State := show3.onLamp fun l => { l with state := .run, fade := 1000, delivered := 700 }

theorem test_witness_ChangesAreTakenInShowing :
    lit3.changer.state = .showing ∧ lit3.changer.homed = true ∧ lit3.changer.tray ≠ none ∧ lit3.changer.queue = [] ∧
    lit3.lamp.delivered ≠ 0 ∧ lit3.changer.currentSlot.map SlotRecord.fadeOut = some 50 ∧
    lit3.link.accepts (.goto 50) = true ∧
    lit3.changer.aim { source := .host, kind := .step (-9), loopback := false } = some (44, .backward) ∧
    (after (.goto 50) lit3).changer.state = .fadingOut ∧
    (after (.goto 50) lit3).lamp.ramp = some { a := 700, b := 0, n := 50, k := 0 } ∧
    show3.lamp.delivered = 0 ∧ show3.drive.lifter ≠ .up ∧ (after (.goto 50) show3).changer.state = .lifting ∧
    (let cut := lit3.onChanger fun c => c.setSlot 3 { SlotRecord.default with fadeOut := 0 }
     cut.changer.currentSlot.map SlotRecord.fadeOut = some 0 ∧ (after (.step 1) cut).changer.state = .lifting ∧
     (after (.step 1) cut).lamp.darkHold = true ∧ (after (.step 1) cut).lamp.fade = 0) := by
  decide

theorem test_witness_TargetsLieOnTheTray :
    show3.changer.tray ≠ none ∧
    show3.changer.aim { source := .host, kind := .goto 50, loopback := false } = some (50, .backward) ∧
    show3.changer.aim { source := .host, kind := .goto 28, loopback := false } = some (28, .forward) ∧
    (showing fun c => { c with skipEmpty := false }).changer.aim
      { source := .host, kind := .step 9, loopback := false } = some (12, .forward) := by
  decide

/-- The walk from slot 3: +9 finds 12 EMPTY and stops at 13, -3 finds 50 EMPTY and stops at 49; with every slot EMPTY it
comes back to 12. A STEP of AUTO past a BLANK slot 50 ends the show with wrap off, and goes round to 1 with wrap on. -/
theorem test_walks_round_the_tray :
    (let holes := showing fun c => (c.setOccupancy 12 .empty).setOccupancy 50 .empty
     holes.changer.tray ≠ none ∧
     holes.changer.aim { source := .host, kind := .step 9, loopback := false } = some (13, .forward) ∧
     holes.changer.aim { source := .host, kind := .step (-3), loopback := false } = some (49, .backward)) ∧
    (showing fun c => { c with slots := Vector.replicate 140 { SlotRecord.default with occupancy := .empty } }).changer.aim
      { source := .host, kind := .step 9, loopback := false } = some (12, .forward) ∧
    (let last (wrap : Bool) := showing fun c =>
       ({ c with skipBlank := true, wrap := wrap, current := some 49 }).setSlot 1
         { SlotRecord.default with programmed := true }
     let auto : Entry := { source := .auto, kind := .step 1, loopback := false }
     (last false).changer.aim auto = none ∧ (last true).changer.aim auto = some (1, .forward)) := by
  decide

theorem test_witness_HomeStartsHoming :
    show3.link.accepts .home = true ∧ show3.drive.lifter ≠ .up ∧
    (after .home show3).drive.motion = .homeLift ∧
    (let up := show3.onDrive fun d => { d with swUp := true, swDown := false }
     up.drive.lifter = .up ∧ up.drive.bridge = .off ∧ (after .home up).drive.motion = .homeSeek) ∧
    (let jammed := showing fun c => { c with state := .jammed, homed := false, current := none }
     (after .home jammed).changer.state = .homing) ∧
    answered .home State.reset = 9 ∧ answered .home (phase .fadingIn id) = 8 ∧
    answered .home (showing fun c => { c with state := .homing }) = 0 := by
  decide

theorem test_witness_HoldResumeFlush :
    (∀ c ∈ [Instr.hold, .resume, .flush], show3.link.accepts c = true) ∧ (after .hold show3).changer.held = true ∧
    (after .flush (waiting (.goto 7))).changer.queue = [] := by
  decide

theorem test_witness_FadesEndTheirPhase :
    (phase .fadingOut id).lamp.ramp = none ∧ (phase .fadingOut id).drive.lifter ≠ .up ∧
    (after .fadeOutEnd (phase .fadingOut id)).drive.lifterTimer = some 600 ∧
    (phase .fadingIn id).changer.change = some change5 ∧ (phase .fadingIn id).changer.queue = [] ∧
    (after .fadeInEnd (phase .fadingIn id)).changer.state = .showing ∧
    (let held := [{ start := 1, remaining := 2 }]
     let next (k : EntryKind) (loopback : Bool) := (phase .fadingIn id).onChanger fun c =>
       { c with loops := held, queue := [{ source := .cue 4, kind := k, loopback := loopback }] }
     (next (.goto 7) false).changer.aim { source := .cue 4, kind := .goto 7, loopback := false } = some (7, .forward) ∧
     (after .fadeInEnd (next (.goto 7) false)).changer.change.bind Change.target = some 7 ∧
     (after .fadeInEnd (next (.goto 7) false)).changer.loops = [] ∧
     (after .fadeInEnd (next (.goto 7) true)).changer.loops = held ∧
     (after .fadeInEnd (next (.step 1) false)).changer.loops = held) := by
  decide

/-- The lift of a change, from a position. -/
def lifting (position : Nat) : State :=
  phase .lifting fun d => { d with lifterDrive := .upward, lifterTimer := some 600, position := position }

/-- The window of slot 5 at 96 reaches from 94 to 98: 93 and 99 lie outside it. -/
theorem test_witness_TheLiftEndsInTheTurn :
    (lifting 48).drive.lifterDrive = .upward ∧ (lifting 48).drive.bridge = .off ∧ (lifting 48).drive.motion = .none ∧
    [93, 94, 96, 98, 99].map (inWindow 50 · 96) = [false, true, true, true, false] ∧
    (after .liftDone (lifting 93)).drive.bridge = .forward ∧ (after .liftDone (lifting 93)).changer.state = .rotating ∧
    (after .liftDone (lifting 94)).changer.state = .dropping ∧ (after .liftDone (lifting 98)).changer.current = some 5 ∧
    (let home := (lifting 0).onDrive fun d => { d with motion := .homeLift }
     (after .liftDone home).drive.motion = .homeSeek) := by
  decide

theorem test_witness_TheDropEndsInTheSettle :
    (let s := phase .dropping fun d => { d with lifterDrive := .downward }
     s.drive.lifterDrive = .downward ∧ s.changer.state = .dropping ∧ (after .dropDone s).drive.settleTimer = some 80) ∧
    show3.drive.lifter = .down ∧ show3.drive.lifterDrive = .off ∧
    (after (.lifterSwitchChange false false) show3).drive.lifter = .moving := by
  decide

/-- SETTLING in slot 5 with the settle timer out, over a gate that is OCCUPIED or EMPTY. -/
def settling (gate : Bool) : State := phase .settling fun d => { d with settleTimer := some 0, gate := gate }

theorem test_witness_ASlideFoundArrives :
    (settling true).drive.settleTimer.isSome = true ∧ (settling true).changer.slot 5 = SlotRecord.default ∧
    SlotRecord.default.fadeIn = 50 ∧ (after .settleEnd (settling true)).changer.state = .fadingIn ∧
    (after .settleEnd (settling true)).lamp.ramp = some { a := 0, b := 1000, n := 50, k := 0 } := by
  decide

/-- A slide with marks found in slot 5, under a transport and a Loop Stack, by a STEP. -/
def marked (r : SlotRecord) (tr : Transport) (loops : List LoopFrame) : State :=
  ((settling true).onChanger fun c =>
    { c.setSlot 5 r with loops := loops, change := some { change5 with kind := .step 2 } }).onTape fun t =>
      { t with transport := tr, endTimer := none }

/-- The marks of an arrival: play, pause, a sound target, a loop's start, and a fade-in of 0 ending in the same event. -/
theorem test_witness_marks_of_an_arrival :
    (let play := { SlotRecord.default with tapeMark := .play }
     (after .settleEnd (marked play .stopped [])).tape.transport = .playing ∧
     (after .settleEnd (marked play .windingFwd [])).tape.transport = .windingFwd) ∧
    (after .settleEnd (marked { SlotRecord.default with tapeMark := .pause } .playing [])).tape.transport = .paused ∧
    (after .settleEnd (marked { SlotRecord.default with sound := some 9 } .noTape [])).tape.baseRamp =
      some { a := 0, b := 9, n := 50, k := 0 } ∧
    (let start := { SlotRecord.default with loop := .start 3 }
     (after .settleEnd (marked start .noTape [])).changer.loops = [{ start := 5, remaining := 3 }] ∧
     (after .settleEnd (marked start .noTape [{ start := 5, remaining := 1 }])).changer.loops =
       [{ start := 5, remaining := 1 }] ∧
     (let deep := marked start .noTape [{ start := 2, remaining := 1 }, { start := 1, remaining := 1 }]
      (after .settleEnd deep).changer.loops.length = 2 ∧ noticed .settleEnd deep 8 = some (.loopDepth 5))) ∧
    (let cut := marked { SlotRecord.default with fadeIn := 0 } .noTape []
     cut.changer.queue = [] ∧ (after .settleEnd cut).changer.state = .showing ∧
     (after .settleEnd cut).lamp.fade = 1000) := by
  decide

theorem test_witness_AnEmptyGateChainsOrShowsDark :
    (settling false).drive.gate = false ∧ (settling false).drive.lifter ≠ .up ∧
    (settling false).changer.queue = [] ∧ (after .settleEnd (settling false)).changer.state = .showing ∧
    (let stepping (run : Nat) := (settling false).onChanger fun c =>
       { c with run := run, change := some { change5 with kind := .step 2 } }
     (stepping 2).changer.skipEmpty = true ∧ (after .settleEnd (stepping 2)).changer.state = .lifting ∧
     (after .settleEnd (stepping 2)).changer.change.bind Change.target = some 6 ∧
     (after .settleEnd (stepping 3)).changer.state = .showing) ∧
    (let last (n : Nat) := (settling false).onChanger fun c =>
       { c with wrap := false, change := some { change5 with source := .auto, kind := .step 1, target := some n } }
     (after .settleEnd (last 49)).changer.state = .lifting ∧ (after .settleEnd (last 50)).changer.state = .showing) ∧
    (let next := (settling false).onChanger fun c =>
       { c with queue := [{ source := .host, kind := .goto 7, loopback := false }] }
     (after .settleEnd next).changer.state = .lifting ∧ noticed .settleEnd next 0 = some (.changeDone .host .dark)) := by
  decide

/-- SHOWING slot n with a dwell of 100 tenths and so many counted. -/
def dwelling (n dwell : Nat) (f : Changer → Changer) : State :=
  lit3.onChanger fun c => f ({ c with current := some n, dwell := dwell }.setSlot n { SlotRecord.default with dwell := 100 })

theorem test_witness_TheDwellRunsAndExpires :
    (dwelling 3 98 id).changer.dwellRuns = true ∧ (after .dwellTenth (dwelling 3 98 id)).changer.dwellDue = false ∧
    (after .dwellTenth (dwelling 3 99 id)).changer.dwellDue = true ∧
    (after .dwellTenth (dwelling 3 9999 id)).changer.dwell = 9999 ∧
    (let due := dwelling 50 100 fun c => { c with dwellDue := true, wrap := false }
     due.changer.dwellRuns = true ∧ (after .dwellExpiry due).changer.held = true ∧
     noticed .dwellExpiry due 6 = some (.trayEnd 50)) ∧
    (let due := dwelling 3 100 fun c => { c with dwellDue := true }
     due.changer.aim { source := .auto, kind := .step 1, loopback := false } = some (4, .forward) ∧
     (after .dwellExpiry due).changer.state = .fadingOut) ∧
    (let due := dwelling 3 100 fun c =>
       { c with dwellDue := true, keptLoop := .close, loops := [{ start := 1, remaining := 1 }] }
     (after .dwellExpiry due).changer.loops = [{ start := 1, remaining := 0 }] ∧
     (after .dwellExpiry due).changer.change.bind Change.target = some 1) := by
  decide

/-- The dwell stands still with no dwell in the slot, held, or with an entry waiting; a LOOP-END pops a frame with no
rounds left; and with wrap off a walk that ends at slot N holds there. -/
theorem test_witness_dwell_that_waits :
    ([fun c : Changer => c.setSlot 3 SlotRecord.default, fun c => { c with held := true },
      fun c => { c with queue := [stepEntry .host 1] }, fun c => { c with state := .fadingIn },
      fun c => { c with current := none }].map fun f => (after .dwellTenth (dwelling 3 7 f)).changer.dwell) =
      [7, 7, 7, 7, 7] ∧
    (after .dwellExpiry (dwelling 3 100 id)).changer.state = .showing ∧
    (let due := dwelling 3 100 fun c =>
       { c with dwellDue := true, keptLoop := .close, loops := [{ start := 1, remaining := 0 }, { start := 2, remaining := 4 }] }
     (after .dwellExpiry due).changer.loops = [{ start := 2, remaining := 4 }] ∧
     (after .dwellExpiry due).changer.change.bind Change.target = some 4) ∧
    (let due := dwelling 3 100 fun c => { c with dwellDue := true, keptLoop := .close }
     due.changer.loops = [] ∧ (after .dwellExpiry due).changer.change.bind Change.target = some 4) ∧
    (let due := dwelling 49 100 fun c => { c.setOccupancy 50 .empty with dwellDue := true, wrap := false, run := 2 }
     due.changer.aim { source := .auto, kind := .step 1, loopback := false } = none ∧
     (after .dwellExpiry due).changer.held = true ∧ (after .dwellExpiry due).changer.run = 0 ∧
     noticed .dwellExpiry due 6 = some (.trayEnd 50)) := by
  decide

/-! ### Witnesses: the Tray Drive -/

/-- A turn to slot 5 with the bridge driving forward and the lifter UP. -/
def turning (position : Nat) (f : Drive → Drive) : State :=
  phase .rotating fun d => f { d with
    swUp := true, swDown := false, bridge := .forward, lastDrive := some .forward, motion := .turn .forward 96
    watchdog := some 1, position := position }

/-- A count from 92 to 93 drives on, one from 93 to 94 brakes, and one from 1199 comes round to 0. -/
theorem test_witness_EncoderCountsMoveTheCounter :
    State.reset.changer.tray = none ∧ (turning 93 id).drive.bridge.drives = true ∧
    (after .encoderCount (turning 92 id)).drive.watchdog = some 150 ∧
    (after .encoderCount (turning 93 id)).drive.bridge = .brake ∧
    (after .encoderCount (turning 1199 id)).drive.position = 0 ∧
    (let back := turning 0 fun d => { d with bridge := .backward, backingOff := true, backTally := 12 }
     (after .encoderCount back).drive.position = 1199 ∧ (after .encoderCount back).drive.backTally = 12) ∧
    (let off := (turning 0 fun d => { d with bridge := .off, lastDrive := some .backward })
     (after .encoderCount off).drive.position = 1199) ∧
    [0, 1247, 1248].map (fun n => (after .encoderCount (turning 60 fun d =>
      { d with motion := .homeSeek, budget := n })).drive.budget) = [1, 1248, 1248] := by
  decide

/-- A brake in that turn, and what it was for. -/
def braking (position : Nat) (why : AfterBrake) (f : Drive → Drive) : State :=
  turning position fun d => f { d with bridge := .brake, watchdog := none, brakeTimer := some 0, afterBrake := why }

theorem test_witness_BrakesAndBackOffsEnd :
    (braking 98 .window id).drive.lifter = .up ∧ (braking 98 .window id).changer.change = some change5 ∧
    (after .brakeEnd (braking 98 .window id)).changer.state = .dropping ∧
    (after .brakeEnd (braking 99 .window id)).drive.bridge = .backward ∧
    (after .brakeEnd (braking 93 .window fun d => { d with corrections := 2 })).drive.bridge = .forward ∧
    (after .brakeEnd (braking 60 .backOff id)).drive.backingOff = true ∧
    (after .brakeEnd (braking 60 .resume id)).drive.bridge = .forward ∧
    (after .brakeEnd (braking 60 (.drive .backward) id)).drive.bridge = .backward ∧
    (after .brakeEnd (braking 60 .off id)).drive.bridge = .off ∧
    (after .stallWatchdogExpiry (turning 60 id)).drive.afterBrake = .backOff ∧
    (after .brakeEnd (braking 99 .window fun d => { d with corrections := 3 })).drive.afterBrake = .backOff ∧
    (let back := turning 60 fun d => { d with bridge := .backward, backingOff := true, backTally := 12, stalls := 1 }
     (after .backOffComplete back).drive.afterBrake = .resume) := by
  decide

/-- A homing in the centre phase or the seek, with a brake on. -/
def centring (position : Nat) (why : AfterBrake) (m : Motion) (f : Drive → Drive) : State :=
  (braking position why fun d => f { d with motion := m }).onChanger fun c =>
    { c with state := .homing, current := some 1
             change := some { change5 with kind := .home, target := some 1 } }

theorem test_witness_brakes_of_a_homing :
    (after .brakeEnd (centring 2 .window .homeCentre id)).changer.state = .dropping ∧
    (after .brakeEnd (centring 1198 .window .homeCentre id)).changer.state = .dropping ∧
    (after .brakeEnd (centring 3 .window .homeCentre id)).drive.bridge = .backward ∧
    (after .brakeEnd (centring 3 .window .homeCentre id)).drive.corrections = 1 ∧
    (let miss := centring 3 .window .homeCentre fun d => { d with corrections := 3 }
     (after .brakeEnd miss).drive.afterBrake = .backOff ∧ (after .brakeEnd miss).drive.stalls = 1) ∧
    (after .brakeEnd (centring 60 .resume .homeSeek id)).drive.bridge = .forward := by
  decide

theorem test_witness_JamsStopTheChange :
    (let s := turning 60 fun d => { d with stalls := 1 }
     s.drive.bridge.drives = true ∧ s.drive.watchdog.isSome = true ∧
     noticed .stallWatchdogExpiry s 2 = some (.jam .stall (some 5)) ∧
     (after .stallWatchdogExpiry s).drive.bridge = .brake) ∧
    (let s := turning 60 fun d => { d with motion := .homeSeek, budget := 1248 }
     noticed .noIndexBudgetExhausted s 2 = some (.jam .noIndex (some 5))) ∧
    (let s := lifting 48
     s.drive.lifter = .down ∧ (after .lifterTimeout s).changer.state = .jammed) ∧
    (after (.lifterSwitchChange false true) (turning 60 id)).changer.state = .jammed ∧
    (let s := braking 98 .window fun d => { d with swUp := false }
     s.drive.lifter ≠ .up ∧ (after .brakeEnd s).changer.state = .jammed) ∧
    (let s := braking 99 .window fun d => { d with corrections := 3, stalls := 1 }
     s.drive.motion.target = some 96 ∧ (after .brakeEnd s).changer.state = .jammed ∧
     (after .brakeEnd s).drive.brakeTimer = some 40 ∧ noticed .brakeEnd s 2 = some (.jam .stall (some 5))) := by
  decide

/-- A slip of 3 is left, one of 4 is corrected. -/
theorem test_witness_IndexPassesCountAndCorrect :
    (after .indexPass (show3.onDrive fun d => { d with position := 3 })).drive.position = 3 ∧
    (after .indexPass (show3.onDrive fun d => { d with position := 1197 })).drive.position = 1197 ∧
    noticed .indexPass (show3.onDrive fun d => { d with position := 4 }) 3 = some (.slip 4) ∧
    noticed .indexPass (show3.onDrive fun d => { d with position := 1196 }) 3 = some (.slip (-4)) ∧
    (let seek := (turning 60 fun d => { d with motion := .homeSeek, budget := 1247 }).onChanger fun c =>
       { c with homed := false, current := none, state := .homing }
     seek.drive.budget < 24 * seek.changer.size + 48 ∧ (after .indexPass seek).changer.homed = true ∧
     (after .indexPass seek).drive.motion = .homeCentre ∧
     (let braked := seek.onDrive fun d => { d with bridge := .brake, brakeTimer := some 7, afterBrake := .backOff }
      (after .indexPass braked).drive.afterBrake = .window ∧ (after .indexPass braked).drive.brakeTimer = some 7)) ∧
    (let slipped (target : Nat) := turning 4 fun d => { d with motion := .turn .forward target }
     inWindow 50 0 1198 = true ∧ (after .indexPass (slipped 1198)).drive.afterBrake = .window ∧
     (after .indexPass (slipped 1197)).drive.bridge = .forward) ∧
    (after .indexPass State.reset).drive.revolutions = 0 := by
  decide

theorem test_witness_TheFocusMotorRuns :
    show3.link.accepts (.focus 1 100) = true ∧ show3.drive.trayMotion = false ∧
    (after (.focus 1 100) show3).drive.focusTimer = some 1000 ∧ answered (.focus 1 101) show3 = 3 ∧
    answered (.focus 2 1) show3 = 3 ∧ answered (.focus 0 1) (turning 60 id) = 8 ∧
    (let running (r : FocusRun) := show3.onDrive fun d => { d with focus := .running .outward r }
     (after (.focus 0 1) (running .key)).drive.focus = .pausing .inward (.host 10) ∧
     (after .focusStopTimerExpiry (running .key)).drive.focus = .stopped ∧
     (after .focusDurationEnd (running (.host 10))).drive.focus = .stopped ∧
     (after (.focusEndSwitch .outward true) (running .key)).drive.focus = .stopped) ∧
    (let pausing := show3.onDrive fun d => { d with focus := .pausing .inward .key }
     (after .focusPauseEnd pausing).drive.focusTimer = some 250) := by
  decide

/-! ### Witnesses: lamp and thermal -/

theorem test_witness_TheLampIsStruck :
    (lampIn .off id).link.accepts .lampOn = true ∧ (lampIn .off id).lamp.bandView ≠ .trip ∧
    (after .lampOn (lampIn .off id)).lamp.nextStrike = some 5000 ∧
    (after .lampOn (lampIn .off fun l => { l with flowing := true })).lamp.state = .warming ∧
    answered .lampOn State.reset = 8 ∧ answered .lampOn (lampIn .off fun l => { l with bandView := .trip }) = 8 ∧
    answered .lampOn (lampIn .cooldown id) = 8 ∧ answered .lampOn (lampIn .run id) = 0 ∧
    answered .lampOn (lampIn .failed id) = 11 ∧
    (let third := lampIn .striking fun l => { l with attempts := 2, nextStrike := some 0 }
     (after .strikeAttemptTimer third).lamp.attempts = 3 ∧ (after .strikeAttemptTimer third).lamp.nextStrike = none) ∧
    (let open3 (n : Nat) := lampIn .striking fun l => { l with attempts := n, window := some 0 }
     (after .strikeWindowEnd (open3 2)).lamp.state = .striking ∧
     (after .strikeWindowEnd (open3 3)).lamp.state = .failed ∧
     (after (.currentSenseChange true) (open3 3)).lamp.warmUp = 45000) ∧
    (after .warmUpEnd (lampIn .warming id)).lamp.state = .run ∧
    (after (.currentSenseChange false) (lampIn .run id)).lamp.lossTimer = some 0 := by
  decide

theorem test_witness_TheLampCoolsDown :
    (lampIn .run id).lamp.active = true ∧ (after .lampOff (lampIn .run id)).lamp.coolDown = 120000 ∧
    (lampIn .failed id).lamp.active = false ∧
    (after .currentLoss (lampIn .warming fun l => { l with lossTimer := some 200 })).lamp.dest = .failed ∧
    (after .lampReset (lampIn .failed id)).lamp.state = .cooldown ∧ answered .lampReset (lampIn .run id) = 8 ∧
    (after .lampReset (lampIn .cooldown fun l => { l with dest := .failed })).lamp.dest = .off ∧
    (after .cooldownTimerExpiry (lampIn .cooldown id)).lamp.state = .cooldown ∧
    (after .cooldownTimerExpiry (lampIn .cooldown fun l => { l with coolFlag := true })).lamp.state = .off ∧
    (after .cooldownTimerExpiry (lampIn .cooldown fun l => { l with coolFlag := true, dest := .failed })).lamp.state =
      .failed := by
  decide

theorem test_witness_FadeTicksDeliverTheLight :
    (let ramped (k : Nat) := lit3.onLamp fun l => { l with ramp := some { a := 700, b := 0, n := 3, k := k } }
     (after .fadeTick (ramped 1)).lamp.delivered = 234 ∧ (after .fadeTick (ramped 2)).lamp.darkHold = true ∧
     (after .fadeTick (ramped 2)).lamp.ramp = none) ∧
    lit3.lamp.lit = true ∧ lit3.drive.gate = true ∧ lit3.drive.lifter = .down ∧
    (after .fadeTick lit3).lamp.delivered = 1000 ∧
    (after .fadeTick (lit3.onLamp fun l => { l with guard := true })).lamp.delivered = 150 ∧
    (after .fadeTick (lit3.onDrive fun d => { d with gate := false })).lamp.delivered = 0 ∧
    (after .fadeTick (lit3.onLamp fun l => { l with ticks := 25 })).lamp.ticks = 25 ∧
    (after (.setLight (some 1000)) show3).lamp.override = some 1000 ∧ answered (.setLight (some 1001)) show3 = 3 := by
  decide

theorem test_witness_TheExposureIsCounted :
    (let s := show3.onLamp fun l => { l with lightSum := 25000, exposure := 239000 }
     s.lamp.state ≠ .cooldown ∧ (after .lampPeriodEnd s).lamp.exposure = 240000 ∧
     noticed .lampPeriodEnd s 11 = some (.exposureGuard (some 3) 0) ∧
     (after .lampPeriodEnd s).thermal.handover = some { p := 1000, coolDone := true }) ∧
    (after .lampPeriodEnd (lampIn .cooldown fun l => { l with coolFlag := true })).lamp.state = .off ∧
    show3.link.accepts (.writeExposure 2 4000000) = true ∧
    (after (.writeExposure 2 4000000) show3).lamp.limit 2 = 4000000 ∧ answered (.writeExposure 2 4000001) show3 = 3 ∧
    answered (.writeExposure 3 0) show3 = 2 := by
  decide

theorem test_witness_ThermalRecordsAreWritten :
    (∀ c ∈ [Instr.writeCalibration (-512) 16383 320, .writeProfile 7 profileValues, .selectProfile 0],
      State.reset.link.accepts c = true) ∧
    answered (.writeProfile 8 profileValues) State.reset = 2 ∧ answered (.selectProfile 8) State.reset = 2 ∧
    answered (.writeCalibration 511 16383 (-320)) State.reset = 0 ∧
    answered (.writeCalibration 512 0 0) State.reset = 3 ∧ answered (.writeProfile 0 profileValues) State.reset = 4 ∧
    answered (.writeProfile 7 { profileValues with coolTime := 29 }) State.reset = 3 ∧
    answered (.writeProfile 7 profileValues) State.reset = 0 ∧ answered (.selectProfile 7) State.reset = 3 ∧
    answered (.selectProfile 0) State.reset = 0 ∧
    (after (.thermistorSample 4095) State.reset).thermal.sample = some 4095 ∧
    (after (.tachPulse 5000) State.reset).thermal.speed = some 6000 := by
  decide

/-- A sample of 1229 with no light: theta is 1229 × 2000 / 4096 − 160 = 440. -/
def sampled (r : Sample) (f : Thermal → Thermal) : State :=
  (State.reset.onThermal fun t => f { t with sample := some r, handover := some { p := 0, coolDone := true } }).onLamp
    fun l => { l with checkDone := true }

theorem test_witness_PeriodsTakeTheSample :
    (after .periodComputation (sampled 1229 id)).thermal.line.map (·[7]) = some 440 ∧
    (after .periodComputation (sampled 15 id)).thermal.sensor = .suspect ∧
    (after .periodComputation (sampled 16 id)).thermal.sensor = .good ∧
    (after .periodComputation (sampled 4079 id)).thermal.sensor = .good ∧
    noticed .periodComputation (sampled 4080 fun t => { t with sensor := .suspect }) 14 = some (.sensorFault 4080) ∧
    (after .periodComputation (sampled 1229 fun t => { t with sensor := .fault 80 2 })).thermal.sensor = .fault 80 3 ∧
    (after .periodComputation (sampled 1229 fun t => { t with sensor := .fault 80 3 })).thermal.line.map (·[7]) =
      some 440 := by
  decide

theorem test_witness_PeriodsDecideTheBand :
    (sampled 1229 id).thermal.sample = some 1229 ∧ (sampled 1229 id).thermal.handover ≠ none ∧
    (after .periodComputation (sampled 1229 id)).thermal.band = .normal ∧
    (after .periodComputation (sampled 15 fun t => { t with est := 1040 })).thermal.band = .warm ∧
    (after .periodComputation (sampled 15 fun t => { t with est := 1039 })).thermal.band = .normal ∧
    (after .periodComputation (sampled 15 fun t => { t with est := 1200, band := .warm })).thermal.band = .hot ∧
    (after .periodComputation (sampled 15 fun t => { t with est := 1159, band := .hot })).thermal.band = .warm ∧
    (after .periodComputation (sampled 15 fun t => { t with est := 559, band := .trip })).thermal.band = .normal ∧
    (let hot := (sampled 15 fun t => { t with est := 1360 }).onLamp fun l => { l with state := .run }
     noticed .periodComputation hot 10 = some (.lampTrip .run) ∧
     (after .periodComputation hot).thermal.duty = 1000) := by
  decide

/-- A driven fan whose tach has given this interval, in a fan state; the sample of 15 leaves the estimate alone. -/
def fanned (us : Nat) (fan : FanState) : State :=
  sampled 15 fun t => { t with duty := 250, tachInterval := some us, tachSilence := 0, fan := fan }

/-- The notices of a band entered, an interval of 100001 us against one of 100000, and the eighth slow period. -/
theorem test_witness_period_notices_and_tach :
    noticed .periodComputation (sampled 15 fun t => { t with est := 1040 }) 12 = some (.thermWarn 1040) ∧
    noticed .periodComputation (sampled 15 fun t => { t with est := 1200, band := .warm }) 13 =
      some (.thermHot 1200 .temp) ∧
    noticed .periodComputation (sampled 15 fun t => { t with sensor := .suspect }) 13 = some (.thermHot 0 .sensor) ∧
    noticed .periodComputation (fanned 100000 (.fault 0 0)) 13 = some (.thermHot 0 .fan) ∧
    (after .periodComputation (fanned 100000 (.good 7))).thermal.fan = .good 0 ∧
    (after .periodComputation (fanned 100001 (.good 6))).thermal.fan = .good 7 ∧
    (after .periodComputation (fanned 100001 (.good 7))).thermal.fan = .fault 0 0 ∧
    noticed .periodComputation (fanned 100001 (.good 7)) 15 = some (.fanFault (some 299)) ∧
    (after .periodComputation (fanned 100001 (.fault 38 7))).thermal.fan = .fault 39 0 ∧
    (after .periodComputation (fanned 100000 (.fault 38 6))).thermal.fan = .fault 38 7 ∧
    (after .periodComputation (fanned 100000 (.fault 38 7))).thermal.fan = .good 0 := by
  decide

/-- The start-up check at codes 399 (a sample of 1145) and 400 (1147), and with a bad sample. -/
theorem test_witness_start_up_check :
    (let first (r : Sample) := (sampled r id).onLamp fun l => { l with checkDone := false }
     (after .periodComputation (first 1145)).lamp.state = .off ∧
     (after .periodComputation (first 1145)).lamp.checkDone = true ∧
     (after .periodComputation (first 1147)).lamp.state = .cooldown ∧
     (after .periodComputation (first 1147)).lamp.coolDown = 120000 ∧
     (after .periodComputation (first 15)).lamp.state = .cooldown) := by
  decide

/-! ### Witnesses: tape and cues -/

/-- A run-down in progress. -/
def coast (next : PendingMotion) : State := tapeIn .stopped (fun t => { t with runDown := some { left := 0, next := next } }) id

theorem test_witness_TapeRequestsMoveTheTransport :
    (∀ c ∈ [Instr.tapePlay, .tapePause, .tapeStop, .tapeWind 1], State.reset.link.accepts c = true ∧
      answered c State.reset = 10) ∧
    (after .tapePlay (tapeIn .paused id id)).tape.transport = .playing ∧
    (after .tapePlay (coast .none)).tape.runDown = some { left := 0, next := .playing } ∧
    answered .tapePlay (tapeIn .windingFwd id id) = 8 ∧
    (after .tapePause (tapeIn .playing id id)).tape.transport = .paused ∧
    answered .tapePause (coast .playing) = 8 ∧ answered .tapeStop (tapeIn .stopped id id) = 8 ∧
    (after .tapeStop (tapeIn .windingBack id id)).tape.runDown = some { left := 300, next := .none } ∧
    answered (.tapeWind 2) State.reset = 3 ∧ answered (.tapeWind 0) (tapeIn .playing id id) = 8 ∧
    (after (.tapeWind 1) (tapeIn .windingFwd id id)).tape.runDown = some { left := 300, next := .windingBack } := by
  decide

theorem test_witness_TheTapeRuns :
    (after .runDownEnd (coast .windingBack)).tape.transport = .windingBack ∧
    (after .runDownEnd (coast .none)).tape.runDown = none ∧
    (after .capstanPulse (tapeIn .playing (fun t => { t with residue := 4, counter := 65535 }) id)).tape.counter = 65535 ∧
    (after .capstanPulse (tapeIn .playing (fun t => { t with residue := 3 }) id)).tape.residue = 4 ∧
    (let ending (left : Nat) := tapeIn .playing (fun t => { t with endTimer := some left }) id
     (after .tapeEndTimeout (ending 0)).tape.transport = .stopped ∧
     (after .tapeEndTimeout (after .capstanPulse (ending 0))).tape.transport = .playing) ∧
    (let ending (left : Nat) := tapeIn .windingFwd (fun t => { t with reelTimer := some left }) id
     (after .reelTimeout (ending 0)).tape.transport = .stopped ∧
     (after .reelTimeout (after .reelPulse (ending 0))).tape.transport = .windingFwd) ∧
    (after .reelPulse (tapeIn .windingFwd id id)).tape.reelTimer = some 1000 ∧
    (after .cassetteRemoval (tapeIn .playing id id)).tape.transport = .noTape ∧
    (after .cassetteInsertion State.reset).tape.transport = .stopped := by
  decide

theorem test_witness_SoundIsMixed :
    answered (.setTapePosition 65535) (tapeIn .paused id id) = 0 ∧
    answered (.setTapePosition 65536) (tapeIn .paused id id) = 3 ∧ answered (.setTapePosition 0) State.reset = 10 ∧
    answered (.setTapePosition 0) (coast .none) = 8 ∧ answered (.setGain 120) State.reset = 0 ∧
    answered (.setGain 121) State.reset = 3 ∧ answered (.setDuckDepth 120 2) State.reset = 0 ∧
    answered (.setDuckDepth 120 3) State.reset = 3 ∧
    (let ramped := tapeIn .playing (fun t => { t with
       mute := false, base := 100, duckTerm := 18, duckRamp := some { a := 0, b := 20, n := 20, k := 18 } }) id
     (after .soundTick ramped).tape.output = some 119 ∧
     (after .soundTick (after .soundTick ramped)).tape.output = none) ∧
    (let ended := tapeIn .playing (fun t => { t with baseRamp := some { a := 0, b := 9, n := 7, k := 7 } }) id
     (after .baseRampEnd ended).tape.base = 9) := by
  decide

/-- Entry 1 holds the NOTIFY cue, in a state. -/
def cued (st : CueState) : State := State.reset.onCue fun u => u.setEntry 1 { notify7 with state := st }

theorem test_witness_CueEntriesAreKept :
    cueEntryOf image = some notify7 ∧ cueEntryOf { image with slotPresent := 1, slotLo := 2, slotHi := 1 } = none ∧
    answered (.writeCue { image with entry := 32 }) (cued .armed) = 5 ∧
    answered (.writeCue { image with entry := 1 }) (cued .armed) = 0 ∧
    answered (.writeCue { image with entry := 33 }) State.reset = 2 ∧
    (after (.writeCue { image with entry := 0, want := 2 }) (cued .armed)).cue.entry 2 = { notify7 with state := .paused } ∧
    answered (.armCue 1) State.reset = 8 ∧ ((after (.armCue 1) (cued .spent)).cue.entry 1).state = .armed ∧
    answered (.pauseCue 1) (cued .spent) = 8 ∧ ((after (.pauseCue 1) (cued .armed)).cue.entry 1).state = .paused ∧
    (after (.retireCue 1) (cued .armed)).cue.entry 1 = CueEntry.blank ∧
    [Instr.armCue 0, .pauseCue 33, .retireCue 33].map (answered · State.reset) = [2, 2, 2] := by
  decide

/-- Each field of WRITE CUE at the end of its range and beyond it, and the argument of each action. -/
theorem test_cue_images_at_their_ranges :
    ([{ image with want := 0 }, { image with want := 3 }, { image with code := 4096 }, { image with selector := 4 },
      { image with action := 0 }, { image with action := 12 }, { image with single := 2 },
      { image with tapePresent := 1, tapeFrom := 2, tapeTo := 1 }, { image with tapePresent := 2 },
      { image with slotPresent := 1, slotLo := 0, slotHi := 1 }, { image with slotPresent := 1, slotLo := 1, slotHi := 141 },
      { image with action := 1, a0 := 0, a1 := 10 }, { image with action := 2, a0 := 0, a1 := 141 },
      { image with action := 5, a0 := 3, a1 := 233 }, { image with action := 10, a0 := 31, a1 := 17 }].map fun v =>
        answered (.writeCue v) State.reset) = List.replicate 15 3 ∧
    ([{ image with code := 4095, selector := 3 }, { image with tapePresent := 1, tapeFrom := 0, tapeTo := 65535 },
      { image with slotPresent := 1, slotLo := 1, slotHi := 140 }, { image with action := 1, a0 := 1, a1 := 9 },
      { image with action := 2, a0 := 0, a1 := 140 }, { image with action := 5, a0 := 3, a1 := 232 },
      { image with action := 10, a0 := 31, a1 := 18 }].map fun v => answered (.writeCue v) State.reset) =
        List.replicate 7 0 := by
  decide

/-- The thirteen bits of the word 0A7h. -/
def word0A7 : List Bool := [true, true, true, false, false, true, false, true, false, false, false, false, true]

/-- The receiver with bits taken, confirm pairs as given, the gate open. -/
def hearing (bits : List Bool) (confirm : Bool) (f : CueUnit → CueUnit) : State :=
  tapeIn .playing id fun u => f { u with rx := .word bits, confirm := confirm }

theorem test_witness_CueWordsAreReceived :
    (after .cueDataFallingEdge (tapeIn .playing id id)).cue.rx = .start ∧
    (after .cueDataFallingEdge State.reset).cue.rx = .idle ∧
    (after (.cueBitSample true) (hearing (word0A7.take 12) true id)).cue.rx = .word word0A7 ∧
    word0A7.length = 13 ∧ noticed (.cueWordComplete false) (hearing word0A7 true id) 20 = some (.cueBad .framing) ∧
    noticed (.cueWordComplete true) (hearing (List.replicate 13 true) true id) 20 = some (.cueBad .parity) ∧
    noticed (.cueWordComplete true) (hearing (List.replicate 12 true ++ [false]) true id) 20 = some (.cueBad .reserved) ∧
    (after (.cueWordComplete true) (hearing word0A7 true id)).cue.holding = some { code := 0x0A7, left := 150 } := by
  decide

theorem test_witness_AcceptedCodesFindTheirEntry :
    (let s := hearing word0A7 false fun u => u.setEntry 32 notify7
     noticed (.cueWordComplete true) s 18 = some (.cueHit 32 0x0A7 7) ∧
     ((after (.cueWordComplete true) s).cue.entry 32).state = .spent ∧
     ((after (.cueWordComplete true) s).cue.entry 32).hits = 1) ∧
    (let s := hearing word0A7 true fun u => { u with holding := some { code := 0x0A7, left := 1 } }
     noticed (.cueWordComplete true) s 21 = some (.cueUnmatched 0x0A7) ∧
     (after (.cueWordComplete true) s).cue.holding = none) ∧
    (let s := hearing word0A7 false fun u => u.setEntry 1 { notify7 with action := some (.goto 140) }
     noticed (.cueWordComplete true) s 19 = some (.cueMissed 1 (.status .notHomed))) ∧
    (let s := tapeIn .playing id fun u => { u with burst := some 200 }
     s.cue.legacy = true ∧ noticed .pulseCue s 19 = some (.cueMissed 0 (.status .notHomed))) := by
  decide

theorem test_witness_CueActionsReachTheirOwners :
    State.reset.thermal.profiles[(0 : Fin 8)].valid = true ∧ State.reset.thermal.profiles[(7 : Fin 8)].valid = false ∧
    State.reset.bus.slot = none ∧ State.reset.bus.state = .active ∧
    (offerAction 32 (.relay 31 3 (some 255)) State.reset).2 = .done ∧
    (offerAction 32 .tapePause (tapeIn .playing id id)).1.tape.transport = .paused ∧
    (offerAction 32 .tapePause (tapeIn .paused id id)).2 = .notNow := by
  decide

theorem test_witness_LearnModeParksTheCodes :
    (∀ c ∈ [Instr.learnOn, .learnOff, .readLearn], State.reset.link.accepts c = true) ∧
    (after .learnOn State.reset).cue.learn = .on ∧
    (let burst (m : LearnMode) (b : Option LearnRecord) := tapeIn .playing id fun u =>
       { u with burst := some 200, learn := m, buffer := b }
     noticed .pulseCue (burst .on none) 22 = some (.learnReady 4095) ∧
     (let full := burst .on (some { code := 1, kind := .coded, counter := 0, sure := true })
      (after .pulseCue full).cue.learn = .overrun) ∧
     (after .pulseCue (burst .overrun none)).cue.buffer = none) ∧
    (let coded (m : LearnMode) (b : Option LearnRecord) := hearing word0A7 false fun u => { u with learn := m, buffer := b }
     let first : LearnRecord := { code := 0x0A7, kind := .coded, counter := 0, sure := false }
     noticed (.cueWordComplete true) (coded .on none) 22 = some (.learnReady 0x0A7) ∧
     (after (.cueWordComplete true) (coded .on none)).cue.buffer = some first ∧
     noticed (.cueWordComplete true) (coded .on (some first)) 23 = some (.learnOverrun 0x0A7) ∧
     (after (.cueWordComplete true) (coded .overrun none)).cue.buffer = none) := by
  decide

/-! ### Witnesses: handsets, bus and link -/

/-- Handset 0102h in entry 8, in a state, its last press 4. -/
def paired (st : HandsetState) (quiet : Nat) : State :=
  State.reset.onRemote fun r => r.setHandset 8
    { state := st, id := some 258, rights := .soundOnly, lastSeq := 4, quiet := quiet }

theorem test_witness_TheHandsetTableIsKept :
    Rights.soundOnly.code = 2 ∧ (after (.openPairing 2) State.reset).remote.window =
      some { rights := .soundOnly, left := 30000 } ∧ answered (.openPairing 3) State.reset = 3 ∧
    answered (.setRights 8 0) State.reset = 8 ∧
    ((after (.setRights 8 0) (paired .active 0)).remote.handset 8).rights = .full ∧
    ((after (.blockHandset 8) (paired .lapsed 0)).remote.handset 8).state = .blocked ∧
    answered (.unblockHandset 8) (paired .active 0) = 8 ∧
    ((after (.unblockHandset 8) (paired .blocked 9)).remote.handset 8).quiet = 0 ∧
    ((after .quietTimeStep (paired .active 1798)).remote.handset 8).state = .active ∧
    ((after .quietTimeStep (paired .active 1799)).remote.handset 8).state = .lapsed ∧
    ((after .quietTimeStep (paired .blocked 65535)).remote.handset 8).quiet = 65535 ∧
    (after (.retireHandset 8) (paired .active 0)).remote.handset 8 = Handset.blank ∧
    [Instr.setRights 0 0, .setRights 9 0, .blockHandset 9, .unblockHandset 0, .retireHandset 9, .setRights 8 3].map
      (answered · (paired .active 0)) = [2, 2, 2, 2, 2, 3] := by
  decide

/-- The IR receiver with bytes taken, by the decision at the destination byte, over a state. -/
def infrared (bytes : List Byte) (mine : Bool) (s : State) : State :=
  s.onRemote fun r => { r with ir := .bytes bytes mine, irGap := some 0 }

theorem test_witness_IrFramesAreReceived :
    (after .irCarrierPresent State.reset).remote.ir = .leader ∧
    (let leader := State.reset.onRemote fun r => { r with ir := .leader }
     (after (.irLeaderEnd 5999) leader).remote.ir = .idle ∧ (after (.irLeaderEnd 6000) leader).remote.ir = .bytes [] false ∧
     (after (.irLeaderEnd 10000) leader).remote.ir = .bytes [] false ∧
     (after (.irLeaderEnd 10001) leader).remote.ir = .idle ∧ (after .irLeaderTooLong leader).remote.ir = .idle) ∧
    (let begun := infrared [] false State.reset
     [7, 13].map (fun b => noticed (.irByteComplete b) begun 24) =
       [some (.remoteBad .ir .length), some (.remoteBad .ir .length)] ∧
     (after (.irByteComplete 8) begun).remote.ir = .bytes [8] false ∧
     (after (.irByteComplete 12) begun).remote.ir = .bytes [12] false ∧
     noticed (.irFrameError .length) begun 24 = some (.remoteBad .ir .length)) ∧
    (let grouped := (infrared [8] false State.reset).onBus fun b =>
       { b with address := 9, groups := #v[true, false, false, false, false, false, false] }
     ([0, 9, 10, 24, 25, 31].map fun b => (after (.irByteComplete b) grouped).remote.ir) =
       [.bytes [8, 0] true, .bytes [8, 9] true, .bytes [8, 10] false, .bytes [8, 24] true, .bytes [8, 25] false,
        .bytes [8, 31] true]) ∧
    (after (.irByteComplete 0) (infrared [8, 0, 0, 0, 0, 0, 0] true State.reset)).remote.irGap = some 20 ∧
    (after (.irFrameError .cut) (infrared [8] false State.reset)).remote.ir = .bytes [] false ∧
    noticed (.irFrameError .framing) (infrared [8] false State.reset) 24 = some (.remoteBad .ir .framing) ∧
    noticed .irGapTimeout (infrared [8] false State.reset) 24 = some (.remoteBad .ir .gap) := by
  decide

/-- A frame from handset 0102h. -/
def irFrom (key seq : Nat) (rep : Bool) (dest : Nat) : List Byte :=
  ({ dest := dest, source := 258, seq := seq, key := key, rep := rep, args := [] } : RemoteFrame).toBytes

/-- What the last byte of a frame brings that was decided to be for this projector. -/
def irDone (f : List Byte) (s : State) : State := after (.irFrame (f.getLastD 0)) (infrared f.dropLast true s)

theorem test_witness_IrFramesAct :
    (irFrom 12 5 false 0).length = 9 ∧ frameGood (irFrom 12 5 false 0) = true ∧
    (RemoteFrame.ofBytes (irFrom 12 5 false 0)).wellFormed = true ∧
    (irDone (irFrom 12 5 false 0) (paired .active 7)).tape.duckOn = true ∧
    ((irDone (irFrom 12 5 false 0) (paired .active 7)).remote.handset 8).quiet = 0 ∧
    (irDone (irFrom 12 4 false 31) (paired .active 7)).tape.duckOn = false ∧
    (irDone (irFrom 10 4 true 1) (paired .active 7)).tape.base = 2 ∧
    (irDone (irFrom 12 4 false 0) (paired .lapsed 7)).tape.duckOn = true ∧
    (irDone (irFrom 12 5 false 0) (paired .blocked 7)).tape.duckOn = false ∧
    (let f := irFrom 12 5 false 2
     (after (.irFrame (f.getLastD 0)) (infrared f.dropLast false (paired .active 7))).tape.duckOn = false) ∧
    (irDone (irFrom 12 5 false 32) (paired .active 7)).link.notices[(24 : Fin 30)].arg = some (.remoteBad .ir .format) ∧
    (irDone (irFrom 20 5 false 0) (paired .active 7)).link.notices[(24 : Fin 30)].arg = some (.remoteBad .ir .format) ∧
    (irDone ((irFrom 12 5 false 0).dropLast ++ [0]) (paired .active 7)).link.notices[(24 : Fin 30)].arg =
      some (.remoteBad .ir .check) := by
  decide

/-- SET ADDRESS after the destination byte changes nothing of that frame. -/
theorem test_a_frame_is_decided_at_its_destination :
    (let f := irFrom 12 5 false 1
     let moved := after (.setAddress 2 []) (infrared f.dropLast true (paired .active 7))
     moved.bus.address = 2 ∧ (after (.irFrame (f.getLastD 0)) moved).tape.duckOn = true) := by
  decide

/-- The Handset Table full of the IDs 1 to 8 in a state, 2 and 5 the longest quiet, and the window open. -/
def fullTable (st : HandsetState) : State :=
  let other (id quiet : Nat) : Handset := { state := st, id := some id, rights := .full, lastSeq := 0, quiet := quiet }
  (after (.openPairing 2) State.reset).onRemote fun r =>
    { r with handsets :=
        #v[other 1 8, other 2 9, other 3 0, other 4 1, other 5 9, other 6 2, other 7 3, other 8 4] }

theorem test_witness_pairing :
    (let new : Handset := { state := .active, id := some 258, rights := .soundOnly, lastSeq := 5, quiet := 0 }
     let pair (s : State) : State := irDone (irFrom 17 5 false 0) s
     let opened (st : HandsetState) := after (.openPairing 2) ((paired st 7).onRemote fun r =>
       r.setHandset 8 { state := st, id := some 258, rights := .full, lastSeq := 4, quiet := 7 })
     (pair (after (.openPairing 2) State.reset)).remote.handset 1 = new ∧
     (pair (opened .active)).remote.handset 8 = new ∧ (pair (opened .lapsed)).remote.handset 8 = new ∧
     (pair (opened .active)).remote.window = none ∧
     (pair (opened .blocked)).link.notices[(27 : Fin 30)].arg = some (.handsetRefused 258 .blocked) ∧
     ((pair (paired .active 7)).remote.handset 8).quiet = 0 ∧
     (let lapsed := fullTable .lapsed
      (pair lapsed).remote.handset 2 = new ∧
      (pair lapsed).link.notices[(26 : Fin 30)].arg = some (.handsetPaired 2 258 .soundOnly (some 2))) ∧
     (pair (fullTable .active)).link.notices[(27 : Fin 30)].arg =
       some (.handsetRefused 258 .full)) := by
  decide

theorem test_witness_KeysReachTheirOwners :
    (offerKey .host 13 [] State.reset).2 = .noTape ∧ (offerKey .host 12 [] State.reset).2 = .done ∧
    (offerKey .host 15 [] (lampIn .failed id)).2 = .lampFailed ∧ (lampIn .failed id).lamp.active = false ∧
    (actHandsetKey .soundOnly (RemoteFrame.ofBytes (irFrom 8 5 false 0)) State.reset).link.notices[(25 : Fin 30)].arg =
      some (.keyRefused (.handset 258) 8 .rights) ∧
    (actHandsetKey .soundOnly (RemoteFrame.ofBytes (irFrom 9 5 false 0)) (State.reset.onTape fun t =>
      { t with base := 1 })).tape.base = 0 ∧
    (offerKey .host 7 [] show3).1.drive.focus = .running .inward .key ∧
    (offerKey .host 8 [] show3).1.drive.focus = .running .outward .key ∧
    (offerKey .host 8 [] (show3.onDrive fun d => { d with focus := .running .inward .key })).1.drive.focus =
      .pausing .outward .key ∧
    (offerKey .host 7 [] (turning 60 id)).1.drive.focus = .stopped ∧
    (offerKey .host 13 [] (tapeIn .paused id id)).1.tape.transport = .playing ∧
    (offerKey .host 13 [] (tapeIn .playing id id)).2 = .notNow ∧
    (offerKey .host 14 [] (tapeIn .playing id id)).1.tape.transport = .paused ∧
    (offerKey .host 14 [] (tapeIn .paused id id)).2 = .notNow ∧
    (offerKey .host 15 [] (lampIn .off id)).1.lamp.state = .striking ∧
    (offerKey .host 15 [] State.reset).2 = .notNow ∧
    (offerKey .host 16 [] (lampIn .run id)).1.lamp.state = .cooldown := by
  decide

/-- A held frame in the Origination Slot. -/
def slotted (ph : OrigPhase) (retries : Nat) : State := State.reset.onBus fun b =>
  { b with rxOut := .quiet, slot := some { origin := 0, dest := 4, key := 1, seq := 1, frame := [], phase := ph,
                                           retries := retries, wait := 0 } }

theorem test_witness_PortRequests :
    answered (.setAddress 23 [24, 30]) State.reset = 0 ∧ (after (.setAddress 23 [24, 30]) State.reset).bus.inGroup 30 = true ∧
    answered (.setAddress 24 []) State.reset = 3 ∧ answered (.sendFrame 31 3 [255] 0) State.reset = 0 ∧
    answered (.sendFrame 31 3 [] 0) State.reset = 3 ∧ answered (.sendFrame 1 1 [] 0) (slotted .waiting 0) = 8 ∧
    (after (.sendFrame 1 1 [] 0) (State.reset.onBus fun b => { b with running := 255 })).bus.running = 0 ∧
    (after .portAbort (slotted .sending 0)).bus.rxOut = .tail ∧
    noticed .portRestart (State.reset.onBus fun b => { b with state := .silent, errors := 200 }) 29 =
      some (.portState .active 0) := by
  decide

/-- A receiver of an ACTIVE port. -/
def wired (rxIn rxOut : BusRx) (down up : Forward) : State :=
  State.reset.onBus fun b => { b with rxIn := rxIn, rxOut := rxOut, fwdDown := down, fwdUp := up, errors := 94 }

theorem test_witness_BusFramesAreReceived :
    (wired .tail .tail .none .none).bus.transmits .inn = false ∧ (wired .tail .tail .none .none).bus.errors < 95 ∧
    (after (.busTailQuiet .out) (wired .tail .tail .none .none)).bus.rxOut = .quiet ∧
    (after (.busByteReceived .inn 8) (wired .quiet .quiet .none .none)).bus.fwdDown = .holding ∧
    noticed (.busByteReceived .inn 13) (wired .quiet .quiet .none .none) 24 = some (.remoteBad .bus .length) ∧
    (let held := wired (.frame [8] false) (.frame [8] false) .holding .holding
     (after (.busDestinationDecided .inn 1) held).bus.rxIn = .frame [8, 1] true ∧
     (after (.busDestinationDecided .inn 31) held).bus.fwdDown = .sending [8, 31] ∧
     (after (.busDestinationDecided .out 0) held).bus.fwdUp = .sending [8, 0] ∧
     noticed (.busDestinationDecided .inn 0) held 24 = some (.remoteBad .bus .format)) ∧
    (after (.busGapTimeout .inn) (wired (.frame [8, 1] true) .quiet .none .none)).bus.errors = 95 ∧
    (let f : List Byte := ({ dest := 1, source := 9, seq := 1, key := 12, rep := false, args := [] } : RemoteFrame).toBytes
     let s := wired (.frame f.dropLast true) .quiet .none .none
     (after (.busFrameEnd .inn (f.getLast?)) s).tape.duckOn = true ∧
     (after (.busFrameEnd .inn (f.getLast?)) s).bus.errors = 93 ∧
     (after (.busFrameEnd .inn (f.getLast?)) s).remote.console = some { station := 9, seq := 1 }) := by
  decide

/-- A frame of the wire from station 9. -/
def wire (dest key seq : Nat) (rep : Bool) : List Byte :=
  ({ dest := dest, source := 9, seq := seq, key := key, rep := rep, args := [] } : RemoteFrame).toBytes

/-- A frame received on a port but for its last byte, consumed or not, with the port in a state. -/
def hearingOn (p : Port) (f : List Byte) (consume : Bool) (st : PortState) (errors : Nat) : State :=
  State.reset.onBus fun b =>
    { b.setRx p (.frame f.dropLast consume) with state := st, errors := errors }

theorem test_witness_bus_frames_judged :
    (let ends (f : List Byte) (s : State) := after (.busFrameEnd .inn f.getLast?) s
     let duck := wire 1 12 1 false
     let bad : List Byte := duck.dropLast ++ [0]
     noticed (.busFrameEnd .inn bad.getLast?) (hearingOn .inn bad true .active 5) 24 = some (.remoteBad .bus .check) ∧
     (ends bad (hearingOn .inn bad false .passive 65)).bus.errors = 66 ∧
     (let odd := wire 1 20 1 false
      noticed (.busFrameEnd .inn odd.getLast?) (hearingOn .inn odd true .silent 200) 24 =
        some (.remoteBad .bus .format)) ∧
     (let seen (f : List Byte) := (hearingOn .inn f true .passive 66).onRemote fun r =>
        { r with console := some { station := 9, seq := 1 } }
      (ends duck (seen duck)).tape.duckOn = false ∧
      (ends duck (seen duck)).bus.errors = 65 ∧
      (let volume := wire 1 10 1 true
       (ends volume (seen volume)).tape.base = 2)) ∧
     (let status := wire 1 18 1 false
      ((ends status (hearingOn .inn status true .active 5)).bus.answer.map StatusAnswer.seq = some 1) ∧
      (ends status (hearingOn .inn status true .passive 65)).bus.answer = none)) := by
  decide

/-- A SILENT port forwards nothing, and what the other port sends gives way to a forward. -/
theorem test_witness_forwards_give_way :
    (after (.busByteReceived .inn 8) (State.reset.onBus fun b => { b with rxIn := .quiet, state := .silent })).bus.fwdDown =
      .none ∧
    (let deciding (p : Port) (f : Bus → Bus) := State.reset.onBus fun b =>
       f (((b.setRx p (.frame [8] false)).setFwdFrom p .holding))
     let answering (sending : Bool) := deciding .out fun b =>
       { b with rxIn := .quiet, answer := some { frame := [], seq := 0, sending := sending, left := 9 } }
     (after (.busDestinationDecided .out 0) (answering true)).bus.answer = none ∧
     (after (.busDestinationDecided .out 0) (answering false)).bus.answer.map StatusAnswer.left = some 9 ∧
     (after (.busDestinationDecided .out 0) (answering false)).bus.fwdUp = .sending [8, 0] ∧
     (let sending (retries : Nat) := deciding .inn fun b => { b with slot := (slotted .sending retries).bus.slot }
      (after (.busDestinationDecided .inn 2) (sending 2)).bus.slot.map Origination.retries = some 3 ∧
      noticed (.busDestinationDecided .inn 2) (sending 3) 28 = some (.relayDropped 0 4 1 .collision))) := by
  decide

theorem test_witness_ThePortSends :
    (after .originationStart (slotted .waiting 0)).bus.originating = true ∧
    noticed .originationWaitTimeout (slotted .waiting 0) 28 = some (.relayDropped 0 4 1 .wait) ∧
    (after .originationDone (slotted .sending 0)).bus.slot = none ∧
    (after .backoffEnd (slotted .backoff 1)).bus.slot.map Origination.wait = some 500 ∧
    (after (.busCollision .out) (slotted .sending 2)).bus.slot.map Origination.retries = some 3 ∧
    noticed (.busCollision .out) (slotted .sending 3) 28 = some (.relayDropped 0 4 1 .collision) ∧
    (let held (sending : Bool) := State.reset.onBus fun b =>
       { b with rxIn := .quiet, answer := some { frame := [], seq := 0, sending := sending, left := 0 } }
     (after .statusAnswerStart (held false)).bus.answering = true ∧
     (after .statusAnswerTimeout (held false)).bus.answer = none ∧
     (after .statusAnswerDone (held true)).bus.answer = none ∧ (after (.busCollision .inn) (held true)).bus.errors = 8) ∧
    (let fwd := (wired .quiet .quiet (.sending [8, 2]) .none).onBus fun b => { b with errors := 87 }
     (after (.busCollision .out) fwd).bus.fwdDown = .abandoned ∧ (after (.busCollision .out) fwd).bus.errors = 95 ∧
     (after (.busForwardEnd .out) fwd).bus.fwdDown = .none) := by
  decide

theorem test_witness_ErrorsMoveThePortState :
    (let port (st : PortState) (errors run : Nat) := State.reset.onBus fun b =>
       { b with rxOut := .frame [8, 0] false, state := st, errors := errors, goodRun := run }
     (port .active 95 0).bus.transmits .out = false ∧
     noticed (.busGapTimeout .out) (port .active 95 0) 29 = some (.portState .passive 96) ∧
     noticed (.busGapTimeout .out) (port .passive 159 0) 29 = some (.portState .silent 160) ∧
     (after (.busGapTimeout .out) (port .silent 255 9)).bus.errors = 255) ∧
    (let f : List Byte := ({ dest := 0, source := 9, seq := 1, key := 18, rep := false, args := [] } : RemoteFrame).toBytes
     let port (st : PortState) (errors run : Nat) := State.reset.onBus fun b =>
       { b with rxOut := .frame f.dropLast false, state := st, errors := errors, goodRun := run }
     noticed (.busFrameEnd .out f.getLast?) (port .passive 64 0) 29 = some (.portState .active 63) ∧
     noticed (.busFrameEnd .out f.getLast?) (port .silent 200 31) 29 = some (.portState .active 0) ∧
     (after (.busFrameEnd .out f.getLast?) (port .silent 200 30)).bus.goodRun = 31) := by
  decide

theorem test_witness_NoticesAreLatchedAndCleared :
    State.reset.link.accepts .readNotices = true ∧ State.reset.link.accepts .clearNotices = true ∧
    (let latched := (after .readNotices (raise .trayOut (raise (.trayIn 50) State.reset))).onLink fun l =>
       { l with status := .ready }
     let again := raise (.trayIn 80) latched
     noticed .clearNotices again 5 = none ∧ noticed .clearNotices again 4 = some (.trayIn 80) ∧
     (after .clearNotices again).link.respBuf.getD 3 0 = 1) ∧
    (raise .trayOut State.reset).link.attn = true := by
  decide

theorem test_witness_PeriodsCarryFrames :
    (after (.pollPeriod 0 64) State.reset).link.shifted.length = 64 ∧
    (after (.pollPeriod 0 66) State.reset).link.shifted.length = 66 ∧
    (after (.pollPeriod 0 2) (State.reset.onLink fun l => { l with resetPin := true })).link.shifted = [1, 1] ∧
    requestPasses [0] = false ∧ (after (.requestFrame [1, 0]) State.reset).link.respBuf.take 3 = [4, 0, 1] ∧
    (let held := after .hold State.reset
     held.link.status = .response ∧ held.link.respBuf.length = 5 ∧ (after (.fetch 6) held).link.status = .ready ∧
     (after (.fetch 5) held).link.status = .response ∧ (after (.fetch 8) held).link.shifted.length = 8) ∧
    (after (.fetch 3) State.reset).link.shifted = [0, 0, 0] := by
  decide

/-- A request cut short is ignored; one with a bad check, a code of 64, an L of 2 or an argument too few is answered
BAD_REQUEST; in RESPONSE even a good one is ignored. -/
theorem test_witness_requests_checked_by_the_link :
    (let frame (bytes : List Byte) := (after (.requestFrame (1 :: bytes)) State.reset).link
     let sealed (bytes : List Byte) := frame (withSums bytes)
     (frame [4, 4, 12, 20]).status = .ready ∧ (frame [4, 4, 12, 20, 33]).respBuf.take 3 = [4, 4, 1] ∧
     (sealed [3, 64]).respBuf.take 3 = [4, 64, 1] ∧ (sealed [2]).respBuf.take 2 = [4, 2] ∧
     (sealed [3, 4]).respBuf.take 3 = [4, 4, 1] ∧ (sealed [4, 4, 12]).status = .busy ∧
     (sealed [3, 15]).reqBuf = encodeRequest .lampOn) ∧
    (after (.requestFrame (1 :: encodeRequest .lampOn)) (after .hold State.reset)).link.reqBuf = [] := by
  decide

theorem test_witness_ResetsRestoreTheMachine :
    (turning 60 id).link.accepts .reset = true ∧ (after .reset (turning 60 id)).drive.bridge = .brake ∧
    (after .reset (lampIn .run id)).lamp.state = .cooldown ∧ (after .reset show3).changer.state = .noTray ∧
    (after .reset (showing fun c => { c with wrap := false })).changer.wrap = false ∧
    (after .reset (tapeIn .windingFwd id id)).tape.runDown = some { left := 300, next := .none } ∧
    (after .reset (paired .blocked 7)).remote.handset 8 = (paired .blocked 7).remote.handset 8 ∧
    (after .reset (slotted .sending 1)).bus.slot = none ∧ (after .reset (cued .paused)).cue.entry 1 =
      { notify7 with state := .paused } ∧
    (after .powerOnReset (turning 60 id)).drive.brakeTimer = some 40 ∧
    (after .powerOnReset (cued .armed)).cue.entry 1 = CueEntry.blank ∧
    (after .resetPinAssert show3).link.resetPin = true := by
  decide

/-! ### Witnesses: the laws -/

/-- The law of the change cycle holds in the turn. -/
theorem test_witness_CycleLawIsKept : CycleLaw (turning 93 id) where
  homed := ⟨by decide, by decide, by decide⟩
  record := rfl
  current := ⟨by decide, by intro n h; cases h; decide⟩
  target := by intro ch h; cases h; exact ⟨by intro n h; cases h; decide, by decide⟩
  queue := ⟨by decide, by decide, by decide⟩
  motion := ⟨fun _ _ _ => rfl, by decide, by decide, by decide, by decide, by decide⟩
  lifter := ⟨by decide, by decide, by decide, by decide⟩
  drive := fun _ => ⟨rfl, rfl⟩

theorem test_witness_TablesStayInRange :
    SlotLaw (turning 93 id) ∧ CueStoreLaw (cued .armed) ∧ SoundLaw (turning 93 id) ∧ LoopLaw (turning 93 id) := by
  refine ⟨by unfold SlotLaw; decide, by unfold CueStoreLaw; decide, ⟨by decide, by decide, by decide, ?_, ?_⟩,
    ⟨by decide, ?_, by decide⟩⟩
  · exact fun r h => nomatch h
  · exact fun r h => nomatch h
  · exact fun f h => nomatch h

theorem test_witness_TheTrayNeverReversesAtOnce :
    PositionLaw (turning 1199 id) ∧ (turning 1199 id).drive.bridge = .forward ∧
    (turning 0 fun d => { d with bridge := .backward }).drive.bridge = .backward ∧
    Bridge.forward.switching .brake =
      [{ lhi := false, llo := false, rhi := false, rlo := true }, { lhi := false, llo := true, rhi := false, rlo := true }] :=
  ⟨⟨by decide, by decide⟩, rfl, rfl, rfl⟩

theorem test_witness_LampAndThermalLawsAreKept :
    LampTimerLaw lit3 ∧ TripLaw lit3 ∧ LightLaw lit3 ∧ ExposureLaw lit3 ∧ FanLaw lit3 ∧ EstimateLaw lit3 :=
  ⟨⟨by decide, by decide, by decide, by decide, by decide⟩, ⟨rfl, by decide⟩,
    ⟨by decide, by decide, fun _ h => nomatch h⟩, ⟨by decide, by decide⟩, ⟨by decide, by decide, by decide⟩, rfl⟩

theorem test_witness_PortAndTableLawsAreKept :
    TransportLaw (tapeIn .playing (fun t => { t with endTimer := some 1 }) id) ∧
    GateLaw (tapeIn .playing id fun u => { u with rx := .start }) ∧ CueMapLaw (cued .armed) ∧
    HandsetLaw (paired .active 0) ∧ PortLaw (slotted .sending 3) ∧
    HoldLaw (wired (.frame [8] false) .quiet .holding .none) ∧ CounterLaw (wired .tail .tail .none .none) ∧
    LinkLaw (after .hold State.reset) ∧ NoticeLaw (raise (.trayIn 50) State.reset) := by
  refine ⟨⟨by decide, by decide, by decide⟩, by unfold GateLaw; decide, by unfold CueMapLaw; decide,
    ⟨by decide, by decide⟩, ⟨fun h => (nomatch h), by decide⟩, ?_, ⟨by decide, by decide, by decide, by decide⟩,
    ⟨by decide, by decide⟩, fun i => ⟨?_, by revert i; decide⟩⟩
  · intro p h
    cases p <;> first | exact ⟨rfl, rfl⟩ | cases h
  · intro n h
    fin_cases i <;> first | (cases h; rfl) | cases h

end Sys2Proof.Machine.Tests
end

section
/-! SUPPORT. Laws that read a few blocks of the state: a command that touches none of those blocks keeps such a law, and
what the keys, the cue actions and the received frames ask of the owners keeps it when each owner's answer does. -/

namespace Sys2Proof.Machine

/-- The law reads the named blocks of the state alone. -/
def ReadsOnly (P : State → Prop) (bs : List Block) : Prop := ∀ s t, (∀ b ∈ bs, b.same s t) → P s → P t

theorem ReadsOnly.exec_keeps {P : State → Prop} {bs : List Block} {c : Instr} {s t : State} (hP : ReadsOnly P bs)
    (h : exec c s = .next t) (hb : ∀ b ∈ bs, b ∉ touches c) (hs : P s) : P t :=
  hP s t (fun b m => exec_leaves b h (hb b m)) hs

/-- A law that does not read the Panel Link is kept by a host request when the owner's answer keeps it. -/
theorem ReadsOnly.hostRequest_keeps {P : State → Prop} {bs : List Block} (hP : ReadsOnly P bs) {c : Instr}
    {owner : State → Reply} {s t : State} (h : hostRequest c owner s = .next t) (hs : P s) (ho : P (owner s).state)
    (hbs : ∀ b ∈ bs, b ≠ .link := by simp) : P t := by
  rcases hostRequest_cases h with ⟨-, rfl⟩ | ⟨-, rfl⟩
  · refine hP _ _ (fun b m => ?_) ho
    cases b with
    | link => exact absurd rfl (hbs _ m)
    | _ => simp [Block.same]
  · exact hs

/-- A step keeps a law when a millisecond keeps it, every command keeps it, and the queue of waiting commands does not
matter to it. -/
theorem step_keeps {P : State → Prop} (hq : ∀ q s, P s → P { s with pending := q }) (hms : ∀ s, P s → P (passMs s))
    (hc : ∀ c s t, exec c s = .next t → P s → P t) {s t : State} (h : step s = .next t) (hs : P s) : P t := by
  unfold step at h
  split at h
  · cases h
    exact hms s hs
  · exact hc _ _ _ h (hq _ s hs)

/-! ### Offers of the keys and the cue actions -/

/-- R128: a change of the transport leaves the Cue Map. -/
@[simp] theorem CueUnit.gate_map (was is : Bool) (u : CueUnit) : (u.gate was is).map = u.map := by
  unfold CueUnit.gate
  (repeat' split) <;> rfl

@[simp] theorem setTransport_map (new : Transport) (s : State) : (setTransport new s).cue.map = s.cue.map :=
  CueUnit.gate_map _ _ _

@[simp] theorem offerTapePlay_map (s : State) : (offerTapePlay s).1.cue.map = s.cue.map := by
  unfold offerTapePlay
  (repeat' split) <;> simp [enterPlaying]

@[simp] theorem offerTapePause_map (s : State) : (offerTapePause s).1.cue.map = s.cue.map := by
  unfold offerTapePause
  (repeat' split) <;> simp [enterPaused]

theorem CueUnit.entry_of_map {u v : CueUnit} (h : v.map = u.map) (n : Nat) : v.entry n = u.entry n := by
  simp only [CueUnit.entry, h]

/-- R143 to R145: an action of a cue entry leaves the Cue Map. -/
theorem offerAction_map (n : Nat) (a : CueAction) (s : State) : (offerAction n a s).1.cue.map = s.cue.map := by
  cases a <;> simp [offerAction]

/-- The law is kept by everything a key, a cue action or a received frame can do: the owners' answers, the bookkeeping of
the Remote Unit, the Bus Port and the Cue Unit's receiver, and the notices. -/
structure KeptByOffers (P : State → Prop) : Prop where
  raise : ∀ n s, P s → P (raise n s)
  remote : ∀ f s, P s → P (s.onRemote f)
  bus : ∀ f s, P s → P (s.onBus f)
  cue : ∀ f s, (∀ u, (f u).map = u.map) → P s → P (s.onCue f)
  hit : ∀ n s, (s.cue.entry n).action ≠ none → P s → P (s.onCue fun u => u.setEntry n (u.entry n).hit)
  key : ∀ src key args s, P s → P (offerKey src key args s).1
  action : ∀ n a s, (s.cue.entry n).action = some a → P s → P (offerAction n a s).1
  legacy : ∀ s, P s → P (offerStep (.cue 0) 1 s).1

namespace KeptByOffers

variable {P : State → Prop} (K : KeptByOffers P)
include K

/-! ### The Remote Unit -/

theorem actKey (src : Source) (key : Nat) (args : List Nat) {s : State} (hs : P s) : P (actKey src key args s) := by
  simp only [Machine.actKey]
  split
  · exact K.key _ _ _ _ hs
  · exact K.raise _ _ (K.key _ _ _ _ hs)

theorem actHandsetKey (r : Rights) (f : RemoteFrame) {s : State} (hs : P s) : P (actHandsetKey r f s) := by
  unfold Machine.actHandsetKey
  split
  · exact hs
  · split
    · exact K.actKey _ _ _ hs
    · exact K.raise _ _ hs

theorem handsetFrame (n : Nat) (f : RemoteFrame) {s : State} (hs : P s) : P (handsetFrame n f s) := by
  have heard := K.remote (fun r => r.setHandset n ((s.remote.handset n).heard f)) s hs
  simp only [Machine.handsetFrame]
  split
  · exact K.actHandsetKey _ _ heard
  · split
    · exact K.actHandsetKey _ _ heard
    · exact heard
  · exact heard

theorem consoleFrame (f : RemoteFrame) {s : State} (hs : P s) : P (consoleFrame f s) := by
  unfold Machine.consoleFrame
  split
  · exact hs
  · split
    · exact K.actKey _ _ _ (K.remote _ _ hs)
    · split
      · exact K.actKey _ _ _ hs
      · exact hs
    · exact hs

theorem pairEntry (n : Nat) (w : PairingWindow) (f : RemoteFrame) (old : Option Nat) {s : State} (hs : P s) :
    P (pairEntry n w f old s) :=
  K.raise _ _ (K.remote _ _ hs)

theorem pairNew (w : PairingWindow) (f : RemoteFrame) {s : State} (hs : P s) : P (pairNew w f s) := by
  unfold Machine.pairNew
  split
  · exact K.pairEntry _ _ _ _ hs
  · split
    · exact K.pairEntry _ _ _ _ hs
    · exact K.raise _ _ hs

theorem senderFrame (f : RemoteFrame) {s : State} (hs : P s) : P (senderFrame f s) := by
  unfold Machine.senderFrame
  split
  · exact hs
  · exact K.pairNew _ _ hs
  · split
    · exact hs
    · exact K.raise _ _ hs
    · exact K.pairEntry _ _ _ _ hs
    · exact K.pairEntry _ _ _ _ hs
    · exact K.handsetFrame _ _ hs
    · exact K.handsetFrame _ _ hs
    · exact hs

theorem irFrameDone (bytes : List Byte) (mine : Bool) {s : State} (hs : P s) : P (irFrameDone bytes mine s) := by
  simp only [Machine.irFrameDone]
  split
  · exact K.raise _ _ hs
  · split
    · exact K.raise _ _ hs
    · split
      · exact hs
      · split
        · exact K.raise _ _ hs
        · split
          · exact hs
          · exact K.senderFrame _ hs

theorem irByte (before : List Byte) (mine : Bool) (b : Byte) {s : State} (hs : P s) : P (irByte before mine b s) := by
  simp only [Machine.irByte]
  split
  · exact K.raise _ _ (K.remote _ _ hs)
  · split
    · exact K.irFrameDone _ _ (K.remote _ _ hs)
    · exact K.remote _ _ hs

theorem irTake (b : Byte) {s : State} (hs : P s) : P (irTake b s) := by
  unfold Machine.irTake
  split
  · exact K.irByte _ _ _ hs
  · exact hs
  · exact hs

/-! ### The Bus Port -/

theorem dropFrame (cause : DropCause) {s : State} (hs : P s) : P (dropFrame cause s) := by
  unfold Machine.dropFrame
  split
  · exact hs
  · exact K.raise _ _ (K.bus _ _ hs)

theorem enterPort (new : PortState) {s : State} (hs : P s) : P (enterPort new s) := by
  cases new with
  | active => exact K.raise _ _ (K.bus _ _ hs)
  | passive => exact K.raise _ _ (K.bus _ _ (K.dropFrame _ hs))
  | silent => exact K.raise _ _ (K.bus _ _ (K.dropFrame _ hs))

theorem decidePort {s : State} (hs : P s) : P (decidePort s) := by
  unfold Machine.decidePort
  (repeat' split) <;> first | exact hs | exact K.enterPort _ hs

theorem endBad (p : Port) (rx : BusRx) (named : Bool) (cause : FrameFault) {s : State} (hs : P s) :
    P (endBad p rx named cause s) := by
  refine K.decidePort (K.bus _ _ ?_)
  unfold Machine.reportBad
  split
  · split
    · exact K.raise _ _ (K.bus _ _ hs)
    · exact K.bus _ _ hs
  · exact K.bus _ _ hs

theorem takeFrame (f : RemoteFrame) {s : State} (hs : P s) : P (takeFrame f s) := by
  unfold Machine.takeFrame
  split
  · split
    · unfold answerStatus
      split
      · exact K.bus _ _ hs
      · exact hs
    · exact hs
  · split
    · exact hs
    · exact K.consoleFrame _ hs

theorem endComplete (p : Port) (bytes : List Byte) (consume : Bool) {s : State} (hs : P s) :
    P (endComplete p bytes consume s) := by
  simp only [Machine.endComplete]
  split
  · exact K.endBad _ _ _ _ hs
  · split
    · exact K.endBad _ _ _ _ hs
    · refine K.decidePort (K.bus _ _ ?_)
      split
      · exact K.takeFrame _ (K.bus _ _ hs)
      · exact K.bus _ _ hs

theorem retryFrame {s : State} (hs : P s) : P (retryFrame s) := by
  unfold Machine.retryFrame
  split
  · exact hs
  · split
    · exact hs
    · split
      · exact K.bus _ _ hs
      · exact K.dropFrame _ hs

theorem startForward (p : Port) (bytes : List Byte) {s : State} (hs : P s) : P (startForward p bytes s) := by
  refine K.bus _ _ ?_
  unfold giveWay
  split
  · exact K.retryFrame hs
  · split
    · exact K.bus _ _ hs
    · exact hs

theorem decideDestination (p : Port) (length b : Byte) {s : State} (hs : P s) : P (decideDestination p length b s) := by
  cases p with
  | inn =>
    simp only [Machine.decideDestination, decideIn]
    split
    · exact K.endBad _ _ _ _ hs
    · split
      · exact K.startForward _ _ (K.bus _ _ hs)
      · exact K.bus _ _ (K.bus _ _ hs)
  | out =>
    simp only [Machine.decideDestination, decideOut]
    split
    · exact K.bus _ _ (K.bus _ _ hs)
    · exact K.startForward _ _ (K.bus _ _ hs)

theorem firstByte (p : Port) (b : Byte) {s : State} (hs : P s) : P (firstByte p b s) := by
  simp only [Machine.firstByte]
  split
  · exact K.bus _ _ (K.bus _ _ hs)
  · exact K.endBad _ _ _ _ (K.bus _ _ hs)

theorem laterByte (p : Port) (before : List Byte) (consume : Bool) (b : Byte) {s : State} (hs : P s) :
    P (laterByte p before consume b s) := by
  simp only [Machine.laterByte]
  split
  · exact K.endComplete _ _ _ (K.bus _ _ hs)
  · exact K.bus _ _ (K.bus _ _ hs)

theorem busByte (p : Port) (b : Byte) {s : State} (hs : P s) : P (busByte p b s) := by
  unfold Machine.busByte
  split
  · exact hs
  · split
    · exact K.firstByte _ _ hs
    · exact hs
    · exact K.decideDestination _ _ _ hs
    · exact K.laterByte _ _ _ _ hs

theorem busErrorByte (p : Port) {s : State} (hs : P s) : P (busErrorByte p s) := by
  unfold Machine.busErrorByte
  split
  · exact hs
  · split
    · exact K.endBad _ _ _ _ (K.bus _ _ hs)
    · exact hs
    · exact K.endBad _ _ _ _ hs

/-! ### The Cue Unit -/

theorem cueHit (n : Nat) (code : CueCode) {s : State} (hs : P s) : P (cueHit n code s) := by
  unfold Machine.cueHit
  split
  · exact hs
  · rename_i a ha
    have ho := K.action n a s ha hs
    simp only
    split
    · exact K.raise _ _ (K.hit _ _ (by simp [CueUnit.entry_of_map (offerAction_map n a s), ha]) ho)
    · exact K.raise _ _ ho

theorem lookUp (code : CueCode) (kind : CodeKind) {s : State} (hs : P s) : P (lookUp code kind s) := by
  unfold Machine.lookUp
  split
  · exact K.cueHit _ _ hs
  · split
    · simp only [legacyStep]
      split <;> exact K.raise _ _ (K.legacy s hs)
    · exact K.raise _ _ hs

theorem acceptCode (code : CueCode) (kind : CodeKind) {s : State} (hs : P s) : P (acceptCode code kind s) := by
  unfold Machine.acceptCode
  split
  · exact K.lookUp _ _ hs
  · unfold learn
    split <;> exact K.raise _ _ (K.cue _ _ (fun _ => rfl) hs)
  · exact hs

theorem wordDone (bits : List Bool) (stop : Bool) {s : State} (hs : P s) : P (wordDone bits stop s) := by
  have idle : P (s.onCue fun u => { u with rx := .idle }) := K.cue _ _ (fun _ => rfl) hs
  simp only [Machine.wordDone]
  split
  · exact K.raise _ _ idle
  · split
    · unfold confirmWord
      split
      · split
        · exact K.acceptCode _ _ (K.cue _ _ (fun _ => rfl) idle)
        · exact K.cue _ _ (fun _ => rfl) idle
      · exact K.cue _ _ (fun _ => rfl) idle
    · exact K.acceptCode _ _ idle

/-! ### The commands of received words, keys and frames -/

theorem cueWordComplete {stop : Bool} {s t : State} (h : execCueWordComplete stop s = .next t) (hs : P s) : P t := by
  unfold execCueWordComplete at h
  (repeat' split at h) <;> cases h <;> first | exact hs | exact K.wordDone _ _ hs

theorem pulseCue {s t : State} (h : execPulseCue s = .next t) (hs : P s) : P t := by
  have quiet : P (toneEnd s) := K.cue _ _ (fun _ => rfl) hs
  cases h
  split
  · exact K.acceptCode _ _ quiet
  · exact quiet

theorem irFrame {b : Byte} {s t : State} (h : execIrFrame b s = .next t) (hs : P s) : P t := by
  cases h
  split
  · exact K.irTake _ hs
  · exact hs

theorem irByteComplete {b : Byte} {s t : State} (h : execIrByteComplete b s = .next t) (hs : P s) : P t := by
  cases h
  exact K.irTake _ hs

theorem busDestinationDecided {p : Port} {b : Byte} {s t : State} (h : execBusDestinationDecided p b s = .next t)
    (hs : P s) : P t := by
  cases h
  split
  · exact K.busByte _ _ hs
  · exact hs

theorem busFrameEnd {p : Port} {b : Option Byte} {s t : State} (h : execBusFrameEnd p b s = .next t) (hs : P s) :
    P t := by
  cases b with
  | none =>
    cases h
    exact K.busErrorByte _ hs
  | some b =>
    cases h
    split
    · exact K.busByte _ _ hs
    · exact hs

theorem busByteReceived {p : Port} {b : Byte} {s t : State} (h : execBusByteReceived p b s = .next t) (hs : P s) :
    P t := by
  cases h
  exact K.busByte _ _ hs

end KeptByOffers

/-- A law of the Changer and the Tray Drive alone is kept by all offers when it is kept by those four that touch these
blocks: STEP, GOTO, hold and the focus keys. -/
theorem KeptByOffers.of_changer_drive {P : State → Prop} (hP : ReadsOnly P [.changer, .drive])
    (step : ∀ src k s, P s → P (offerStep src k s).1) (goto : ∀ src lb n s, P s → P (offerGoto src lb n s).1)
    (hold : ∀ h s, P s → P (setHold h s)) (focus : ∀ dir s, P s → P (s.onDrive (Drive.focusKey dir))) :
    KeptByOffers P where
  raise n s hs := hP s _ (by simp [Block.same]) hs
  remote f s hs := hP s _ (by simp [Block.same]) hs
  bus f s hs := hP s _ (by simp [Block.same]) hs
  cue f s _ hs := hP s _ (by simp [Block.same]) hs
  hit n s _ hs := hP s _ (by simp [Block.same]) hs
  legacy s hs := step _ _ s hs
  key src key args s hs := by
    unfold offerKey
    split
    case h_1 | h_2 => exact step _ _ s hs
    case h_3 => exact goto _ _ _ s hs
    case h_4 => exact hold _ s hs
    case h_7 | h_8 => exact focus _ s hs
    all_goals exact hP s _ (by simp [Block.same]) hs
  action n a s _ hs := by
    cases a with
    | step k => exact step _ _ s hs
    | goto n => exact goto _ _ _ s hs
    | hold => exact hold _ s hs
    | resume => exact hold _ s hs
    | _ => exact hP s _ (by simp [Block.same, offerAction]) hs

end Sys2Proof.Machine
end

section
/-! SUPPORT. The law of the change cycle in parts: what the law reads, a Changer that is ready at a slot, a change that is
aimed at one, a drive whose tray stands still, and the law put together from these in each kind of changer state. -/

namespace Sys2Proof.Machine

/-! ### What the law reads -/

/-- What the law of the change cycle reads of the Changer. -/
def Changer.cycleView (c : Changer) :=
  (c.tray, c.homed, c.current, c.state, c.queue, c.change)

/-- What the law of the change cycle reads of the Tray Drive, but for the focus motor. -/
def Drive.cycleView (d : Drive) :=
  (d.motion, d.bridge, d.afterBrake, d.backingOff, d.lifterDrive, d.lifterTimer.isSome, d.lifter)

/-- The laws of the Tray Drive in a change cycle. -/
structure DriveLaws (s : State) : Prop where
  motion : MotionLaw s
  lifter : LifterLaw s
  drive : DriveLaw s

/-- The law is kept by a change of the drive that keeps the drive's laws. -/
theorem CycleLaw.of_changer_eq {s t : State} (h : CycleLaw s) (hc : t.changer.cycleView = s.changer.cycleView)
    (hd : DriveLaws t) : CycleLaw t := by
  simp only [Changer.cycleView, Prod.mk.injEq] at hc
  obtain ⟨htray, hhomed, hcurrent, hstate, hqueue, hchange⟩ := hc
  have hsize : t.changer.size = s.changer.size := by simp only [Changer.size, htray]
  exact {
    homed := by simpa only [HomedLaw, htray, hhomed, hstate] using h.homed
    record := by simpa only [RecordLaw, hchange, hstate] using h.record
    current := by simpa only [CurrentLaw, htray, hhomed, hcurrent, hsize] using h.current
    target := by simpa only [TargetLaw, hhomed, hstate, hchange, hsize] using h.target
    queue := by simpa only [QueueLaw, hhomed, hqueue, hsize] using h.queue
    motion := hd.motion
    lifter := hd.lifter
    drive := hd.drive }

/-- The law reads no more than its two views, and that the focus motor stands still while the tray is driven. -/
theorem CycleLaw.of_view {s t : State} (h : CycleLaw s) (hc : t.changer.cycleView = s.changer.cycleView)
    (hd : t.drive.cycleView = s.drive.cycleView)
    (hf : s.drive.bridge.drives = true → s.drive.focus = .stopped → t.drive.focus = .stopped) : CycleLaw t := by
  refine h.of_changer_eq hc ?_
  simp only [Changer.cycleView, Prod.mk.injEq] at hc
  simp only [Drive.cycleView, Prod.mk.injEq] at hd
  obtain ⟨-, hhomed, -, hstate, -, -⟩ := hc
  obtain ⟨hmotion, hbridge, hafter, hback, hlift, htimer, hpos⟩ := hd
  exact {
    motion := by simpa only [MotionLaw, hmotion, hbridge, hafter, hback, hstate, hhomed] using h.motion
    lifter := by simpa only [LifterLaw, hmotion, hbridge, hlift, htimer, hstate] using h.lifter
    drive := fun hdr => by
      rw [hbridge] at hdr
      obtain ⟨hup, hstop⟩ := h.drive hdr
      exact ⟨hpos.trans hup, hf hdr hstop⟩ }

theorem cycleLaw_readsOnly : ReadsOnly CycleLaw [.changer, .drive] := by
  intro s t hb h
  have hc : t.changer = s.changer := hb .changer (by simp)
  have hd : t.drive = s.drive := hb .drive (by simp)
  exact h.of_view (by rw [hc]) (by rw [hd]) (by rw [hd]; exact fun _ => id)

/-! ### The Changer -/

/-- R22: a queue that the law allows on a tray of n slots. -/
def QueueFits (n : Nat) (q : List Entry) : Prop := q.length ≤ 4 ∧ ∀ e ∈ q, e.lawful n = true

/-- R10, R22: a homed tray with its current slot and its queue. -/
structure Changer.Ready (c : Changer) : Prop where
  tray : c.tray ≠ none
  homed : c.homed = true
  current : ∃ n, c.current = some n ∧ 1 ≤ n ∧ n ≤ c.size
  queue : QueueFits c.size c.queue

/-- The change in flight has a target on the tray. -/
def Changer.Aimed (c : Changer) : Prop := ∃ ch t, c.change = some ch ∧ ch.target = some t ∧ 1 ≤ t ∧ t ≤ c.size

/-- R40, R47: a Changer that has given up what it knew of the tray's position, with no change in flight. -/
structure Changer.Lost (c : Changer) : Prop where
  homed : c.homed = false
  current : c.current = none
  queue : c.queue = []
  change : c.change = none
  state : c.state = .noTray ∧ c.tray = none ∨ (c.state = .unhomed ∨ c.state = .jammed) ∧ c.tray ≠ none

theorem Changer.Ready.of_view {c d : Changer} (h : c.Ready) (htray : d.tray = c.tray := by simp)
    (hhomed : d.homed = c.homed := by simp) (hcurrent : d.current = c.current := by simp)
    (hqueue : d.queue = c.queue := by simp) : d.Ready := by
  have hsize : d.size = c.size := by simp only [Changer.size, htray]
  obtain ⟨tray, homed, current, queue⟩ := h
  exact ⟨htray ▸ tray, hhomed ▸ homed, by rwa [hcurrent, hsize], by rwa [hqueue, hsize]⟩

theorem Changer.Aimed.of_view {c d : Changer} (h : c.Aimed) (htray : d.tray = c.tray := by simp)
    (hchange : d.change = c.change := by simp) : d.Aimed := by
  have hsize : d.size = c.size := by simp only [Changer.size, htray]
  unfold Changer.Aimed
  rwa [hchange, hsize]

/-- A tray has at least one slot. -/
theorem Changer.size_pos {c : Changer} (h : c.tray ≠ none) : 1 ≤ c.size := by
  unfold Changer.size
  split
  · exact absurd ‹_› h
  · rename_i t _
    cases t <;> decide

theorem CycleLaw.tray_of_state {s : State} (h : CycleLaw s) (hs : s.changer.state ≠ .noTray) :
    s.changer.tray ≠ none := fun e => hs (h.homed.1.mpr e)

theorem CycleLaw.ready {s : State} (h : CycleLaw s) (hh : s.changer.homed = true) : s.changer.Ready := by
  have tray : s.changer.tray ≠ none := h.tray_of_state fun e => by simp [h.homed.2.1 (.inl e)] at hh
  obtain ⟨n, hn⟩ := Option.isSome_iff_exists.mp (h.current.1.mpr ⟨Option.isSome_iff_ne_none.mpr tray, hh⟩)
  exact ⟨tray, hh, ⟨n, hn, h.current.2 n hn⟩, h.queue.1, h.queue.2.1⟩

/-- R10: outside homing a change in flight is homed. -/
theorem CycleLaw.homed_of_inFlight {s : State} (h : CycleLaw s) (hf : s.changer.state.inFlight = true)
    (hs : s.changer.state ≠ .homing) : s.changer.homed = true := by
  by_contra hh
  rcases h.homed.2.2 (by simpa using hh) with e | e | e | e
  · simp [e, ChangerState.inFlight] at hf
  · simp [e, ChangerState.inFlight] at hf
  · simp [e, ChangerState.inFlight] at hf
  · exact hs e

theorem CycleLaw.homed_of_showing {s : State} (h : CycleLaw s) (hs : s.changer.state = .showing) :
    s.changer.homed = true := by
  by_contra hh
  simpa [hs] using h.homed.2.2 (by simpa using hh)

theorem CycleLaw.aimed {s : State} (h : CycleLaw s) (hf : s.changer.state.inFlight = true)
    (hh : s.changer.homed = true) : s.changer.Aimed := by
  obtain ⟨ch, hch⟩ := Option.isSome_iff_exists.mp (h.record.trans hf)
  obtain ⟨range, present⟩ := h.target ch hch
  obtain ⟨t, ht⟩ := Option.isSome_iff_exists.mp (present (.inr hh))
  exact ⟨ch, t, hch, ht, range t ht⟩

/-! ### The drive -/

/-- R52, R58: the tray stands still with nothing to follow, and the lifter is not driven. -/
structure Drive.Still (d : Drive) : Prop where
  bridge : d.bridge.drives = false
  after : d.afterBrake = .off
  backing : d.backingOff = false
  lifter : d.lifterDrive = .off
  timer : d.lifterTimer = none

/-- R65: the drive stands still and no motion is ordered. -/
structure Drive.Rests (d : Drive) : Prop extends d.Still where
  motion : d.motion = .none

/-- R53, R56, R65: the changer state and homed in which a motion stands. -/
def Motion.fits (m : Motion) (c : Changer) : Prop :=
  (∀ d t, m = .turn d t → c.state = .rotating) ∧
  (m = .homeLift ∨ m = .homeSeek → c.state = .homing ∧ c.homed = false) ∧
  (m = .homeCentre → c.state = .homing ∧ c.homed = true)

theorem CycleLaw.fits {s : State} (h : CycleLaw s) : s.drive.motion.fits s.changer :=
  ⟨h.motion.1, h.motion.2.1, h.motion.2.2.1⟩

theorem Motion.fits_none (c : Changer) : Motion.none.fits c := by simp [Motion.fits]

/-- A motion that does not turn the tray finds the bridge undriven with nothing to follow. -/
theorem CycleLaw.still {s : State} (h : CycleLaw s) (hm : s.drive.motion.turnsTray = false)
    (hl : s.drive.lifterDrive = .off) : s.drive.Still := by
  obtain ⟨-, -, -, hdrives, hafter, hback⟩ := h.motion
  obtain ⟨-, -, htimer, -⟩ := h.lifter
  rw [hm] at hdrives hafter
  have undriven : s.drive.bridge.drives = false := by simpa using hdrives
  rw [undriven] at hback
  exact {
    bridge := undriven
    after := by simpa using hafter
    backing := by simpa using hback
    lifter := hl
    timer := by simpa [hl] using htimer }

/-- R65: no motion is ordered in a state that orders none. -/
theorem CycleLaw.motion_none {s : State} (h : CycleLaw s) (h1 : s.changer.state ≠ .rotating)
    (h2 : s.changer.state ≠ .homing) : s.drive.motion = .none := by
  obtain ⟨hturn, hseek, hcentre⟩ := h.fits
  cases hm : s.drive.motion with
  | none => rfl
  | turn d t => exact absurd (hturn d t hm) h1
  | homeLift => exact absurd (hseek (.inl hm)).1 h2
  | homeSeek => exact absurd (hseek (.inr hm)).1 h2
  | homeCentre => exact absurd (hcentre hm).1 h2

/-- R58: the lifter is not driven in a state and motion that order neither a lift nor a drop. -/
theorem CycleLaw.lifter_off {s : State} (h : CycleLaw s) (h1 : s.changer.state ≠ .lifting)
    (h2 : s.changer.state ≠ .dropping) (hm : s.drive.motion ≠ .homeLift) : s.drive.lifterDrive = .off := by
  cases hl : s.drive.lifterDrive with
  | off => rfl
  | upward => exact ((h.lifter.1 hl).elim h1 hm).elim
  | downward => exact absurd (h.lifter.2.1 hl) h2

/-- In a state that orders neither a motion, a lift nor a drop, the drive rests. -/
theorem CycleLaw.rests {s : State} (h : CycleLaw s)
    (hs : s.changer.state ≠ .rotating ∧ s.changer.state ≠ .homing ∧ s.changer.state ≠ .lifting ∧
      s.changer.state ≠ .dropping) : s.drive.Rests := by
  obtain ⟨h1, h2, h3, h4⟩ := hs
  have hm := h.motion_none h1 h2
  exact { h.still (by simp [hm, Motion.turnsTray]) (h.lifter_off h3 h4 (by simp [hm])) with motion := hm }

/-- R58: while a motion turns the tray, the lifter is not driven. -/
theorem CycleLaw.lifter_off_of_turns {s : State} (h : CycleLaw s) (ht : s.drive.motion.turnsTray = true) :
    s.drive.lifterDrive = .off ∧ s.drive.lifterTimer = none := by
  have hstate : s.changer.state = .rotating ∨ s.changer.state = .homing := by
    obtain ⟨hturn, hseek, hcentre⟩ := h.fits
    cases hm : s.drive.motion with
    | none | homeLift => simp [hm, Motion.turnsTray] at ht
    | turn d t => exact .inl (hturn d t hm)
    | homeSeek => exact .inr (hseek (.inr hm)).1
    | homeCentre => exact .inr (hcentre hm).1
  have off : s.drive.lifterDrive = .off :=
    h.lifter_off (by rcases hstate with e | e <;> simp [e]) (by rcases hstate with e | e <;> simp [e])
      (fun e => by simp [e, Motion.turnsTray] at ht)
  exact ⟨off, by simpa [off] using h.lifter.2.2.1⟩

theorem driveLaws_of_still {s : State} (hm : s.drive.motion.fits s.changer) (hd : s.drive.Still) : DriveLaws s where
  motion := ⟨hm.1, hm.2.1, hm.2.2, by simp [hd.bridge], by simp [hd.after], by simp [hd.backing]⟩
  lifter := ⟨by simp [hd.lifter], by simp [hd.lifter], by simp [hd.timer], by simp [hd.bridge]⟩
  drive := by simp [DriveLaw, hd.bridge]

theorem driveLaws_of_rests {s : State} (hd : s.drive.Rests) : DriveLaws s :=
  driveLaws_of_still (hd.motion ▸ Motion.fits_none _) hd.toStill

/-- R52: a motion that turns the tray, in a brake. -/
theorem driveLaws_of_brake {s : State} (hm : s.drive.motion.fits s.changer) (ht : s.drive.motion.turnsTray = true)
    (hb : s.drive.bridge = .brake) (hback : s.drive.backingOff = false) (hl : s.drive.lifterDrive = .off)
    (htimer : s.drive.lifterTimer = none) : DriveLaws s where
  motion := ⟨hm.1, hm.2.1, hm.2.2, by simp [hb, Bridge.drives], by simp [hb, ht], by simp [hback]⟩
  lifter := ⟨by simp [hl], by simp [hl], by simp [htimer], by simp [hl]⟩
  drive := by simp [DriveLaw, hb, Bridge.drives]

@[simp] theorem Dir.bridge_drives (dir : Dir) : dir.bridge.drives = true := by cases dir <;> rfl

/-- R52: a motion that turns the tray, in a drive just ordered, with the lifter UP. -/
theorem driveLaws_of_energize {s : State} {dir : Dir} {d : Drive} (he : s.drive = d.energize dir)
    (hm : d.motion.fits s.changer) (ht : d.motion.turnsTray = true) (hup : d.lifter = .up)
    (hl : d.lifterDrive = .off) (htimer : d.lifterTimer = none) : DriveLaws s where
  motion := by
    rw [MotionLaw, he]
    exact ⟨hm.1, hm.2.1, hm.2.2, by simp [ht], by simp, by simp⟩
  lifter := by
    rw [LifterLaw, he]
    exact ⟨by simp [hl], by simp [hl], by simp [htimer], by simp [hl]⟩
  drive := fun _ => by
    rw [he]
    exact ⟨hup, rfl⟩

/-- R52: a drive ordered of an undriven bridge goes on at once, or after the brake in progress. -/
theorem Drive.start_cases {d : Drive} (dir : Dir) (h : d.bridge.drives = false) :
    d.start dir = d.energize dir ∨ d.bridge = .brake ∧ d.start dir = { d with afterBrake := .drive dir } := by
  unfold Drive.start
  cases hb : d.bridge with
  | off => exact .inl rfl
  | brake => exact .inr ⟨rfl, rfl⟩
  | forward | backward => simp [hb, Bridge.drives] at h

/-- R52, R53, R56: a motion that turns the tray, just ordered of a drive that stands still with the lifter UP. -/
theorem driveLaws_of_start {s : State} {dir : Dir} {d : Drive} (he : s.drive = d.start dir)
    (hm : d.motion.fits s.changer) (ht : d.motion.turnsTray = true) (hup : d.lifter = .up) (hd : d.Still) :
    DriveLaws s := by
  rcases d.start_cases dir hd.bridge with e | ⟨hb, e⟩
  · exact driveLaws_of_energize (he.trans e) hm ht hup hd.lifter hd.timer
  · rw [e] at he
    exact driveLaws_of_brake (by rwa [he]) (by rwa [he]) (by rwa [he]) (by rw [he]; exact hd.backing)
      (by rw [he]; exact hd.lifter) (by rw [he]; exact hd.timer)

/-- R59, R60: a lift or a drop in a drive whose tray stands still. -/
theorem driveLaws_of_lifter {s : State} (hm : s.drive.motion.fits s.changer) (hb : s.drive.bridge.drives = false)
    (hafter : s.drive.afterBrake = .off) (hback : s.drive.backingOff = false)
    (hl : s.drive.lifterDrive = .upward ∧ (s.changer.state = .lifting ∨ s.drive.motion = .homeLift) ∨
      s.drive.lifterDrive = .downward ∧ s.changer.state = .dropping) : DriveLaws s where
  motion := ⟨hm.1, hm.2.1, hm.2.2, by simp [hb], by simp [hafter], by simp [hback]⟩
  lifter := by
    rcases hl with ⟨hl, hs⟩ | ⟨hl, hs⟩ <;> simp [LifterLaw, hl, hs, hb]
  drive := by simp [DriveLaw, hb]

/-! ### The law in each kind of state -/

/-- R35: the law in a change cycle, or in a homing that has seen the index. -/
theorem cycleLaw_of_aimed {s : State} (hr : s.changer.Ready) (ha : s.changer.Aimed)
    (hs : s.changer.state.inFlight = true) (hd : DriveLaws s) : CycleLaw s := by
  obtain ⟨n, hn, hrange⟩ := hr.current
  obtain ⟨ch, t, hch, ht, htr⟩ := ha
  exact {
    homed := by
      refine ⟨⟨fun e => by simp [e, ChangerState.inFlight] at hs, fun e => absurd e hr.tray⟩, ?_, by simp [hr.homed]⟩
      rintro (e | e | e) <;> simp [e, ChangerState.inFlight] at hs
    record := by simp [RecordLaw, hch, hs]
    current := by
      refine ⟨by simp [hn, hr.homed, Option.isSome_iff_ne_none, hr.tray], fun m hm => ?_⟩
      obtain rfl : n = m := by simpa [hn] using hm
      exact hrange
    target := by
      intro ch' h'
      obtain rfl : ch = ch' := by simpa [hch] using h'
      refine ⟨fun t' h' => ?_, fun _ => by simp [ht]⟩
      obtain rfl : t = t' := by simpa [ht] using h'
      exact htr
    queue := ⟨hr.queue.1, hr.queue.2, by simp [hr.homed]⟩
    motion := hd.motion
    lifter := hd.lifter
    drive := hd.drive }

/-- R36: the law in SHOWING. -/
theorem cycleLaw_of_showing {s : State} (hr : s.changer.Ready) (hc : s.changer.change = none)
    (hs : s.changer.state = .showing) (hd : s.drive.Rests) : CycleLaw s := by
  obtain ⟨n, hn, hrange⟩ := hr.current
  have hd := driveLaws_of_rests hd
  exact {
    homed := by simp [HomedLaw, hs, hr.homed, hr.tray]
    record := by simp [RecordLaw, hc, hs, ChangerState.inFlight]
    current := by
      refine ⟨by simp [hn, hr.homed, Option.isSome_iff_ne_none, hr.tray], fun m hm => ?_⟩
      obtain rfl : n = m := by simpa [hn] using hm
      exact hrange
    target := by simp [TargetLaw, hc]
    queue := ⟨hr.queue.1, hr.queue.2, by simp [hr.homed]⟩
    motion := hd.motion
    lifter := hd.lifter
    drive := hd.drive }

/-- R30: the law in a homing that has not seen the index. -/
theorem cycleLaw_of_homing {s : State} {ch : Change} (htray : s.changer.tray ≠ none) (hh : s.changer.homed = false)
    (hcur : s.changer.current = none) (hq : s.changer.queue = []) (hc : s.changer.change = some ch)
    (ht : ch.target = none) (hs : s.changer.state = .homing) (hd : DriveLaws s) : CycleLaw s where
  homed := by simp [HomedLaw, hs, hh, htray]
  record := by simp [RecordLaw, hc, hs, ChangerState.inFlight]
  current := by simp [CurrentLaw, hcur, hh]
  target := by
    intro ch' h'
    obtain rfl : ch = ch' := by simpa [hc] using h'
    simp [ht, hs, hh]
  queue := by simp [QueueLaw, hq]
  motion := hd.motion
  lifter := hd.lifter
  drive := hd.drive

/-- R15, R40, R47: the law with the tray's position lost and the drive at rest. -/
theorem cycleLaw_of_lost {s : State} (hc : s.changer.Lost) (hd : s.drive.Rests) : CycleLaw s := by
  have hd := driveLaws_of_rests hd
  exact {
    homed := by
      rcases hc.state with ⟨hs, ht⟩ | ⟨hs | hs, ht⟩ <;> simp [HomedLaw, hs, ht, hc.homed]
    record := by
      rcases hc.state with ⟨hs, -⟩ | ⟨hs | hs, -⟩ <;> simp [RecordLaw, hs, hc.change, ChangerState.inFlight]
    current := by simp [CurrentLaw, hc.current, hc.homed]
    target := by simp [TargetLaw, hc.change]
    queue := by simp [QueueLaw, hc.queue]
    motion := hd.motion
    lifter := hd.lifter
    drive := hd.drive }

end Sys2Proof.Machine
end

section
/-! SUPPORT. The operations of the change cycle keep its law: the jam, the phases from the settle back to the fade-out, the
head of the queue, the arrival, homing, the queue and the dwell expiry. -/

namespace Sys2Proof.Machine

/-! ### The bridge at a stop -/

theorem Drive.halt_undriven (d : Drive) : d.halt.bridge.drives = false := by
  unfold Drive.halt
  split <;> simp_all [Bridge.drives]

theorem Drive.halt_after {d : Drive} (h : d.afterBrake ≠ .off → d.bridge = .brake) : d.halt.afterBrake = .off := by
  unfold Drive.halt
  split
  · rename_i hb
    by_contra hn
    simp [h hn] at hb
  · rfl
  · rfl
  · rfl

/-- R52: what a bridge waits for in a brake is waited for in a brake alone. -/
theorem CycleLaw.after_brake {s : State} (h : CycleLaw s) : s.drive.afterBrake ≠ .off → s.drive.bridge = .brake :=
  fun ha => (h.motion.2.2.2.2.1 ha).1

theorem Drive.jammed_rests {d : Drive} (h : d.afterBrake ≠ .off → d.bridge = .brake) : d.jammed.Rests where
  bridge := d.halt_undriven
  after := Drive.halt_after h
  backing := rfl
  lifter := rfl
  timer := rfl
  motion := rfl

theorem Drive.atReset_rests {d : Drive} (h : d.afterBrake ≠ .off → d.bridge = .brake) : d.atReset.Rests where
  bridge := d.halt_undriven
  after := Drive.halt_after h
  backing := rfl
  lifter := rfl
  timer := rfl
  motion := rfl

theorem Drive.powerOn_rests (d : Drive) : d.powerOn.Rests where
  bridge := d.halt_undriven
  after := rfl
  backing := rfl
  lifter := rfl
  timer := rfl
  motion := rfl

theorem Drive.trayRemoved_rests {d : Drive} (h : d.afterBrake ≠ .off → d.bridge = .brake) : d.trayRemoved.Rests := by
  unfold Drive.trayRemoved
  by_cases hb : d.bridge = .off
  · simp only [if_pos hb]
    have : d.afterBrake = .off := by
      by_contra hn
      simp [h hn] at hb
    exact { bridge := by simp [hb, Bridge.drives], after := this, backing := rfl, lifter := rfl, timer := rfl, motion := rfl }
  · simp only [if_neg hb]
    exact { bridge := rfl, after := rfl, backing := rfl, lifter := rfl, timer := rfl, motion := rfl }

/-! ### The end of a change and the jam -/

/-- The end of a change empties the current change record and nothing else of the Changer. -/
@[simp] theorem finishChange_changer (r : ChangeResult) (s : State) :
    (finishChange r s).changer = { s.changer with change := none } := by
  unfold finishChange
  split
  · rename_i h
    rw [← h]
  · simp

@[simp] theorem jam_drive (r : JamReason) (s : State) : (jam r s).drive = s.drive.jammed := by simp [jam]

@[simp] theorem jam_changer (r : JamReason) (s : State) :
    (jam r s).changer = { s.changer.jammed with change := none } := by simp [jam]

@[simp] theorem Changer.jammed_fields (c : Changer) :
    c.jammed.tray = c.tray ∧ c.jammed.queue = [] ∧ c.jammed.loops = [] ∧ c.jammed.homed = false ∧
    c.jammed.current = none ∧ c.jammed.state = .jammed := by
  unfold Changer.jammed
  split <;> simp

/-- R40: after a jam the law stands, with a tray on and nothing to follow outside a brake. -/
theorem jam_cycleLaw (r : JamReason) {s : State} (ht : s.changer.tray ≠ none)
    (ha : s.drive.afterBrake ≠ .off → s.drive.bridge = .brake) : CycleLaw (jam r s) :=
  cycleLaw_of_lost
    { homed := by simp, current := by simp, queue := by simp, change := by simp, state := by simp [ht] }
    (by simpa using Drive.jammed_rests ha)

/-! ### From the window to the settle -/

theorem enterSettling_cycleLaw {s : State} (hr : s.changer.Ready) (ha : s.changer.Aimed) (hd : s.drive.Rests) :
    CycleLaw (enterSettling s) := by
  refine cycleLaw_of_aimed (hr.of_view rfl rfl rfl rfl) (ha.of_view rfl rfl) rfl (driveLaws_of_rests ?_)
  exact { bridge := hd.bridge, after := hd.after, backing := hd.backing, lifter := hd.lifter, timer := hd.timer
          motion := hd.motion }

theorem enterDropping_cycleLaw {s : State} (hr : s.changer.Ready) (ha : s.changer.Aimed) (hd : s.drive.Rests) :
    CycleLaw (enterDropping s) := by
  simp only [enterDropping]
  split
  · exact enterSettling_cycleLaw (hr.of_view rfl rfl rfl rfl) (ha.of_view rfl rfl) hd
  · refine cycleLaw_of_aimed (hr.of_view rfl rfl rfl rfl) (ha.of_view rfl rfl) rfl
      (driveLaws_of_lifter ?_ hd.bridge hd.after hd.backing (.inr ⟨rfl, rfl⟩))
    exact hd.motion ▸ Motion.fits_none _

theorem windowReached_cycleLaw {s : State} (hr : s.changer.Ready) (ha : s.changer.Aimed) (hd : s.drive.Rests) :
    CycleLaw (windowReached s) := by
  obtain ⟨ch, t, hch, ht, hrange⟩ := ha
  have target : s.changer.target = some t := by simp [Changer.target, hch, ht]
  exact enterDropping_cycleLaw ⟨hr.tray, hr.homed, ⟨t, target, hrange⟩, hr.queue⟩ ⟨ch, t, hch, ht, hrange⟩ hd

/-! ### From the fade-out to the turn -/

theorem enterRotating_cycleLaw {s : State} (hr : s.changer.Ready) (ha : s.changer.Aimed) (hd : s.drive.Rests) :
    CycleLaw (enterRotating s) := by
  have hr' : Changer.Ready { s.changer with state := .rotating } := hr.of_view rfl rfl rfl rfl
  have ha' : Changer.Aimed { s.changer with state := .rotating } := ha.of_view rfl rfl
  have hd' : Drive.Rests { s.drive with stalls := 0, corrections := 0 } :=
    { bridge := hd.bridge, after := hd.after, backing := hd.backing, lifter := hd.lifter, timer := hd.timer
      motion := hd.motion }
  obtain ⟨ch, t, hch, ht, hrange⟩ := ha
  simp only [enterRotating, State.onChanger_changer, hch]
  split
  · exact windowReached_cycleLaw hr' ha' hd'
  · split
    · exact jam_cycleLaw _ hr'.tray (fun h => absurd hd'.after h)
    · rename_i hup
      refine cycleLaw_of_aimed hr' ha' rfl (driveLaws_of_start rfl ?_ rfl (not_not.mp hup) ?_)
      · simp [Motion.fits]
      · exact { bridge := hd.bridge, after := hd.after, backing := hd.backing, lifter := hd.lifter, timer := hd.timer }

theorem enterLifting_cycleLaw {s : State} (hr : s.changer.Ready) (ha : s.changer.Aimed) (hd : s.drive.Rests) :
    CycleLaw (enterLifting s) := by
  have hr' : Changer.Ready { s.changer with state := .lifting } := hr.of_view rfl rfl rfl rfl
  have ha' : Changer.Aimed { s.changer with state := .lifting } := ha.of_view rfl rfl
  simp only [enterLifting]
  split
  · exact enterRotating_cycleLaw hr' ha' hd
  · exact cycleLaw_of_aimed hr' ha' rfl
      (driveLaws_of_lifter (hd.motion ▸ Motion.fits_none _) hd.bridge hd.after hd.backing (.inl ⟨rfl, .inl rfl⟩))

/-- R31, R34: with its order to the lamp, the entry to FADING_OUT fades over a time or begins the lift at once. -/
theorem enterFadingOut_cases (s : State) :
    (∃ l, enterFadingOut s = enterLifting (s.onLamp l)) ∨
    ∃ l, enterFadingOut s = (s.onLamp l).onChanger fun c => { c with state := .fadingOut } := by
  simp only [enterFadingOut]
  split
  · exact .inl ⟨_, rfl⟩
  · cases s.changer.currentSlot with
    | none => exact .inl ⟨_, rfl⟩
    | some r =>
      simp only
      split
      · exact .inl ⟨_, rfl⟩
      · exact .inr ⟨_, rfl⟩

theorem enterFadingOut_cycleLaw {s : State} (hr : s.changer.Ready) (ha : s.changer.Aimed) (hd : s.drive.Rests) :
    CycleLaw (enterFadingOut s) := by
  rcases enterFadingOut_cases s with ⟨l, e⟩ | ⟨l, e⟩ <;> rw [e]
  · exact enterLifting_cycleLaw hr ha hd
  · exact cycleLaw_of_aimed (hr.of_view rfl rfl rfl rfl) (ha.of_view rfl rfl) rfl (driveLaws_of_rests hd)

/-! ### Targets (R32, R33) -/

theorem neighbour_range {n slot : Nat} (dir : Dir) (h : 1 ≤ slot ∧ slot ≤ n) :
    1 ≤ neighbour n slot dir ∧ neighbour n slot dir ≤ n := by
  cases dir <;> simp only [neighbour] <;> split <;> omega

theorem walk_range {pass : Nat → Bool} {dir : Dir} {n : Nat} {stop : Bool} {fuel slot t : Nat}
    (h : 1 ≤ slot ∧ slot ≤ n) (hw : walk pass dir n stop fuel slot = .found t) : 1 ≤ t ∧ t ≤ n := by
  induction fuel generalizing slot with
  | zero => simp [walk] at hw
  | succ fuel ih =>
    simp only [walk] at hw
    split at hw
    · cases hw
      exact h
    · split at hw
      · cases hw
      · exact ih (neighbour_range dir h) hw

theorem stepSlot_range {n : Nat} (current : Nat) (k : Int) (h : 1 ≤ n) :
    1 ≤ stepSlot n current k ∧ stepSlot n current k ≤ n := by
  have pos : (n : Int) ≠ 0 := by omega
  have low := Int.emod_nonneg ((current : Int) - 1 + k) pos
  have high := Int.emod_lt_of_pos ((current : Int) - 1 + k) (show (0 : Int) < n by omega)
  simp only [stepSlot]
  omega

/-- R32, R33: the target an entry is aimed at lies on the tray. -/
theorem Changer.aim_range {c : Changer} {e : Entry} {t : Nat} {dir : Dir} (hn : 1 ≤ c.size)
    (he : e.lawful c.size = true) (h : c.aim e = some (t, dir)) : 1 ≤ t ∧ t ≤ c.size := by
  unfold Changer.aim at h
  cases hk : e.kind with
  | goto g =>
    simp only [hk, Option.some.injEq, Prod.mk.injEq] at h
    obtain ⟨rfl, -⟩ := h
    simpa [Entry.lawful, hk] using he
  | step k =>
    have first := stepSlot_range (c.current.getD 1) k hn
    simp only [hk] at h
    split at h
    · rename_i found
      cases h
      exact walk_range first found
    · cases h
      exact first
    · cases h

/-! ### Taking the head (R31) -/

theorem Drive.focusStopOrder_rests {d : Drive} (h : d.Rests) : d.focusStopOrder.Rests := by
  unfold Drive.focusStopOrder
  split
  · exact { bridge := h.bridge, after := h.after, backing := h.backing, lifter := h.lifter, timer := h.timer
            motion := h.motion }
  · exact h

theorem QueueFits.tail {n : Nat} {e : Entry} {rest : List Entry} (h : QueueFits n (e :: rest)) : QueueFits n rest := by
  obtain ⟨length, lawful⟩ := h
  simp only [List.length_cons] at length
  exact ⟨by omega, fun x hx => lawful x (by simp [hx])⟩

@[simp] theorem discardAtTrayEnd_changer (rest : List Entry) (s : State) :
    (discardAtTrayEnd rest s).changer = { s.changer with queue := rest, run := 0, held := true, dwellDue := false } := by
  simp [discardAtTrayEnd]

/-- R31: the head is taken in SHOWING, over every entry that is discarded first. -/
theorem takeFrom_cycleLaw {q : List Entry} {s : State} (h : CycleLaw s) (hs : s.changer.state = .showing)
    (hq : s.changer.queue = q) : CycleLaw (takeFrom q s) := by
  induction q generalizing s with
  | nil => exact h
  | cons e rest ih =>
    have hr := h.ready (h.homed_of_showing hs)
    have hd := h.rests (by simp [hs])
    have fits : QueueFits s.changer.size (e :: rest) := hq ▸ hr.queue
    have hr' : ∀ d : Changer, d.tray = s.changer.tray → d.homed = s.changer.homed → d.current = s.changer.current →
        d.queue = rest → d.Ready := fun d ht hh hc hq' => by
      have hsize : d.size = s.changer.size := by simp only [Changer.size, ht]
      exact ⟨ht ▸ hr.tray, hh ▸ hr.homed, by rw [hc, hsize]; exact hr.current, by rw [hq', hsize]; exact fits.tail⟩
    simp only [takeFrom]
    split
    · refine ih (cycleLaw_of_showing ?_ ?_ ?_ ?_) ?_ ?_
      · exact hr' _ (by simp) (by simp) (by simp) (by simp)
      · simpa [RecordLaw, hs, ChangerState.inFlight] using h.record
      · simp [hs]
      · simpa using hd
      · simp [hs]
      · simp
    · rename_i t dir haim
      refine enterFadingOut_cycleLaw ?_ ?_ ?_
      · exact hr' _ rfl rfl rfl rfl
      · exact ⟨_, t, rfl, rfl, Changer.aim_range (Changer.size_pos hr.tray) (fits.2 e (by simp)) haim⟩
      · exact Drive.focusStopOrder_rests hd

theorem pump_cycleLaw {s : State} (h : CycleLaw s) : CycleLaw (pump s) := by
  unfold pump
  split
  · exact takeFrom_cycleLaw h ‹_› rfl
  · exact h

/-! ### Arrival, an empty gate and the end of the cycle (R36 to R38) -/

theorem enterShowing_cycleLaw {s : State} (hr : s.changer.Ready) (hd : s.drive.Rests) : CycleLaw (enterShowing s) :=
  pump_cycleLaw (cycleLaw_of_showing (hr.of_view) (by simp) (by simp) (by simpa using hd))

theorem showDark_cycleLaw {s : State} (hr : s.changer.Ready) (hd : s.drive.Rests) : CycleLaw (showDark s) :=
  pump_cycleLaw (cycleLaw_of_showing (hr.of_view) (by simp) (by simp) (by simpa using hd))

/-- R44: the push touches the Loop Stack alone. -/
@[simp] theorem pushLoop_changer_fields (slot count : Nat) (s : State) :
    (pushLoop slot count s).changer.tray = s.changer.tray ∧ (pushLoop slot count s).changer.homed = s.changer.homed ∧
    (pushLoop slot count s).changer.current = s.changer.current ∧
    (pushLoop slot count s).changer.state = s.changer.state ∧ (pushLoop slot count s).changer.queue = s.changer.queue ∧
    (pushLoop slot count s).changer.change = s.changer.change ∧
    (pushLoop slot count s).changer.slots = s.changer.slots := by
  unfold pushLoop
  (repeat' split) <;> simp

/-- R38: an arrival leaves the position, the queue, the change in flight and the Slot Table. -/
@[simp] theorem arrive_changer_fields (slot : Nat) (r : SlotRecord) (isStep : Bool) (s : State) :
    (arrive slot r isStep s).changer.tray = s.changer.tray ∧ (arrive slot r isStep s).changer.homed = s.changer.homed ∧
    (arrive slot r isStep s).changer.current = s.changer.current ∧
    (arrive slot r isStep s).changer.state = s.changer.state ∧
    (arrive slot r isStep s).changer.queue = s.changer.queue ∧
    (arrive slot r isStep s).changer.change = s.changer.change ∧
    (arrive slot r isStep s).changer.slots = s.changer.slots := by
  simp only [arrive, setOverride_frame, arriveLoop]
  (repeat' split) <;> simp

theorem slideFound_cycleLaw (slot : Nat) (isStep : Bool) {s : State} (hr : s.changer.Ready) (ha : s.changer.Aimed)
    (hd : s.drive.Rests) : CycleLaw (slideFound slot isStep s) := by
  simp only [slideFound]
  split
  · exact enterShowing_cycleLaw hr.of_view (by simpa using hd)
  · exact cycleLaw_of_aimed hr.of_view ha.of_view rfl (driveLaws_of_rests (by simpa using hd))

theorem gateEmpty_cycleLaw {slot : Nat} (ch : Change) {s : State} (hr : s.changer.Ready)
    (hslot : 1 ≤ slot ∧ slot ≤ s.changer.size) (hd : s.drive.Rests) : CycleLaw (gateEmpty slot ch s) := by
  simp only [gateEmpty]
  split
  · refine enterLifting_cycleLaw (hr.of_view) ?_ (by simpa using hd)
    refine ⟨_, neighbour s.changer.size slot ch.dir, rfl, ?_, ?_⟩
    · simp [Changer.size]
    · simpa [Changer.size] using neighbour_range ch.dir hslot
  · exact showDark_cycleLaw (hr.of_view) (by simpa using hd)

theorem settleEnd_cycleLaw {s : State} (hr : s.changer.Ready) (ha : s.changer.Aimed) (hd : s.drive.Rests) :
    CycleLaw (settleEnd s) := by
  obtain ⟨ch, t, hch, ht, hrange⟩ := ha
  simp only [settleEnd, hch, ht, Option.getD_some]
  split
  · exact slideFound_cycleLaw _ _ hr ⟨ch, t, hch, ht, hrange⟩ hd
  · exact gateEmpty_cycleLaw ch hr hrange hd

/-! ### Homing (R29, R30, R56) -/

/-- R56 step 2: the seek starts in a homing, with the lifter UP and the drive still. -/
theorem startSeek_driveLaws {s : State} (hs : s.changer.state = .homing) (hh : s.changer.homed = false)
    (hup : s.drive.lifter = .up) (hd : s.drive.Still) : DriveLaws (startSeek s) := by
  refine driveLaws_of_start (d := { s.drive with stalls := 0, corrections := 0, budget := 0, motion := .homeSeek })
    rfl ?_ rfl hup ?_
  · simp [Motion.fits, hs, hh]
  · exact { bridge := hd.bridge, after := hd.after, backing := hd.backing, lifter := hd.lifter, timer := hd.timer }

theorem startHoming_cycleLaw (src : Source) {s : State} (ht : s.changer.tray ≠ none) (hh : s.changer.homed = false)
    (hc : s.changer.current = none) (hq : s.changer.queue = []) (hd : s.drive.Rests) : CycleLaw (startHoming src s) := by
  simp only [startHoming]
  split
  · rename_i hup
    exact cycleLaw_of_homing (by simpa using ht) (by simpa using hh) (by simpa using hc) (by simpa using hq) (by simp; rfl)
      rfl (by simp) (startSeek_driveLaws rfl hh hup hd.toStill)
  · refine cycleLaw_of_homing ht hh hc hq rfl rfl rfl
      (driveLaws_of_lifter ?_ hd.bridge hd.after hd.backing (.inl ⟨rfl, .inr rfl⟩))
    simp [Motion.fits, hh]

/-- R30: homing starts from UNHOMED or JAMMED. -/
theorem CycleLaw.startHoming {s : State} (h : CycleLaw s) (src : Source)
    (hs : s.changer.state = .unhomed ∨ s.changer.state = .jammed) : CycleLaw (startHoming src s) := by
  have hh : s.changer.homed = false := h.homed.2.1 (.inr hs)
  refine startHoming_cycleLaw src (h.tray_of_state ?_) hh ?_ (h.queue.2.2 hh) (h.rests ?_)
  · rcases hs with e | e <;> simp [e]
  · simpa [hh] using h.current.1
  · rcases hs with e | e <;> simp [e]

theorem rehome_cycleLaw {s : State} (h : CycleLaw s) (hs : s.changer.state = .showing) : CycleLaw (rehome s) :=
  startHoming_cycleLaw _ (h.tray_of_state (by simp [hs])) rfl rfl rfl (h.rests (by simp [hs]))

theorem offerHome_cycleLaw {s : State} (h : CycleLaw s) : CycleLaw (offerHome s).1 := by
  unfold offerHome
  split
  case h_2 hs => exact h.startHoming _ (.inl hs)
  case h_3 hs => exact h.startHoming _ (.inr hs)
  case h_5 hs => exact rehome_cycleLaw h hs
  all_goals exact h

/-- R56, R12: the index is seen in the seek, outside a back-off. -/
theorem indexSeen_cycleLaw {s : State} (h : CycleLaw s) (hm : s.drive.motion = .homeSeek)
    (hback : s.drive.backingOff = false) : CycleLaw (indexSeen s) := by
  obtain ⟨hs, hh⟩ := h.fits.2.1 (.inr hm)
  have ht : s.changer.tray ≠ none := h.tray_of_state (by simp [hs])
  obtain ⟨ch, hch⟩ := Option.isSome_iff_exists.mp (h.record.trans (by simp [hs, ChangerState.inFlight]))
  obtain ⟨hoff, htimer⟩ := h.lifter_off_of_turns (by simp [hm, Motion.turnsTray])
  have hsize := Changer.size_pos ht
  simp only [indexSeen]
  refine cycleLaw_of_aimed ⟨ht, rfl, ⟨1, rfl, le_refl 1, hsize⟩, h.queue.1, h.queue.2.1⟩
    ⟨{ ch with target := some 1 }, 1, by simp [hch], rfl, le_refl 1, hsize⟩ (by simp [hs, ChangerState.inFlight]) ?_
  by_cases hb : s.drive.bridge = .brake
  · exact driveLaws_of_brake (by simp [hb, Motion.fits, hs]) (by simp [hb, Motion.turnsTray]) (by simp [hb])
      (by simp [hb, hback]) (by simp [hb, hoff]) (by simp [hb, htimer])
  · exact driveLaws_of_brake (by simp [hb, Motion.fits, hs]) (by simp [hb, Motion.turnsTray]) (by simp [hb])
      (by simp [hb, hback]) (by simp [hb, hoff]) (by simp [hb, htimer])

/-! ### The Change Queue (R20 to R26) -/

theorem QueueFits.append {n : Nat} {q q' : List Entry} {e : Entry} (h : QueueFits n q) (he : e.lawful n = true)
    (ha : appendEntry q e = some q') : QueueFits n q' := by
  unfold appendEntry at ha
  split at ha
  · cases ha
    refine ⟨by simp; omega, fun x hx => ?_⟩
    rcases List.mem_append.mp hx with hx | hx
    · exact h.2 x hx
    · rwa [List.mem_singleton.mp hx]
  · cases ha

theorem QueueFits.dropLast {n : Nat} {q : List Entry} (h : QueueFits n q) : QueueFits n q.dropLast :=
  ⟨by rw [List.length_dropLast]; have := h.1; omega, fun x hx => h.2 x (List.dropLast_subset q hx)⟩

/-- R23, R26: another lawful entry in the tail's place. -/
theorem QueueFits.replaceLast {n : Nat} {q : List Entry} {e : Entry} (h : QueueFits n q) (he : e.lawful n = true) :
    QueueFits n (q.dropLast ++ [e]) := by
  refine ⟨?_, fun x hx => ?_⟩
  · have := h.1
    simp only [List.length_append, List.length_dropLast, List.length_singleton]
    omega
  · rcases List.mem_append.mp hx with hx | hx
    · exact h.dropLast.2 x hx
    · rwa [List.mem_singleton.mp hx]

theorem stepEntry_lawful {n : Nat} (src : Source) {k : Int} (h : k ≠ 0 ∧ k.natAbs ≤ 9) :
    (stepEntry src k).lawful n = true := by simpa [stepEntry, Entry.lawful] using h

theorem mergeCount_range {j k : Int} (h : sameSign j k = true) (hk : k ≠ 0) :
    mergeCount j k ≠ 0 ∧ (mergeCount j k).natAbs ≤ 9 := by
  have sign : 0 < j ↔ 0 < k := by simpa [sameSign, beq_iff_eq, decide_eq_decide] using h
  simp only [mergeCount, clampInt]
  split
  · omega
  · split <;> omega

/-- R23 to R25: a STEP taken into the queue leaves it lawful. -/
theorem queueStep_fits {n : Nat} {q q' : List Entry} {src : Source} {k : Int} (h : QueueFits n q)
    (hk : k ≠ 0 ∧ k.natAbs ≤ 9) (hq : queueStep q src k = some q') : QueueFits n q' := by
  unfold queueStep at hq
  split at hq
  · exact h.append (stepEntry_lawful src hk) hq
  · rename_i tail htail
    have lawful := h.2 tail (List.mem_of_getLast? htail)
    split at hq
    · exact h.append (stepEntry_lawful src hk) hq
    · rename_i j hj
      have hj : j ≠ 0 ∧ j.natAbs ≤ 9 := by simpa [Entry.lawful, hj] using lawful
      split at hq
      · rename_i same
        split at hq
        · cases hq
          exact h.replaceLast (by simpa [Entry.lawful] using mergeCount_range same hk.1)
        · exact h.append (stepEntry_lawful src hk) hq
      · rename_i other
        have sign : ¬(0 < j ↔ 0 < k) := by simpa [sameSign, beq_iff_eq, decide_eq_decide] using other
        split at hq
        · cases hq
          exact h.dropLast
        · split at hq
          · cases hq
            exact h.replaceLast (by simp only [Entry.lawful, Bool.and_eq_true, bne_iff_ne, decide_eq_true_eq]; omega)
          · cases hq
            exact h.replaceLast (stepEntry_lawful src (by omega))

/-- R31: a lawful queue set while homed, and its head taken in SHOWING. -/
theorem enqueue_cycleLaw {q : List Entry} {s : State} (h : CycleLaw s) (hh : s.changer.homed = true)
    (hq : QueueFits s.changer.size q) : CycleLaw (enqueue q s) :=
  pump_cycleLaw {
    homed := h.homed
    record := h.record
    current := h.current
    target := h.target
    queue := ⟨hq.1, hq.2, fun e => by simp [hh] at e⟩
    motion := h.motion
    lifter := h.lifter
    drive := h.drive }

theorem refuseUnhomed_cycleLaw (src : Source) {s : State} (h : CycleLaw s) : CycleLaw (refuseUnhomed src s).1 := by
  simp only [refuseUnhomed, turnedAway_state]
  split
  · exact h.startHoming src (.inl ‹_›)
  · exact h

theorem offerStep_cycleLaw (src : Source) (k : Int) {s : State} (h : CycleLaw s) : CycleLaw (offerStep src k s).1 := by
  unfold offerStep
  split
  · exact h
  · rename_i hk
    split
    · exact h
    · split
      · exact refuseUnhomed_cycleLaw src h
      · rename_i hh
        have hh : s.changer.homed = true := by simpa using hh
        split
        · exact h
        · rename_i hq
          exact enqueue_cycleLaw h hh (queueStep_fits (h.ready hh).queue (by omega) hq)

theorem queueGoto_cycleLaw {e : Entry} {s : State} (h : CycleLaw s) (hh : s.changer.homed = true)
    (he : e.lawful s.changer.size = true) : CycleLaw (queueGoto e s) := by
  have fits := (h.ready hh).queue
  unfold queueGoto
  split
  · rename_i hq
    exact enqueue_cycleLaw h hh (fits.append he hq)
  · split
    · exact enqueue_cycleLaw h hh (fits.replaceLast he)
    · exact enqueue_cycleLaw (cycleLaw_readsOnly s _ (by simp [Block.same]) h) (by simpa using hh)
        (by simpa using fits.replaceLast he)

theorem offerGoto_cycleLaw (src : Source) (lb : Bool) (n : Nat) {s : State} (h : CycleLaw s) :
    CycleLaw (offerGoto src lb n s).1 := by
  unfold offerGoto
  split
  · exact h
  · split
    · exact h
    · split
      · exact h
      · split
        · exact refuseUnhomed_cycleLaw src h
        · refine queueGoto_cycleLaw h (by simpa using ‹¬s.changer.homed = false›) ?_
          simp only [Entry.lawful, Bool.and_eq_true, decide_eq_true_eq]
          omega

theorem setHold_cycleLaw (held : Bool) {s : State} (h : CycleLaw s) : CycleLaw (setHold held s) :=
  h.of_view rfl rfl (fun _ => id)

/-! ### Dwell expiry (R43, R45) -/

theorem autoStep_cycleLaw {s : State} (h : CycleLaw s) : CycleLaw (autoStep s) := by
  unfold autoStep
  split
  · exact cycleLaw_readsOnly _ _ (by simp [Block.same]) (setHold_cycleLaw true h)
  · exact offerStep_cycleLaw _ _ h

theorem expireDwell_cycleLaw {s : State} (h : CycleLaw s) : CycleLaw (expireDwell s) := by
  have due : CycleLaw (s.onChanger fun c => { c with dwellDue := false }) := h.of_view rfl rfl (fun _ => id)
  simp only [expireDwell]
  split
  · unfold loopBack
    split
    · exact autoStep_cycleLaw (due.of_view rfl rfl (fun _ => id))
    · exact offerGoto_cycleLaw _ _ _ (due.of_view rfl rfl (fun _ => id))
  · exact autoStep_cycleLaw due

end Sys2Proof.Machine
end

section
/-! PROOFS. Every step keeps the law of the change cycle (O55): the events of the drive and the gate, the requests on the
Changer, the resets, and every command together. -/

namespace Sys2Proof.Machine

/-! ### The drive's events -/

/-- R53 step 2: the test of the window brakes a drive toward the target and does nothing else. -/
theorem Drive.testWindow_cases (n : Nat) (d : Drive) :
    d.testWindow n = d ∨ d.bridge.drives = true ∧ d.backingOff = false ∧ d.testWindow n = d.brake .window := by
  unfold Drive.testWindow
  split
  · rename_i h
    simp only [Bool.and_eq_true, Bool.not_eq_true'] at h
    exact .inr ⟨h.1.1, h.1.2, rfl⟩
  · exact .inl rfl

/-- R52 to R54: a drive in progress is braked, with something to follow and no back-off left. -/
theorem CycleLaw.brake {s t : State} (h : CycleLaw s) (hdr : s.drive.bridge.drives = true)
    (hc : t.changer.cycleView = s.changer.cycleView) (hm : t.drive.motion = s.drive.motion)
    (hb : t.drive.bridge = .brake) (hback : t.drive.backingOff = false) (hl : t.drive.lifterDrive = s.drive.lifterDrive)
    (htimer : t.drive.lifterTimer = s.drive.lifterTimer) : CycleLaw t := by
  have turns := h.motion.2.2.2.1 hdr
  obtain ⟨off, none⟩ := h.lifter_off_of_turns turns
  refine h.of_changer_eq hc (driveLaws_of_brake ?_ (hm ▸ turns) hb hback (hl.trans off) (htimer.trans none))
  simp only [Changer.cycleView, Prod.mk.injEq] at hc
  obtain ⟨-, hhomed, -, hstate, -, -⟩ := hc
  simpa only [Motion.fits, hm, hhomed, hstate] using h.fits

/-- R53: the window is tested after a change of the counter or the tallies alone. -/
theorem CycleLaw.testWindow {s : State} (h : CycleLaw s) (n : Nat) {d : Drive}
    (hd : d.cycleView = s.drive.cycleView) (hf : d.focus = s.drive.focus) (htimer : d.lifterTimer = s.drive.lifterTimer) :
    CycleLaw (s.onDrive fun _ => d.testWindow n) := by
  have hv := hd
  simp only [Drive.cycleView, Prod.mk.injEq] at hv
  obtain ⟨hmotion, hbridge, -, hback, hlift, -, -⟩ := hv
  rcases d.testWindow_cases n with e | ⟨hdr, hb, e⟩
  · exact h.of_view rfl (by simpa [e] using hd) (fun _ hs => by simpa [e, hf] using hs)
  · exact h.brake (hbridge ▸ hdr) rfl (by simpa [e] using hmotion) (by simp [e]) (by simp [e, hb]) (by simpa [e] using hlift)
      (by simpa [e] using htimer)

theorem execEncoderCount_cycleLaw {s t : State} (h : execEncoderCount s = .next t) (hs : CycleLaw s) : CycleLaw t := by
  unfold execEncoderCount at h
  split at h
  · cases h
    exact hs
  · cases h
    exact hs.testWindow _ (d := s.drive.count s.changer.size) rfl rfl rfl

theorem indexHomed_cycleLaw {s : State} (h : CycleLaw s) : CycleLaw (indexHomed s) := by
  simp only [indexHomed]
  split
  · exact h
  · exact cycleLaw_readsOnly _ _ (by simp [Block.same])
      (h.testWindow s.changer.size (d := { s.drive with position := 0 }) rfl rfl rfl)

theorem execIndexPass_cycleLaw {s t : State} (h : execIndexPass s = .next t) (hs : CycleLaw s) : CycleLaw t := by
  have counted : CycleLaw (s.onDrive fun d => { d with revolutions := satAdd 65535 d.revolutions 1 }) :=
    hs.of_view rfl rfl (fun _ => id)
  simp only [execIndexPass] at h
  split at h
  · cases h
    exact hs
  · split at h
    · cases h
      exact indexHomed_cycleLaw counted
    · split at h
      · rename_i hseek
        cases h
        exact indexSeen_cycleLaw counted hseek.1 hseek.2.1
      · cases h
        exact counted

/-- R54, R55: a stall in a motion that turns the tray, its bridge driving or just released. -/
theorem stall_cycleLaw {s : State} (h : CycleLaw s) (ht : s.drive.motion.turnsTray = true) : CycleLaw (stall s) := by
  obtain ⟨off, none⟩ := h.lifter_off_of_turns ht
  unfold stall
  split
  · exact h.of_changer_eq rfl (driveLaws_of_brake h.fits ht rfl rfl off none)
  · refine jam_cycleLaw _ (h.tray_of_state fun e => ?_) (fun _ => rfl)
    have := h.motion_none (by simp [e]) (by simp [e])
    simp [this, Motion.turnsTray] at ht

theorem execStallWatchdogExpiry_cycleLaw {s t : State} (h : execStallWatchdogExpiry s = .next t) (hs : CycleLaw s) :
    CycleLaw t := by
  unfold execStallWatchdogExpiry at h
  split at h
  · rename_i hdr
    cases h
    exact stall_cycleLaw hs (hs.motion.2.2.2.1 hdr.1)
  · cases h
    exact hs

theorem execBackOffComplete_cycleLaw {s t : State} (h : execBackOffComplete s = .next t) (hs : CycleLaw s) :
    CycleLaw t := by
  unfold execBackOffComplete at h
  split at h
  · rename_i hdr
    cases h
    exact hs.brake hdr.2.2 rfl rfl rfl rfl rfl rfl
  · cases h
    exact hs

theorem execNoIndexBudgetExhausted_cycleLaw {s t : State} (h : execNoIndexBudgetExhausted s = .next t)
    (hs : CycleLaw s) : CycleLaw t := by
  unfold execNoIndexBudgetExhausted at h
  split at h
  · rename_i hm
    cases h
    exact jam_cycleLaw _ (hs.tray_of_state (by simp [(hs.fits.2.1 (.inr hm.1)).1])) hs.after_brake
  · cases h
    exact hs

/-- R52: after the release the drive stands still, and the law with it. -/
theorem CycleLaw.release {s : State} (h : CycleLaw s) (hb : s.drive.bridge = .brake) :
    CycleLaw (s.onDrive Drive.release) := by
  have back : s.drive.backingOff = false := by
    have := h.motion.2.2.2.2.2
    simpa [hb, Bridge.drives] using this
  obtain ⟨hturn, hseek, hcentre⟩ := h.fits
  exact h.of_changer_eq rfl {
    motion := ⟨hturn, hseek, hcentre, by simp [Bridge.drives], by simp, by simp [back]⟩
    lifter := ⟨h.lifter.1, h.lifter.2.1, h.lifter.2.2.1, by simp [Bridge.drives]⟩
    drive := by simp [DriveLaw, Bridge.drives] }

/-- R53, R54: a drive begun by the bridge's own order in a motion that turns the tray, with the lifter UP. -/
theorem CycleLaw.energize {s : State} (h : CycleLaw s) (ht : s.drive.motion.turnsTray = true)
    (hup : s.drive.lifter = .up) (dir : Dir) {d : Drive} (hm : d.motion = s.drive.motion)
    (hl : d.lifterDrive = s.drive.lifterDrive) (htimer : d.lifterTimer = s.drive.lifterTimer)
    (hsw : d.lifter = s.drive.lifter) : CycleLaw (s.onDrive fun _ => d.energize dir) := by
  obtain ⟨off, none⟩ := h.lifter_off_of_turns ht
  exact h.of_changer_eq rfl
    (driveLaws_of_energize rfl (hm ▸ h.fits) (hm ▸ ht) (hsw.trans hup) (hl.trans off) (htimer.trans none))

theorem windowMiss_cycleLaw {s : State} (h : CycleLaw s) (ht : s.drive.motion.turnsTray = true)
    (hup : s.drive.lifter = .up) : CycleLaw (windowMiss s) := by
  unfold windowMiss
  split
  · exact h.energize ht hup _ (d := { s.drive with corrections := s.drive.corrections + 1 }) rfl rfl rfl rfl
  · exact stall_cycleLaw h ht

/-- R53: the motion of a drive that stands still ends, and the drive rests. -/
theorem Drive.endRotation_rests {d : Drive} (hb : d.bridge.drives = false) (ha : d.afterBrake = .off)
    (hl : d.lifterDrive = .off) (ht : d.lifterTimer = none) : d.endRotation.Rests where
  bridge := hb
  after := ha
  backing := rfl
  lifter := hl
  timer := ht
  motion := rfl

/-- R53 step 3, R56: the window test of a brake that has ended with the lifter UP. -/
theorem windowBrakeEnd_cycleLaw {s : State} (h : CycleLaw s) (ht : s.drive.motion.turnsTray = true)
    (hup : s.drive.lifter = .up) (hb : s.drive.bridge.drives = false) (ha : s.drive.afterBrake = .off) :
    CycleLaw (windowBrakeEnd s) := by
  obtain ⟨off, none⟩ := h.lifter_off_of_turns ht
  have rests := Drive.endRotation_rests hb ha off none
  unfold windowBrakeEnd
  split
  · rename_i dir c hm
    have hs := h.fits.1 dir c hm
    have hf : s.changer.state.inFlight = true := by simp [hs, ChangerState.inFlight]
    have hh := h.homed_of_inFlight hf (by simp [hs])
    split
    · exact windowReached_cycleLaw (h.ready hh) (h.aimed hf hh) rests
    · exact windowMiss_cycleLaw h ht hup
  · rename_i hm
    obtain ⟨hs, hh⟩ := h.fits.2.2 hm
    have hf : s.changer.state.inFlight = true := by simp [hs, ChangerState.inFlight]
    split
    · exact enterDropping_cycleLaw (h.ready hh) (h.aimed hf hh) rests
    · exact windowMiss_cycleLaw h ht hup
  all_goals exact h

theorem brakeEnd_cycleLaw {s : State} (h : CycleLaw s) (hb : s.drive.bridge = .brake) : CycleLaw (brakeEnd s) := by
  have released := h.release hb
  simp only [brakeEnd]
  split
  · exact released
  · rename_i ha
    have ht : s.drive.motion.turnsTray = true := (h.motion.2.2.2.2.1 ha).2
    split
    · refine jam_cycleLaw _ (h.tray_of_state fun e => ?_) (by simp)
      have := h.motion_none (by simp [e]) (by simp [e])
      simp [this, Motion.turnsTray] at ht
    · rename_i hup
      have hup : (s.onDrive Drive.release).drive.lifter = .up := not_not.mp hup
      cases s.drive.afterBrake with
      | off => exact released
      | window => exact windowBrakeEnd_cycleLaw released ht hup rfl rfl
      | backOff =>
        exact released.energize ht hup _ (d := { s.drive.release with backingOff := true, backTally := 0 }) rfl rfl rfl rfl
      | resume => exact released.energize ht hup _ (d := { s.drive.release with corrections := 0 }) rfl rfl rfl rfl
      | drive dir => exact released.energize ht hup dir (d := s.drive.release) rfl rfl rfl rfl

theorem execBrakeEnd_cycleLaw {s t : State} (h : execBrakeEnd s = .next t) (hs : CycleLaw s) : CycleLaw t := by
  unfold execBrakeEnd at h
  split at h
  · cases h
    exact brakeEnd_cycleLaw hs ‹_›
  · cases h
    exact hs

/-! ### The lifter's events -/

/-- R59: the lifter is at UP in a lift: the drive stands still from then on. -/
theorem upReached_cycleLaw {s : State} (h : CycleLaw s) (hl : s.drive.lifterDrive = .upward) :
    CycleLaw (upReached s) := by
  have turns : s.drive.motion.turnsTray = false := by
    by_contra ht
    simp [(h.lifter_off_of_turns (by simpa using ht)).1] at hl
  obtain ⟨-, -, -, hdrives, hafter, hback⟩ := h.motion
  have undriven : s.drive.bridge.drives = false := by simpa [turns] using hdrives
  have still : Drive.Still { s.drive with swUp := true, swDown := false, lifterDrive := .off, lifterTimer := none } :=
    { bridge := undriven
      after := by simpa [turns] using hafter
      backing := by simpa [undriven] using hback
      lifter := rfl
      timer := rfl }
  simp only [upReached]
  split
  · rename_i hm
    obtain ⟨hs, hh⟩ := h.fits.2.1 (.inl hm)
    exact h.of_changer_eq rfl (startSeek_driveLaws hs hh rfl still)
  · split
    · have hs : s.changer.state = .lifting := ‹_›
      have hm := h.motion_none (by simp [hs]) (by simp [hs])
      have hf : s.changer.state.inFlight = true := by simp [hs, ChangerState.inFlight]
      have hh := h.homed_of_inFlight hf (by simp [hs])
      exact enterRotating_cycleLaw (h.ready hh) (h.aimed hf hh) { still with motion := hm }
    · exact h.of_changer_eq rfl (driveLaws_of_still h.fits still)

/-- R60: the lifter is at DOWN in a drop. -/
theorem downReached_cycleLaw {s : State} (h : CycleLaw s) (hl : s.drive.lifterDrive = .downward) :
    CycleLaw (downReached s) := by
  have hs := h.lifter.2.1 hl
  have hm := h.motion_none (by simp [hs]) (by simp [hs])
  have hf : s.changer.state.inFlight = true := by simp [hs, ChangerState.inFlight]
  have hh := h.homed_of_inFlight hf (by simp [hs])
  obtain ⟨-, -, -, hdrives, hafter, hback⟩ := h.motion
  have undriven : s.drive.bridge.drives = false := by simpa [hm, Motion.turnsTray] using hdrives
  simp only [downReached, State.onDrive_changer, hs, if_true]
  refine enterSettling_cycleLaw (h.ready hh) (h.aimed hf hh) ?_
  exact { bridge := undriven
          after := by simpa [hm, Motion.turnsTray] using hafter
          backing := by simpa [undriven] using hback
          lifter := rfl
          timer := rfl
          motion := hm }

theorem execLiftDone_cycleLaw {s t : State} (h : execLiftDone s = .next t) (hs : CycleLaw s) : CycleLaw t := by
  cases h
  split
  · exact upReached_cycleLaw hs ‹_›
  · exact hs

theorem execDropDone_cycleLaw {s t : State} (h : execDropDone s = .next t) (hs : CycleLaw s) : CycleLaw t := by
  cases h
  split
  · exact downReached_cycleLaw hs ‹_›
  · exact hs

/-- R58: a lifter that is driven has a tray on. -/
theorem CycleLaw.tray_of_lifter {s : State} (h : CycleLaw s) (hl : s.drive.lifterDrive ≠ .off) :
    s.changer.tray ≠ none :=
  h.tray_of_state fun e => hl (h.rests (by simp [e])).lifter

theorem execLifterTimeout_cycleLaw {s t : State} (h : execLifterTimeout s = .next t) (hs : CycleLaw s) :
    CycleLaw t := by
  unfold execLifterTimeout at h
  split at h
  · rename_i ht
    cases h
    exact jam_cycleLaw _ (hs.tray_of_lifter (hs.lifter.2.2.1 ht.1)) hs.after_brake
  · cases h
    exact hs

/-- R52, R58: the end switches may change in any way that leaves a driving bridge's lifter at UP. -/
theorem CycleLaw.switches {s : State} (h : CycleLaw s) (up down : Bool)
    (hup : s.drive.bridge.drives = true → Drive.lifter { s.drive with swUp := up, swDown := down } = .up) :
    CycleLaw (s.onDrive fun d => { d with swUp := up, swDown := down }) :=
  h.of_changer_eq rfl ⟨h.motion, h.lifter, fun hdr => ⟨hup hdr, (h.drive hdr).2⟩⟩

theorem execLifterSwitchChange_cycleLaw {up down : Bool} {s t : State} (h : execLifterSwitchChange up down s = .next t)
    (hs : CycleLaw s) : CycleLaw t := by
  simp only [execLifterSwitchChange] at h
  split at h
  · rename_i hjam
    cases h
    refine jam_cycleLaw _ (hs.tray_of_state fun e => ?_) hs.after_brake
    exact hjam.2.2.1 (hs.motion_none (by simp [e]) (by simp [e]))
  · rename_i hstays
    have switched : CycleLaw (s.onDrive fun d => { d with swUp := up, swDown := down }) := by
      refine hs.switches up down fun hdr => ?_
      have turns := hs.motion.2.2.2.1 hdr
      by_contra hdown
      refine hstays ⟨by simp [(hs.drive hdr).1], hdown, fun hm => ?_, fun hb => ?_⟩
      · have hm : s.drive.motion = .none := hm
        simp [hm, Motion.turnsTray] at turns
      · have hb : s.drive.bridge = .off := hb
        simp [hb, Bridge.drives] at hdr
    split at h
    · cases h
      exact upReached_cycleLaw switched (by simp_all)
    · split at h
      · cases h
        exact downReached_cycleLaw switched (by simp_all)
      · cases h
        exact switched

/-! ### The gate, the focus motor and time -/

theorem execGateStateChange_cycleLaw {occupied : Bool} {s t : State} (h : execGateStateChange occupied s = .next t)
    (hs : CycleLaw s) : CycleLaw t := by
  have gated : CycleLaw (s.onDrive fun d => { d with gate := occupied }) := hs.of_view rfl rfl (fun _ => id)
  simp only [execGateStateChange] at h
  split at h
  · cases h
    exact hs
  · split at h
    · cases h
      refine gated.of_view ?_ (by simp) (by simp)
      simp only [gateInShowing, raise_frame]
      split <;> simp [Changer.cycleView]
    · cases h
      exact gated

/-- The focus motor does not matter to the law while the bridge does not drive, and stands still while it does. -/
theorem CycleLaw.focus {s : State} (h : CycleLaw s) (f : Drive → Drive) (hv : (f s.drive).cycleView = s.drive.cycleView)
    (hf : s.drive.bridge.drives = true → s.drive.focus = .stopped → (f s.drive).focus = .stopped) :
    CycleLaw (s.onDrive f) := h.of_view rfl hv hf

theorem Drive.runFocus_view (dir : FocusDir) (run : FocusRun) (d : Drive) : (d.runFocus dir run).cycleView = d.cycleView := by
  unfold Drive.runFocus
  (repeat' split) <;> rfl

theorem focusKey_cycleLaw (dir : FocusDir) {s : State} (h : CycleLaw s) : CycleLaw (s.onDrive (Drive.focusKey dir)) := by
  refine h.focus _ ?_ fun hdr hstop => ?_
  · unfold Drive.focusKey
    split
    · rfl
    · exact Drive.runFocus_view _ _ _
  · have moving : s.drive.trayMotion = true := by
      simp only [Drive.trayMotion, Bool.or_eq_true, bne_iff_ne]
      exact .inr fun hb => by simp [hb, Bridge.drives] at hdr
    simpa [Drive.focusKey, moving] using hstop

theorem execFocus_cycleLaw {dir ticks : Nat} {s t : State} (h : execFocus dir ticks s = .next t) (hs : CycleLaw s) :
    CycleLaw t := by
  unfold execFocus at h
  refine cycleLaw_readsOnly.hostRequest_keeps h hs ?_
  split
  · exact hs
  · split
    · exact hs
    · split
      · exact hs
      · rename_i still
        refine hs.focus _ ?_ fun hdr => ?_
        · unfold Drive.focusHost
          split
          · rfl
          · exact Drive.runFocus_view _ _ _
        · have hb : s.drive.bridge = .off := by
            simp only [Drive.trayMotion, Bool.or_eq_true, bne_iff_ne, not_or, not_not] at still
            exact still.2
          simp [hb, Bridge.drives] at hdr

theorem execFocusStopTimerExpiry_cycleLaw {s t : State} (h : execFocusStopTimerExpiry s = .next t) (hs : CycleLaw s) :
    CycleLaw t := by
  unfold execFocusStopTimerExpiry at h
  (repeat' split at h) <;> cases h
  · exact hs.focus _ rfl fun _ _ => rfl
  all_goals exact hs

theorem execFocusDurationEnd_cycleLaw {s t : State} (h : execFocusDurationEnd s = .next t) (hs : CycleLaw s) :
    CycleLaw t := by
  unfold execFocusDurationEnd at h
  (repeat' split at h) <;> cases h
  · exact hs.focus _ rfl fun _ _ => rfl
  all_goals exact hs

theorem execFocusPauseEnd_cycleLaw {s t : State} (h : execFocusPauseEnd s = .next t) (hs : CycleLaw s) :
    CycleLaw t := by
  cases h
  refine hs.focus _ ?_ fun _ hstop => ?_
  · unfold Drive.endPause
    (repeat' split) <;> rfl
  · simp [Drive.endPause, hstop]

theorem execFocusEndSwitch_cycleLaw {dir : FocusDir} {closed : Bool} {s t : State}
    (h : execFocusEndSwitch dir closed s = .next t) (hs : CycleLaw s) : CycleLaw t := by
  cases h
  refine hs.focus _ ?_ fun _ hstop => ?_
  · cases dir <;> simp only [Drive.endSwitch] <;> (repeat' split) <;> rfl
  · cases dir <;> simp [Drive.endSwitch, hstop]

theorem passMs_cycleLaw {s : State} (h : CycleLaw s) : CycleLaw (passMs s) := by
  refine h.of_view rfl ?_ (fun _ => id)
  simp [passMs, Drive.passMs, Drive.cycleView, countDown, Drive.lifter]

/-! ### The ends of the phases -/

theorem execFadeOutEnd_cycleLaw {s t : State} (h : execFadeOutEnd s = .next t) (hs : CycleLaw s) : CycleLaw t := by
  unfold execFadeOutEnd at h
  split at h
  · rename_i hst
    cases h
    have hf : s.changer.state.inFlight = true := by simp [hst.1, ChangerState.inFlight]
    have hh := hs.homed_of_inFlight hf (by simp [hst.1])
    exact enterLifting_cycleLaw (hs.ready hh) (hs.aimed hf hh) (hs.rests (by simp [hst.1]))
  · cases h
    exact hs

theorem execFadeInEnd_cycleLaw {s t : State} (h : execFadeInEnd s = .next t) (hs : CycleLaw s) : CycleLaw t := by
  unfold execFadeInEnd at h
  split at h
  · rename_i hst
    cases h
    have hh := hs.homed_of_inFlight (by simp [hst.1, ChangerState.inFlight]) (by simp [hst.1])
    exact enterShowing_cycleLaw (hs.ready hh) (hs.rests (by simp [hst.1]))
  · cases h
    exact hs

theorem execSettleEnd_cycleLaw {s t : State} (h : execSettleEnd s = .next t) (hs : CycleLaw s) : CycleLaw t := by
  unfold execSettleEnd at h
  split at h
  · rename_i hst
    cases h
    have hf : s.changer.state.inFlight = true := by simp [hst.1, ChangerState.inFlight]
    have hh := hs.homed_of_inFlight hf (by simp [hst.1])
    have hd := hs.rests (by simp [hst.1])
    exact settleEnd_cycleLaw (hs.ready hh) (hs.aimed hf hh)
      { bridge := hd.bridge, after := hd.after, backing := hd.backing, lifter := hd.lifter, timer := hd.timer
        motion := hd.motion }
  · cases h
    exact hs

theorem execDwellTenth_cycleLaw {s t : State} (h : execDwellTenth s = .next t) (hs : CycleLaw s) : CycleLaw t := by
  unfold execDwellTenth at h
  split at h
  · cases h
    refine hs.of_view ?_ rfl (fun _ => id)
    simp only [State.onChanger_changer, Changer.countDwell]
    split <;> rfl
  · cases h
    exact hs

theorem execDwellExpiry_cycleLaw {s t : State} (h : execDwellExpiry s = .next t) (hs : CycleLaw s) : CycleLaw t := by
  unfold execDwellExpiry at h
  split at h
  · cases h
    exact expireDwell_cycleLaw hs
  · cases h
    exact hs

/-! ### The tray and the resets -/

theorem execTrayRemoval_cycleLaw {s t : State} (h : execTrayRemoval s = .next t) (hs : CycleLaw s) : CycleLaw t := by
  simp only [execTrayRemoval] at h
  split at h
  · cases h
    exact hs
  · cases h
    refine cycleLaw_of_lost ?_ (by simpa using Drive.trayRemoved_rests hs.after_brake)
    exact { homed := by simp [Changer.trayRemoved], current := by simp [Changer.trayRemoved]
            queue := by simp [Changer.trayRemoved], change := by simp, state := by simp [Changer.trayRemoved] }

theorem execTrayInsertion_cycleLaw {lugs : BitVec 2} {s t : State} (h : execTrayInsertion lugs s = .next t)
    (hs : CycleLaw s) : CycleLaw t := by
  simp only [execTrayInsertion] at h
  split at h
  · rename_i ht
    cases h
    have hst := hs.homed.1.mpr ht
    have hh := hs.homed.2.1 (.inl hst)
    have hd := hs.rests (by simp [hst])
    refine cycleLaw_of_lost ?_ ?_
    · exact { homed := by simp [Changer.trayInserted], current := by simp [Changer.trayInserted]
              queue := by simpa [Changer.trayInserted] using hs.queue.2.2 hh
              change := by simpa [Changer.trayInserted, RecordLaw, hst, ChangerState.inFlight] using hs.record
              state := by simp [Changer.trayInserted] }
    · simp only [raise_frame, State.onChanger_drive, State.onDrive_drive]
      exact { bridge := hd.bridge, after := hd.after, backing := hd.backing, lifter := hd.lifter, timer := hd.timer
              motion := hd.motion }
  · cases h
    exact hs

theorem Changer.stopped_lost (c : Changer) : c.stopped.Lost where
  homed := rfl
  current := rfl
  queue := rfl
  change := rfl
  state := .inl ⟨rfl, rfl⟩

@[simp] theorem resetRequest_changer (s : State) : (resetRequest s).changer = s.changer.resetRequest := by
  simp [resetRequest, resetBlocks]

@[simp] theorem resetRequest_drive (s : State) : (resetRequest s).drive = s.drive.atReset := by
  simp [resetRequest, resetBlocks]

theorem execReset_cycleLaw {s t : State} (h : execReset s = .next t) (hs : CycleLaw s) : CycleLaw t := by
  unfold execReset at h
  refine cycleLaw_readsOnly.hostRequest_keeps h hs (cycleLaw_of_lost ?_ ?_)
  · simpa [Changer.resetRequest] using Changer.stopped_lost _
  · simpa using Drive.atReset_rests hs.after_brake

theorem powerOn_cycleLaw (s : State) : CycleLaw (powerOn s) :=
  cycleLaw_of_lost { homed := rfl, current := rfl, queue := rfl, change := rfl, state := .inl ⟨rfl, rfl⟩ }
    (Drive.powerOn_rests _)

/-! ### Every command -/

theorem flush_cycleLaw {s : State} (h : CycleLaw s) : CycleLaw (s.onChanger fun c => { c with queue := [] }) where
  homed := h.homed
  record := h.record
  current := h.current
  target := h.target
  queue := by simp [QueueLaw]
  motion := h.motion
  lifter := h.lifter
  drive := h.drive

theorem cycleLaw_keptByOffers : KeptByOffers CycleLaw :=
  .of_changer_drive cycleLaw_readsOnly (fun src k _ => offerStep_cycleLaw src k) (fun src lb n _ => offerGoto_cycleLaw src lb n)
    (fun held _ => setHold_cycleLaw held) (fun dir _ => focusKey_cycleLaw dir)

/-- R4, R5: a change of slot records over a range leaves what the law reads. -/
theorem cycleLaw_mapSlots (first last : Nat) (f : SlotRecord → SlotRecord) {s : State} (h : CycleLaw s) :
    CycleLaw (s.onChanger fun c => c.mapSlots first last f) :=
  h.of_view (by simp [Changer.cycleView, Changer.mapSlots]) (by simp) (by simp)

theorem execWriteSlot_cycleLaw {slot : Nat} {set : FieldSet} {v : SlotValues} {s t : State}
    (h : execWriteSlot slot set v s = .next t) (hs : CycleLaw s) : CycleLaw t := by
  unfold execWriteSlot at h
  refine cycleLaw_readsOnly.hostRequest_keeps h hs ?_
  split
  · exact hs
  · exact hs.of_view (by simp [Changer.cycleView]) rfl (fun _ => id)

theorem execLoadSlots_cycleLaw {first last : Nat} {set : FieldSet} {v : SlotValues} {s t : State}
    (h : execLoadSlots first last set v s = .next t) (hs : CycleLaw s) : CycleLaw t := by
  unfold execLoadSlots at h
  refine cycleLaw_readsOnly.hostRequest_keeps h hs ?_
  split
  · exact hs
  · exact cycleLaw_mapSlots _ _ _ hs

theorem execRetireSlot_cycleLaw {first last : Nat} {s t : State} (h : execRetireSlot first last s = .next t)
    (hs : CycleLaw s) : CycleLaw t := by
  unfold execRetireSlot at h
  refine cycleLaw_readsOnly.hostRequest_keeps h hs ?_
  split
  · exact cycleLaw_mapSlots _ _ _ hs
  · exact hs

theorem execSetOptions_cycleLaw {e b w : Option Nat} {s t : State} (h : execSetOptions e b w s = .next t)
    (hs : CycleLaw s) : CycleLaw t := by
  unfold execSetOptions at h
  refine cycleLaw_readsOnly.hostRequest_keeps h hs ?_
  split
  · exact hs
  · split
    · exact hs.of_view rfl rfl (fun _ => id)
    · exact hs

theorem execStep_cycleLaw {k : Int} {s t : State} (h : execStep k s = .next t) (hs : CycleLaw s) : CycleLaw t := by
  unfold execStep at h
  exact cycleLaw_readsOnly.hostRequest_keeps h hs (offerStep_cycleLaw _ _ hs)

theorem execGoto_cycleLaw {n : Nat} {s t : State} (h : execGoto n s = .next t) (hs : CycleLaw s) : CycleLaw t := by
  unfold execGoto at h
  exact cycleLaw_readsOnly.hostRequest_keeps h hs (offerGoto_cycleLaw _ _ _ hs)

theorem execHome_cycleLaw {s t : State} (h : execHome s = .next t) (hs : CycleLaw s) : CycleLaw t := by
  unfold execHome at h
  exact cycleLaw_readsOnly.hostRequest_keeps h hs (offerHome_cycleLaw hs)

theorem execHold_cycleLaw {s t : State} (h : execHold s = .next t) (hs : CycleLaw s) : CycleLaw t := by
  unfold execHold at h
  exact cycleLaw_readsOnly.hostRequest_keeps h hs (setHold_cycleLaw _ hs)

theorem execResume_cycleLaw {s t : State} (h : execResume s = .next t) (hs : CycleLaw s) : CycleLaw t := by
  unfold execResume at h
  exact cycleLaw_readsOnly.hostRequest_keeps h hs (setHold_cycleLaw _ hs)

theorem execFlush_cycleLaw {s t : State} (h : execFlush s = .next t) (hs : CycleLaw s) : CycleLaw t := by
  unfold execFlush at h
  exact cycleLaw_readsOnly.hostRequest_keeps h hs (flush_cycleLaw hs)

theorem exec_cycleLaw {c : Instr} {s t : State} (h : exec c s = .next t) (hs : CycleLaw s) : CycleLaw t := by
  have offers := cycleLaw_keptByOffers
  cases c with
  | writeSlot slot set v => exact execWriteSlot_cycleLaw h hs
  | loadSlots first last set v => exact execLoadSlots_cycleLaw h hs
  | retireSlot first last => exact execRetireSlot_cycleLaw h hs
  | setOptions e b w => exact execSetOptions_cycleLaw h hs
  | step k => exact execStep_cycleLaw h hs
  | goto n => exact execGoto_cycleLaw h hs
  | home => exact execHome_cycleLaw h hs
  | hold => exact execHold_cycleLaw h hs
  | resume => exact execResume_cycleLaw h hs
  | flush => exact execFlush_cycleLaw h hs
  | focus dir ticks => exact execFocus_cycleLaw h hs
  | reset => exact execReset_cycleLaw h hs
  | powerOnReset =>
    cases h
    exact powerOn_cycleLaw s
  | trayRemoval => exact execTrayRemoval_cycleLaw h hs
  | trayInsertion lugs => exact execTrayInsertion_cycleLaw h hs
  | gateStateChange occupied => exact execGateStateChange_cycleLaw h hs
  | encoderCount => exact execEncoderCount_cycleLaw h hs
  | backOffComplete => exact execBackOffComplete_cycleLaw h hs
  | noIndexBudgetExhausted => exact execNoIndexBudgetExhausted_cycleLaw h hs
  | indexPass => exact execIndexPass_cycleLaw h hs
  | stallWatchdogExpiry => exact execStallWatchdogExpiry_cycleLaw h hs
  | brakeEnd => exact execBrakeEnd_cycleLaw h hs
  | liftDone => exact execLiftDone_cycleLaw h hs
  | dropDone => exact execDropDone_cycleLaw h hs
  | lifterTimeout => exact execLifterTimeout_cycleLaw h hs
  | lifterSwitchChange up down => exact execLifterSwitchChange_cycleLaw h hs
  | settleEnd => exact execSettleEnd_cycleLaw h hs
  | fadeOutEnd => exact execFadeOutEnd_cycleLaw h hs
  | fadeInEnd => exact execFadeInEnd_cycleLaw h hs
  | dwellTenth => exact execDwellTenth_cycleLaw h hs
  | dwellExpiry => exact execDwellExpiry_cycleLaw h hs
  | focusStopTimerExpiry => exact execFocusStopTimerExpiry_cycleLaw h hs
  | focusDurationEnd => exact execFocusDurationEnd_cycleLaw h hs
  | focusPauseEnd => exact execFocusPauseEnd_cycleLaw h hs
  | focusEndSwitch dir closed => exact execFocusEndSwitch_cycleLaw h hs
  | cueWordComplete stop => exact offers.cueWordComplete h hs
  | pulseCue => exact offers.pulseCue h hs
  | irFrame b => exact offers.irFrame h hs
  | irByteComplete b => exact offers.irByteComplete h hs
  | busDestinationDecided p b => exact offers.busDestinationDecided h hs
  | busFrameEnd p b => exact offers.busFrameEnd h hs
  | busByteReceived p b => exact offers.busByteReceived h hs
  | _ => exact cycleLaw_readsOnly.exec_keeps h (by simp [touches]) hs

/-- Settles O55: the law is an invariant of every command and of an idle millisecond. -/
theorem cycleLawIsKept : Obligations.CycleLawIsKept := by
  unfold Obligations.CycleLawIsKept
  intro s t hs h
  exact step_keeps (fun _ s hs => cycleLaw_readsOnly s _ (by simp [Block.same]) hs) (fun _ => passMs_cycleLaw)
    (fun _ _ _ => exec_cycleLaw) h hs

end Sys2Proof.Machine
end

section
/-! SUPPORT. Laws of the Slot Table and the Loop Stack through a change cycle: a law that a new occupancy, an emptied stack
and the index keep is kept by every operation of the cycle, and by every command that does nothing more to these tables. -/

namespace Sys2Proof.Machine

theorem ReadsOnly.mono {P : State → Prop} {bs cs : List Block} (hP : ReadsOnly P bs) (h : ∀ b ∈ bs, b ∈ cs) :
    ReadsOnly P cs := fun s t hb => hP s t fun b m => hb b (h b m)

/-- A law of the Slot Table and the Loop Stack that the change cycle keeps. -/
structure KeptByCycle (P : Changer → Prop) : Prop where
  view : ∀ c d : Changer, d.slots = c.slots → d.loops = c.loops → d.tray = c.tray → d.homed = c.homed → P c → P d
  occupancy : ∀ c n o, P c → P (c.setOccupancy n o)
  cleared : ∀ c, P c → P { c with loops := [] }
  lost : ∀ c, P c → P { c with loops := [], homed := false }
  homes : ∀ c, P c → P { c with homed := true }

/-- R9, R36: a slide is found in the gate: what the Changer notes before the arrival. -/
def found (slot : Nat) (s : State) : State :=
  (s.onChanger fun c => { c.setOccupancy slot .present with run := 0, dwell := 0 }).onLamp Lamp.clearExposure

theorem changer_readsOnly (P : Changer → Prop) : ReadsOnly (fun s => P s.changer) [.changer] := fun s t hb hs => by
  have hc : t.changer = s.changer := hb .changer (by simp)
  show P t.changer
  rwa [hc]

namespace KeptByCycle

variable {P : Changer → Prop} (K : KeptByCycle P)
include K

theorem same {c d : Changer} (hc : P c) (hslots : d.slots = c.slots := by simp) (hloops : d.loops = c.loops := by simp)
    (htray : d.tray = c.tray := by simp) (hhomed : d.homed = c.homed := by simp) : P d :=
  K.view c d hslots hloops htray hhomed hc

/-! ### The jam and the phases -/

theorem jam (r : JamReason) {s : State} (hs : P s.changer) : P (jam r s).changer := by
  rw [jam_changer]
  unfold Changer.jammed
  split
  · exact K.same (K.lost _ hs)
  · rename_i slot _
    exact K.same (K.lost _ (K.occupancy _ slot .jammed hs))

theorem enterSettling {s : State} (hs : P s.changer) : P (enterSettling s).changer := K.same hs rfl rfl rfl rfl

theorem enterDropping {s : State} (hs : P s.changer) : P (enterDropping s).changer := by
  simp only [Machine.enterDropping]
  split <;> exact K.same hs rfl rfl rfl rfl

theorem windowReached {s : State} (hs : P s.changer) : P (windowReached s).changer :=
  K.enterDropping (K.same hs rfl rfl rfl rfl)

theorem enterRotating {s : State} (hs : P s.changer) : P (enterRotating s).changer := by
  have rotating : P { s.changer with state := .rotating } := K.same hs rfl rfl rfl rfl
  simp only [Machine.enterRotating]
  split
  · exact rotating
  · split
    · exact K.windowReached rotating
    · split
      · exact K.jam _ rotating
      · exact rotating

theorem stall {s : State} (hs : P s.changer) : P (stall s).changer := by
  unfold Machine.stall
  split
  · exact hs
  · exact K.jam _ hs

theorem windowMiss {s : State} (hs : P s.changer) : P (windowMiss s).changer := by
  unfold Machine.windowMiss
  split
  · exact hs
  · exact K.stall hs

theorem windowBrakeEnd {s : State} (hs : P s.changer) : P (windowBrakeEnd s).changer := by
  unfold Machine.windowBrakeEnd
  split
  · split
    · exact K.windowReached hs
    · exact K.windowMiss hs
  · split
    · exact K.enterDropping hs
    · exact K.windowMiss hs
  all_goals exact hs

theorem brakeEnd {s : State} (hs : P s.changer) : P (brakeEnd s).changer := by
  simp only [Machine.brakeEnd]
  split
  · exact hs
  · split
    · exact K.jam _ hs
    · split
      case h_2 => exact K.windowBrakeEnd hs
      all_goals exact hs

theorem enterLifting {s : State} (hs : P s.changer) : P (enterLifting s).changer := by
  have lifting : P { s.changer with state := .lifting } := K.same hs rfl rfl rfl rfl
  simp only [Machine.enterLifting]
  split
  · exact K.enterRotating lifting
  · exact lifting

theorem enterFadingOut {s : State} (hs : P s.changer) : P (enterFadingOut s).changer := by
  rcases enterFadingOut_cases s with ⟨l, e⟩ | ⟨l, e⟩ <;> rw [e]
  · exact K.enterLifting hs
  · exact K.same hs rfl rfl rfl rfl

/-! ### The queue and homing -/

theorem takeFrom {q : List Entry} {s : State} (hs : P s.changer) : P (takeFrom q s).changer := by
  induction q generalizing s with
  | nil => exact hs
  | cons e rest ih =>
    simp only [Machine.takeFrom]
    split
    · exact ih (K.same hs)
    · refine K.enterFadingOut ?_
      by_cases he : e.clearsLoops = true
      · exact K.same (K.cleared _ hs) rfl (by simp [Changer.take, he]) rfl rfl
      · exact K.same hs rfl (by simp [Changer.take, he]) rfl rfl

theorem pump {s : State} (hs : P s.changer) : P (pump s).changer := by
  unfold Machine.pump
  split
  · exact K.takeFrom hs
  · exact hs

theorem enterShowing {s : State} (hs : P s.changer) : P (enterShowing s).changer := K.pump (K.same hs)

theorem showDark {s : State} (hs : P s.changer) : P (showDark s).changer := K.pump (K.same hs)

theorem gateEmpty (slot : Nat) (ch : Change) {s : State} (hs : P s.changer) : P (gateEmpty slot ch s).changer := by
  have emptied : P (s.changer.setOccupancy slot .empty) := K.occupancy _ _ _ hs
  simp only [Machine.gateEmpty]
  split
  · exact K.enterLifting (K.same emptied)
  · exact K.showDark (K.same emptied)

/-- R36: the settle at a slide keeps the law when the arrival does. -/
theorem slideFound {slot : Nat} {isStep : Bool} {s : State}
    (ha : P (arrive slot ((found slot s).changer.slot slot) isStep (found slot s)).changer) :
    P (slideFound slot isStep s).changer := by
  simp only [Machine.slideFound]
  split
  · exact K.enterShowing (K.same ha rfl rfl rfl rfl)
  · exact K.same ha rfl rfl rfl rfl

theorem startHoming (src : Source) {s : State} (hs : P s.changer) : P (startHoming src s).changer := by
  simp only [Machine.startHoming]
  split <;> exact K.same hs rfl rfl rfl rfl

theorem offerHome {s : State} (hs : P s.changer) : P (offerHome s).1.changer := by
  unfold Machine.offerHome
  split
  case h_2 | h_3 => exact K.startHoming _ hs
  case h_5 => exact K.startHoming _ (K.same (K.lost _ hs) rfl rfl rfl rfl)
  all_goals exact hs

theorem indexSeen {s : State} (hs : P s.changer) : P (indexSeen s).changer := K.same (K.homes _ hs) rfl rfl rfl rfl

theorem refuseUnhomed (src : Source) {s : State} (hs : P s.changer) : P (refuseUnhomed src s).1.changer := by
  simp only [Machine.refuseUnhomed, turnedAway_state]
  split
  · exact K.startHoming _ hs
  · exact hs

theorem enqueue (q : List Entry) {s : State} (hs : P s.changer) : P (enqueue q s).changer :=
  K.pump (K.same hs rfl rfl rfl rfl)

theorem offerStep (src : Source) (k : Int) {s : State} (hs : P s.changer) : P (offerStep src k s).1.changer := by
  unfold Machine.offerStep
  split
  · exact hs
  · split
    · exact hs
    · split
      · exact K.refuseUnhomed _ hs
      · split
        · exact hs
        · exact K.enqueue _ hs

theorem queueGoto (e : Entry) {s : State} (hs : P s.changer) : P (queueGoto e s).changer := by
  unfold Machine.queueGoto
  split
  · exact K.enqueue _ hs
  · split
    · exact K.enqueue _ hs
    · exact K.enqueue _ (K.same hs)

theorem offerGoto (src : Source) (lb : Bool) (n : Nat) {s : State} (hs : P s.changer) :
    P (offerGoto src lb n s).1.changer := by
  unfold Machine.offerGoto
  split
  · exact hs
  · split
    · exact hs
    · split
      · exact hs
      · split
        · exact K.refuseUnhomed _ hs
        · exact K.queueGoto _ hs

theorem setHold (held : Bool) {s : State} (hs : P s.changer) : P (setHold held s).changer := K.same hs rfl rfl rfl rfl

theorem keptByOffers : KeptByOffers fun s => P s.changer :=
  .of_changer_drive ((changer_readsOnly P).mono (by simp)) (fun src k _ => K.offerStep src k) (fun src lb n _ => K.offerGoto src lb n)
    (fun held _ => K.setHold held) (fun _ _ hs => hs)

/-! ### The dwell expiry -/

theorem autoStep {s : State} (hs : P s.changer) : P (autoStep s).changer := by
  unfold Machine.autoStep
  split
  · exact K.same (K.setHold true hs)
  · exact K.offerStep _ _ hs

/-- R43, R45: the dwell expiry keeps the law when the loop-back's new stack does. -/
theorem expireDwell {s : State} (hs : P s.changer)
    (hl : ∀ top more, s.changer.loops = top :: more → P { s.changer with loops := more } ∧
      P { s.changer with loops := { top with remaining := top.remaining - 1 } :: more }) :
    P (expireDwell s).changer := by
  simp only [Machine.expireDwell]
  split
  · rename_i top more _ hloops
    obtain ⟨popped, counted⟩ := hl top more hloops
    unfold loopBack
    split
    · exact K.autoStep (K.same popped rfl rfl rfl rfl)
    · exact K.offerGoto _ _ _ (K.same counted rfl rfl rfl rfl)
  · exact K.autoStep (K.same hs rfl rfl rfl rfl)

/-! ### Commands -/

theorem setOptions {e b w : Option Nat} {s t : State} (h : execSetOptions e b w s = .next t) (hs : P s.changer) :
    P t.changer := by
  unfold execSetOptions at h
  refine (changer_readsOnly P).hostRequest_keeps h hs ?_
  split
  · exact hs
  · split
    · exact K.same hs rfl rfl rfl rfl
    · exact hs

theorem step {k : Int} {s t : State} (h : execStep k s = .next t) (hs : P s.changer) : P t.changer := by
  unfold execStep at h
  exact (changer_readsOnly P).hostRequest_keeps h hs (K.offerStep _ _ hs)

theorem goto {n : Nat} {s t : State} (h : execGoto n s = .next t) (hs : P s.changer) : P t.changer := by
  unfold execGoto at h
  exact (changer_readsOnly P).hostRequest_keeps h hs (K.offerGoto _ _ _ hs)

theorem home {s t : State} (h : execHome s = .next t) (hs : P s.changer) : P t.changer := by
  unfold execHome at h
  exact (changer_readsOnly P).hostRequest_keeps h hs (K.offerHome hs)

theorem hold {s t : State} (h : execHold s = .next t) (hs : P s.changer) : P t.changer := by
  unfold execHold at h
  exact (changer_readsOnly P).hostRequest_keeps h hs (K.setHold _ hs)

theorem resume {s t : State} (h : execResume s = .next t) (hs : P s.changer) : P t.changer := by
  unfold execResume at h
  exact (changer_readsOnly P).hostRequest_keeps h hs (K.setHold _ hs)

theorem flush {s t : State} (h : execFlush s = .next t) (hs : P s.changer) : P t.changer := by
  unfold execFlush at h
  exact (changer_readsOnly P).hostRequest_keeps h hs (K.same hs rfl rfl rfl rfl)

theorem gateStateChange {occupied : Bool} {s t : State} (h : execGateStateChange occupied s = .next t)
    (hs : P s.changer) : P t.changer := by
  simp only [execGateStateChange] at h
  split at h
  · cases h
    exact hs
  · split at h
    · cases h
      simp only [gateInShowing, raise_frame]
      split <;> exact K.occupancy _ _ _ hs
    · cases h
      exact hs

theorem indexPass {s t : State} (h : execIndexPass s = .next t) (hs : P s.changer) : P t.changer := by
  simp only [execIndexPass] at h
  split at h
  · cases h
    exact hs
  · split at h
    · cases h
      exact K.same hs
    · split at h
      · cases h
        exact K.indexSeen hs
      · cases h
        exact hs

theorem upReached {s : State} (hs : P s.changer) : P (upReached s).changer := by
  simp only [Machine.upReached]
  split
  · exact hs
  · split
    · exact K.enterRotating hs
    · exact hs

theorem downReached {s : State} (hs : P s.changer) : P (downReached s).changer := by
  simp only [Machine.downReached]
  split
  · exact K.enterSettling hs
  · exact hs

theorem lifterSwitchChange {up down : Bool} {s t : State} (h : execLifterSwitchChange up down s = .next t)
    (hs : P s.changer) : P t.changer := by
  simp only [execLifterSwitchChange] at h
  split at h
  · cases h
    exact K.jam _ hs
  · split at h
    · cases h
      exact K.upReached hs
    · split at h
      · cases h
        exact K.downReached hs
      · cases h
        exact hs

theorem dwellTenth {s t : State} (h : execDwellTenth s = .next t) (hs : P s.changer) : P t.changer := by
  unfold execDwellTenth at h
  split at h
  · cases h
    simp only [State.onChanger_changer, Changer.countDwell]
    split
    · exact hs
    · exact K.same hs rfl rfl rfl rfl
  · cases h
    exact hs

theorem liftDone {s t : State} (h : execLiftDone s = .next t) (hs : P s.changer) : P t.changer := by
  cases h
  split
  · exact K.upReached hs
  · exact hs

theorem dropDone {s t : State} (h : execDropDone s = .next t) (hs : P s.changer) : P t.changer := by
  cases h
  split
  · exact K.downReached hs
  · exact hs

end KeptByCycle

/-- An event that acts under a condition and leaves the state otherwise keeps a law when its action does. -/
theorem keeps_of_guarded {P : State → Prop} {p : Prop} [Decidable p] {s t u : State}
    (h : (if p then Host.Outcome.next u else .next s : Host.Outcome State Fault Refusal) = .next t) (hs : P s)
    (hu : p → P u) : P t := by
  split at h
  · cases h
    exact hu ‹_›
  · cases h
    exact hs

/-- The commands that write the Slot Table or the Loop Stack by more than the change cycle does, or change the tray. -/
def reshapes : Instr → Bool
  | .writeSlot _ _ _ => true
  | .loadSlots _ _ _ _ => true
  | .retireSlot _ _ => true
  | .reset => true
  | .powerOnReset => true
  | .trayRemoval => true
  | .trayInsertion _ => true
  | .settleEnd => true
  | .dwellExpiry => true
  | _ => false

/-- Every other command keeps a law that the change cycle keeps. -/
theorem KeptByCycle.exec_keeps {P : Changer → Prop} (K : KeptByCycle P) {c : Instr} {s t : State}
    (h : exec c s = .next t) (hc : reshapes c = false) (hs : P s.changer) : P t.changer := by
  have offers := K.keptByOffers
  cases c with
  | writeSlot | loadSlots | retireSlot | reset | powerOnReset | trayRemoval | trayInsertion | settleEnd | dwellExpiry =>
    cases hc
  | setOptions e b w => exact K.setOptions h hs
  | step k => exact K.step h hs
  | goto n => exact K.goto h hs
  | home => exact K.home h hs
  | hold => exact K.hold h hs
  | resume => exact K.resume h hs
  | flush => exact K.flush h hs
  | gateStateChange occupied => exact K.gateStateChange h hs
  | noIndexBudgetExhausted => exact keeps_of_guarded (P := fun s => P s.changer) h hs fun _ => K.jam _ hs
  | indexPass => exact K.indexPass h hs
  | stallWatchdogExpiry => exact keeps_of_guarded (P := fun s => P s.changer) h hs fun _ => K.stall hs
  | brakeEnd => exact keeps_of_guarded (P := fun s => P s.changer) h hs fun _ => K.brakeEnd hs
  | liftDone => exact K.liftDone h hs
  | dropDone => exact K.dropDone h hs
  | lifterTimeout => exact keeps_of_guarded (P := fun s => P s.changer) h hs fun _ => K.jam _ hs
  | lifterSwitchChange up down => exact K.lifterSwitchChange h hs
  | fadeOutEnd => exact keeps_of_guarded (P := fun s => P s.changer) h hs fun _ => K.enterLifting hs
  | fadeInEnd => exact keeps_of_guarded (P := fun s => P s.changer) h hs fun _ => K.enterShowing hs
  | dwellTenth => exact K.dwellTenth h hs
  | cueWordComplete stop => exact offers.cueWordComplete h hs
  | pulseCue => exact offers.pulseCue h hs
  | irFrame b => exact offers.irFrame h hs
  | irByteComplete b => exact offers.irByteComplete h hs
  | busDestinationDecided p b => exact offers.busDestinationDecided h hs
  | busFrameEnd p b => exact offers.busFrameEnd h hs
  | busByteReceived p b => exact offers.busByteReceived h hs
  | _ => exact (changer_readsOnly P).exec_keeps h (by simp [touches]) hs

end Sys2Proof.Machine
end

section
/-! PROOFS. The Slot Table and the Loop Stack stay in their ranges (two parts of O56). -/

namespace Sys2Proof.Machine

/-! ### The Slot Table -/

/-- R1: every record of the Slot Table is lawful. -/
def SlotsLawful (c : Changer) : Prop := ∀ i : Fin 140, c.slots[i].lawful = true

/-- R1: a LOOP-START counts 1..255. -/
def LoopMark.InRange (m : LoopMark) : Prop := ∀ c, m = .start c → 1 ≤ c ∧ c ≤ 255

theorem SlotRecord.lawful_iff (r : SlotRecord) :
    r.lawful = true ↔ r.dwell ≤ 9999 ∧ r.fadeOut ≤ 500 ∧ r.fadeIn ≤ 500 ∧ r.light ≤ 1000 ∧ r.cls ≤ 3 ∧
      r.sound.getD 0 ≤ 120 ∧ r.loop.InRange := by
  unfold SlotRecord.lawful LoopMark.InRange
  cases r.loop <;> simp [and_assoc]

theorem SlotRecord.default_lawful : SlotRecord.default.lawful = true := by
  simp [SlotRecord.lawful_iff, SlotRecord.default, LoopMark.InRange]

theorem Changer.slot_lawful {c : Changer} (h : SlotsLawful c) (n : Nat) : (c.slot n).lawful = true := by
  unfold Changer.slot
  split
  · exact h ⟨n - 1, by omega⟩
  · exact SlotRecord.default_lawful

theorem SlotsLawful.setSlot {c : Changer} (h : SlotsLawful c) (n : Nat) {r : SlotRecord} (hr : r.lawful = true) :
    SlotsLawful (c.setSlot n r) := by
  intro i
  unfold Changer.setSlot
  split
  · simp only [Fin.getElem_fin, Vector.getElem_set]
    split
    · exact hr
    · exact h i
  · exact h i

theorem SlotsLawful.mapSlots {c : Changer} (h : SlotsLawful c) (first last : Nat) {f : SlotRecord → SlotRecord}
    (hf : ∀ r, r.lawful = true → (f r).lawful = true) : SlotsLawful (c.mapSlots first last f) := by
  intro i
  simp only [Changer.mapSlots, Fin.getElem_fin, Vector.getElem_ofFn]
  split
  · exact hf _ (h i)
  · exact h i

theorem SlotsLawful.of_slots {c d : Changer} (h : SlotsLawful c) (hslots : d.slots = c.slots) : SlotsLawful d := by
  unfold SlotsLawful
  rwa [hslots]

/-- R1: the occupancy has no range to keep. -/
theorem slotsLawful_keptByCycle : KeptByCycle SlotsLawful where
  view _ _ hslots _ _ _ h := h.of_slots hslots
  occupancy _ n _ h := h.setSlot n (Changer.slot_lawful h n)
  cleared _ h := h
  lost _ h := h
  homes _ h := h

theorem LoopMark.fromCode_inRange {mark count : Nat} {m : LoopMark} (h : LoopMark.fromCode mark count = some m) :
    m.InRange := by
  unfold LoopMark.fromCode at h
  (repeat' split at h) <;> cases h <;> simp_all [LoopMark.InRange]

/-- R2, R3: a write whose values are in range leaves a lawful record lawful. -/
theorem SlotRecord.write_lawful {r : SlotRecord} {f : FieldSet} {v : SlotValues} (hv : slotValuesInRange f v = true)
    (hr : r.lawful = true) : (r.write f v).lawful = true := by
  simp only [slotValuesInRange, Bool.and_eq_true, Bool.or_eq_true, Bool.not_eq_true', decide_eq_true_eq] at hv
  obtain ⟨⟨⟨⟨⟨⟨⟨⟨vdwell, vout⟩, vin⟩, vlight⟩, vcls⟩, vsound⟩, -⟩, -⟩, vloop⟩ := hv
  obtain ⟨rdwell, rout, rin, rlight, rcls, rsound, rloop⟩ := r.lawful_iff.mp hr
  have sound : (r.write f v).sound.getD 0 ≤ 120 := by
    simp only [SlotRecord.write]
    split
    · split
      · simp
      · simp_all
    · exact rsound
  have loop : (r.write f v).loop.InRange := by
    simp only [SlotRecord.write]
    split
    · rename_i named
      obtain ⟨m, hm⟩ := Option.isSome_iff_exists.mp (vloop.resolve_left (by simp [named]))
      simpa only [hm, Option.getD_some] using LoopMark.fromCode_inRange hm
    · exact rloop
  refine (SlotRecord.lawful_iff _).mpr ⟨?_, ?_, ?_, ?_, ?_, sound, loop⟩ <;> simp only [SlotRecord.write] <;> split <;>
    simp_all

theorem SlotRecord.retire_lawful (r : SlotRecord) : r.retire.lawful = true := SlotRecord.default_lawful

/-- R2: the three checks pass only for values in range. -/
theorem slotWriteFault_none {first last : Nat} {set : FieldSet} {v : SlotValues}
    (h : slotWriteFault first last set v = none) : slotValuesInRange set v = true := by
  unfold slotWriteFault at h
  split at h
  · cases h
  · split at h
    · cases h
    · split at h
      · cases h
      · simpa using ‹¬slotValuesInRange set v = false›

theorem execWriteSlot_slotLaw {slot : Nat} {set : FieldSet} {v : SlotValues} {s t : State}
    (h : execWriteSlot slot set v s = .next t) (hs : SlotsLawful s.changer) : SlotsLawful t.changer := by
  unfold execWriteSlot at h
  refine (changer_readsOnly SlotsLawful).hostRequest_keeps h hs ?_
  split
  · exact hs
  · exact hs.setSlot slot (SlotRecord.write_lawful (slotWriteFault_none ‹_›) (Changer.slot_lawful hs slot))

theorem execLoadSlots_slotLaw {first last : Nat} {set : FieldSet} {v : SlotValues} {s t : State}
    (h : execLoadSlots first last set v s = .next t) (hs : SlotsLawful s.changer) : SlotsLawful t.changer := by
  unfold execLoadSlots at h
  refine (changer_readsOnly SlotsLawful).hostRequest_keeps h hs ?_
  split
  · exact hs
  · rw [answer_state, State.onChanger_changer]
    exact hs.mapSlots first last fun r => SlotRecord.write_lawful (slotWriteFault_none ‹_›)

theorem execRetireSlot_slotLaw {first last : Nat} {s t : State} (h : execRetireSlot first last s = .next t)
    (hs : SlotsLawful s.changer) : SlotsLawful t.changer := by
  unfold execRetireSlot at h
  refine (changer_readsOnly SlotsLawful).hostRequest_keeps h hs ?_
  split
  · rw [answer_state, State.onChanger_changer]
    exact hs.mapSlots first last fun r _ => r.retire_lawful
  · exact hs

theorem SlotsLawful.forget {c : Changer} (h : SlotsLawful c) : SlotsLawful c.forget := h.mapSlots 1 140 fun _ hr => hr

theorem execReset_slotLaw {s t : State} (h : execReset s = .next t) (hs : SlotsLawful s.changer) :
    SlotsLawful t.changer := by
  unfold execReset at h
  refine (changer_readsOnly SlotsLawful).hostRequest_keeps h hs ?_
  rw [answer_state, resetRequest_changer]
  exact hs.forget

theorem powerOn_slotLaw (s : State) : SlotsLawful (powerOn s).changer := by
  intro i
  simp only [powerOn, State.reset, Changer.reset, Fin.getElem_fin, Vector.getElem_replicate]
  exact SlotRecord.default_lawful

theorem execTrayRemoval_slotLaw {s t : State} (h : execTrayRemoval s = .next t) (hs : SlotsLawful s.changer) :
    SlotsLawful t.changer := by
  simp only [execTrayRemoval] at h
  split at h
  · cases h
    exact hs
  · cases h
    rw [(raise_frame _ _).1, finishChange_changer]
    exact hs.forget.of_slots (by simp [Changer.trayRemoved])

theorem execTrayInsertion_slotLaw {lugs : BitVec 2} {s t : State} (h : execTrayInsertion lugs s = .next t)
    (hs : SlotsLawful s.changer) : SlotsLawful t.changer := by
  simp only [execTrayInsertion] at h
  split at h <;> cases h <;> exact hs

/-- R36: an arrival leaves the Slot Table. -/
theorem settleEnd_slotLaw {s : State} (hs : SlotsLawful s.changer) : SlotsLawful (settleEnd s).changer := by
  have K := slotsLawful_keptByCycle
  simp only [settleEnd]
  split
  · exact hs
  · rename_i ch hch
    split
    · exact K.slideFound (SlotsLawful.of_slots (K.occupancy _ (ch.target.getD 1) .present hs) (by simp [found]))
    · exact K.gateEmpty _ _ hs

theorem exec_slotLaw {c : Instr} {s t : State} (h : exec c s = .next t) (hs : SlotLaw s) : SlotLaw t := by
  have K := slotsLawful_keptByCycle
  cases c with
  | writeSlot slot set v => exact execWriteSlot_slotLaw h hs
  | loadSlots first last set v => exact execLoadSlots_slotLaw h hs
  | retireSlot first last => exact execRetireSlot_slotLaw h hs
  | reset => exact execReset_slotLaw h hs
  | powerOnReset =>
    cases h
    exact powerOn_slotLaw s
  | trayRemoval => exact execTrayRemoval_slotLaw h hs
  | trayInsertion lugs => exact execTrayInsertion_slotLaw h hs
  | settleEnd => exact keeps_of_guarded (P := fun s => SlotsLawful s.changer) h hs fun _ => settleEnd_slotLaw hs
  | dwellExpiry =>
    exact keeps_of_guarded (P := fun s => SlotsLawful s.changer) h hs fun _ =>
      K.expireDwell hs fun _ _ _ => ⟨hs, hs⟩
  | _ => exact K.exec_keeps h rfl hs

/-! ### The Loop Stack -/

/-- R44: the frames that the Loop Stack may hold on a tray of n slots. -/
def FramesFit (n : Nat) (l : List LoopFrame) : Prop :=
  l.length ≤ 2 ∧ ∀ f ∈ l, 1 ≤ f.start ∧ f.start ≤ n ∧ f.remaining ≤ 255

/-- R44: the Loop Stack holds lawful frames, and none while the tray is not homed. -/
def LoopsLawful (c : Changer) : Prop := FramesFit c.size c.loops ∧ (c.homed = false → c.loops = [])

theorem loopLaw_iff (s : State) : LoopLaw s ↔ LoopsLawful s.changer := and_assoc.symm

theorem loopsLawful_of_empty {c : Changer} (h : c.loops = []) : LoopsLawful c := by simp [LoopsLawful, FramesFit, h]

theorem LoopsLawful.of_view {c d : Changer} (h : LoopsLawful c) (hloops : d.loops = c.loops) (htray : d.tray = c.tray)
    (hhomed : d.homed = c.homed) : LoopsLawful d := by
  have hsize : d.size = c.size := by simp only [Changer.size, htray]
  unfold LoopsLawful
  rwa [hsize, hloops, hhomed]

theorem loopsLawful_keptByCycle : KeptByCycle LoopsLawful where
  view _ _ _ hloops htray hhomed h := h.of_view hloops htray hhomed
  occupancy c n o h := by simpa [LoopsLawful, Changer.size] using h
  cleared _ _ := loopsLawful_of_empty rfl
  lost _ _ := loopsLawful_of_empty rfl
  homes c h := ⟨h.1, fun e => nomatch e⟩

theorem FramesFit.tail {n : Nat} {top : LoopFrame} {more : List LoopFrame} (h : FramesFit n (top :: more)) :
    FramesFit n more :=
  ⟨Nat.le_of_succ_le h.1, fun f hf => h.2 f (List.mem_cons_of_mem _ hf)⟩

/-- R44: a frame pushed on a stack of at most one. -/
theorem FramesFit.push {n slot count : Nat} {l : List LoopFrame} (h : FramesFit n l) (hl : l.length ≤ 1)
    (hs : 1 ≤ slot ∧ slot ≤ n) (hc : count ≤ 255) : FramesFit n ({ start := slot, remaining := count } :: l) := by
  refine ⟨Nat.succ_le_succ hl, fun f hf => ?_⟩
  rcases List.mem_cons.mp hf with rfl | hf
  · exact ⟨hs.1, hs.2, hc⟩
  · exact h.2 f hf

/-- R45: the loop-back pops the top frame or counts it down. -/
theorem expireDwell_loopLaw {s : State} (hs : LoopsLawful s.changer) : LoopsLawful (expireDwell s).changer := by
  refine loopsLawful_keptByCycle.expireDwell hs fun top more hl => ?_
  obtain ⟨fits, hempty⟩ := hs
  rw [hl] at fits hempty
  have homed : s.changer.homed = true := by
    by_contra hh
    exact absurd (hempty (by simpa using hh)) (by simp)
  have topFits := fits.2 top (by simp)
  refine ⟨⟨fits.tail, fun e => absurd e (by simp [homed])⟩, ⟨?_, fun e => absurd e (by simp [homed])⟩⟩
  refine fits.tail.push (Nat.le_of_succ_le_succ fits.1) ⟨topFits.1, topFits.2.1⟩ ?_
  have := topFits.2.2
  omega

/-- R44: an arrival at a slot of the tray pushes a lawful frame, or none. -/
theorem pushLoop_loopLaw {slot count : Nat} {s : State} (h : LoopsLawful s.changer) (hh : s.changer.homed = true)
    (hslot : 1 ≤ slot ∧ slot ≤ s.changer.size) (hc : count ≤ 255) : LoopsLawful (pushLoop slot count s).changer := by
  have homed : ∀ {l : List LoopFrame}, s.changer.homed = false → l = [] := fun e => absurd e (by simp [hh])
  unfold pushLoop
  split
  · exact ⟨FramesFit.push (l := []) ⟨by simp, by simp⟩ (by simp) hslot hc, homed⟩
  · rename_i top more hl
    split
    · exact h
    · split
      · exact ⟨FramesFit.push h.1 (by simp_all) hslot hc, homed⟩
      · rw [(raise_frame _ _).1]
        exact h

theorem arrive_loopLaw {slot : Nat} {r : SlotRecord} (isStep : Bool) {s : State} (h : LoopsLawful s.changer)
    (hh : s.changer.homed = true) (hslot : 1 ≤ slot ∧ slot ≤ s.changer.size) (hr : r.lawful = true) :
    LoopsLawful (arrive slot r isStep s).changer := by
  have K := loopsLawful_keptByCycle
  obtain ⟨-, -, -, -, -, -, range⟩ := r.lawful_iff.mp hr
  simp only [arrive, setOverride_frame, arriveLoop]
  split
  · rename_i count hcount
    split
    · refine pushLoop_loopLaw (K.same h) (by simpa using hh) (by simpa [Changer.size] using hslot) ?_
      exact (range count hcount).2
    · exact K.same h
  · exact K.same h
  · exact K.same h

theorem execSettleEnd_loopLaw {s t : State} (h : execSettleEnd s = .next t) (hcyc : CycleLaw s) (hslots : SlotLaw s)
    (hs : LoopsLawful s.changer) : LoopsLawful t.changer := by
  have K := loopsLawful_keptByCycle
  refine keeps_of_guarded (P := fun s => LoopsLawful s.changer) h hs fun hst => ?_
  have hf : s.changer.state.inFlight = true := by simp [hst.1, ChangerState.inFlight]
  have hh := hcyc.homed_of_inFlight hf (by simp [hst.1])
  obtain ⟨ch, n, hch, hn, hrange⟩ := hcyc.aimed hf hh
  simp only [settleEnd, State.onDrive_changer, hch, hn, Option.getD_some]
  split
  · refine K.slideFound (arrive_loopLaw _ ?_ ?_ ?_ ?_)
    · exact hs.of_view (by simp [found]) (by simp [found]) (by simp [found])
    · simpa [found] using hh
    · simpa [found, Changer.size] using hrange
    · exact Changer.slot_lawful (slotsLawful_keptByCycle.occupancy _ n .present hslots) n
  · exact K.gateEmpty _ _ hs

theorem execWriteSlot_loopLaw {slot : Nat} {set : FieldSet} {v : SlotValues} {s t : State}
    (h : execWriteSlot slot set v s = .next t) (hs : LoopsLawful s.changer) : LoopsLawful t.changer := by
  unfold execWriteSlot at h
  refine (changer_readsOnly LoopsLawful).hostRequest_keeps h hs ?_
  split
  · exact hs
  · exact hs.of_view (by simp) (by simp) (by simp)

theorem LoopsLawful.mapSlots {c : Changer} (h : LoopsLawful c) (first last : Nat) (f : SlotRecord → SlotRecord) :
    LoopsLawful (c.mapSlots first last f) :=
  h.of_view (by simp [Changer.mapSlots]) (by simp [Changer.mapSlots]) (by simp [Changer.mapSlots])

theorem execLoadSlots_loopLaw {first last : Nat} {set : FieldSet} {v : SlotValues} {s t : State}
    (h : execLoadSlots first last set v s = .next t) (hs : LoopsLawful s.changer) : LoopsLawful t.changer := by
  unfold execLoadSlots at h
  refine (changer_readsOnly LoopsLawful).hostRequest_keeps h hs ?_
  split
  · exact hs
  · rw [answer_state, State.onChanger_changer]
    exact hs.mapSlots _ _ _

theorem execRetireSlot_loopLaw {first last : Nat} {s t : State} (h : execRetireSlot first last s = .next t)
    (hs : LoopsLawful s.changer) : LoopsLawful t.changer := by
  unfold execRetireSlot at h
  refine (changer_readsOnly LoopsLawful).hostRequest_keeps h hs ?_
  split
  · rw [answer_state, State.onChanger_changer]
    exact hs.mapSlots _ _ _
  · exact hs

theorem execReset_loopLaw {s t : State} (h : execReset s = .next t) (hs : LoopsLawful s.changer) :
    LoopsLawful t.changer := by
  unfold execReset at h
  refine (changer_readsOnly LoopsLawful).hostRequest_keeps h hs ?_
  rw [answer_state, resetRequest_changer]
  exact loopsLawful_of_empty rfl

theorem execTrayRemoval_loopLaw {s t : State} (h : execTrayRemoval s = .next t) (hs : LoopsLawful s.changer) :
    LoopsLawful t.changer := by
  simp only [execTrayRemoval] at h
  split at h
  · cases h
    exact hs
  · cases h
    rw [(raise_frame _ _).1, finishChange_changer]
    exact loopsLawful_of_empty rfl

/-- R10, R16: with no tray the stack is empty, so that no frame of another tray stands on the one seated. -/
theorem execTrayInsertion_loopLaw {lugs : BitVec 2} {s t : State} (h : execTrayInsertion lugs s = .next t)
    (hcyc : CycleLaw s) (hs : LoopsLawful s.changer) : LoopsLawful t.changer := by
  simp only [execTrayInsertion] at h
  split at h
  · rename_i ht
    cases h
    exact loopsLawful_of_empty (hs.2 (hcyc.homed.2.1 (.inl (hcyc.homed.1.mpr ht))))
  · cases h
    exact hs

theorem exec_loopLaw {c : Instr} {s t : State} (h : exec c s = .next t) (hcyc : CycleLaw s) (hslots : SlotLaw s)
    (hs : LoopsLawful s.changer) : LoopsLawful t.changer := by
  have K := loopsLawful_keptByCycle
  cases c with
  | writeSlot slot set v => exact execWriteSlot_loopLaw h hs
  | loadSlots first last set v => exact execLoadSlots_loopLaw h hs
  | retireSlot first last => exact execRetireSlot_loopLaw h hs
  | reset => exact execReset_loopLaw h hs
  | powerOnReset =>
    cases h
    exact loopsLawful_of_empty rfl
  | trayRemoval => exact execTrayRemoval_loopLaw h hs
  | trayInsertion lugs => exact execTrayInsertion_loopLaw h hcyc hs
  | settleEnd => exact execSettleEnd_loopLaw h hcyc hslots hs
  | dwellExpiry =>
    exact keeps_of_guarded (P := fun s => LoopsLawful s.changer) h hs fun _ => expireDwell_loopLaw hs
  | _ => exact K.exec_keeps h rfl hs

end Sys2Proof.Machine
end

section
/-! PROOFS. The Cue Map and the program-sound values stay in their ranges (two parts of O56), and O56 itself. -/

namespace Sys2Proof.Machine

/-! ### What the transport leaves -/

/-- R121: the program-sound values that have a range. -/
def Tape.soundView (t : Tape) := (t.base, t.duckDepth, t.duckTerm, t.baseRamp, t.duckRamp)

/-- The Cue Map and the program-sound values of two states agree. -/
structure SameStore (s t : State) : Prop where
  map : t.cue.map = s.cue.map
  sound : t.tape.soundView = s.tape.soundView

namespace SameStore

theorem refl (s : State) : SameStore s s := ⟨rfl, rfl⟩

theorem raise {s t : State} (h : SameStore s t) (n : Notice) : SameStore s (raise n t) :=
  ⟨by simpa using h.map, by simpa using h.sound⟩

theorem setTransport (new : Transport) {s t : State} (h : SameStore s t) : SameStore s (setTransport new t) :=
  ⟨(setTransport_map new t).trans h.map, h.sound⟩

theorem enterPlaying (s : State) : SameStore s (enterPlaying s) := .setTransport _ ⟨rfl, rfl⟩

theorem enterWinding (w : Transport) (s : State) : SameStore s (enterWinding w s) := .setTransport _ ⟨rfl, rfl⟩

theorem enterPaused (s : State) : SameStore s (enterPaused s) := .setTransport _ ⟨rfl, rfl⟩

theorem enterStopped (r : Option RunDown) (s : State) : SameStore s (enterStopped r s) := .setTransport _ ⟨rfl, rfl⟩

theorem setPendingMotion (n : PendingMotion) (s : State) : SameStore s (setPendingMotion n s) := ⟨rfl, rfl⟩

theorem offerTapePlay (s : State) : SameStore s (offerTapePlay s).1 := by
  unfold Machine.offerTapePlay
  split
  case h_2 =>
    simp only [taken_state]
    split
    · exact setPendingMotion _ s
    · exact enterPlaying s
  case h_3 => exact enterPlaying s
  all_goals exact refl s

theorem offerTapePause (s : State) : SameStore s (offerTapePause s).1 := by
  unfold Machine.offerTapePause
  split
  case h_2 => exact enterPaused s
  all_goals exact refl s

theorem offerTapeStop (s : State) : SameStore s (offerTapeStop s).1 := by
  unfold Machine.offerTapeStop
  split
  case h_1 => exact refl s
  case h_6 =>
    split
    · exact setPendingMotion _ s
    · exact refl s
  all_goals exact enterStopped _ s

theorem offerTapeWind (d : Dir) (s : State) : SameStore s (offerTapeWind d s).1 := by
  unfold Machine.offerTapeWind
  split
  case h_2 =>
    simp only [taken_state]
    split
    · exact setPendingMotion _ s
    · exact enterWinding _ s
  case h_3 => exact enterWinding _ s
  case h_5 | h_6 =>
    simp only [taken_state]
    split
    · exact refl s
    · exact enterStopped _ s
  all_goals exact refl s

theorem applyTapeMark (m : TapeMark) (s : State) : SameStore s (applyTapeMark m s) := by
  cases m with
  | none => exact refl s
  | play => exact offerTapePlay s
  | pause => exact offerTapePause s

theorem tapeResetTransport (s : State) : SameStore s (tapeResetTransport s) := by
  unfold Machine.tapeResetTransport
  split
  case h_1 => exact refl s
  case h_2 => exact setPendingMotion _ s
  all_goals exact enterStopped _ s

theorem hostRequest {c : Instr} {owner : State → Reply} {s t : State} (h : hostRequest c owner s = .next t)
    (ho : SameStore s (owner s).state) : SameStore s t := by
  rcases hostRequest_cases h with ⟨-, rfl⟩ | ⟨-, rfl⟩
  · exact ⟨by simpa using ho.map, by simpa using ho.sound⟩
  · exact refl _

theorem of_guarded {p : Prop} [Decidable p] {s t u : State}
    (h : (if p then Host.Outcome.next u else .next s : Host.Outcome State Fault Refusal) = .next t)
    (hu : SameStore s u) : SameStore s t :=
  keeps_of_guarded (P := SameStore s) h (refl s) fun _ => hu

end SameStore

/-- R113 to R118: the commands of the transport. -/
def movesTape : Instr → Bool
  | .tapePlay => true
  | .tapePause => true
  | .tapeStop => true
  | .tapeWind _ => true
  | .cassetteRemoval => true
  | .cassetteInsertion => true
  | .runDownEnd => true
  | .tapeEndTimeout => true
  | .reelTimeout => true
  | _ => false

theorem execTapeWind_store {dir : Nat} {s t : State} (h : execTapeWind dir s = .next t) : SameStore s t := by
  unfold execTapeWind at h
  refine .hostRequest h ?_
  split
  · exact .refl s
  · exact .offerTapeWind _ s

theorem execCassetteRemoval_store {s t : State} (h : execCassetteRemoval s = .next t) : SameStore s t := by
  simp only [execCassetteRemoval] at h
  split at h
  · cases h
    exact .refl s
  · cases h
    have gone : SameStore s ((setTransport .noTape s).onTape fun t =>
        { t with runDown := none, endTimer := none, reelTimer := none, counter := 0, sure := false, residue := 0 }) :=
      ⟨setTransport_map _ s, rfl⟩
    split
    · exact gone
    · exact gone.raise _

theorem execRunDownEnd_store {s t : State} (h : execRunDownEnd s = .next t) : SameStore s t := by
  unfold execRunDownEnd at h
  split at h
  · split at h <;> cases h
    · exact ⟨rfl, rfl⟩
    · exact .enterPlaying s
    · exact .enterWinding _ s
    · exact .enterWinding _ s
  · cases h
    exact .refl s

theorem execTapePlay_store {s t : State} (h : execTapePlay s = .next t) : SameStore s t := by
  unfold execTapePlay at h
  exact .hostRequest h (.offerTapePlay s)

theorem execTapePause_store {s t : State} (h : execTapePause s = .next t) : SameStore s t := by
  unfold execTapePause at h
  exact .hostRequest h (.offerTapePause s)

theorem execTapeStop_store {s t : State} (h : execTapeStop s = .next t) : SameStore s t := by
  unfold execTapeStop at h
  exact .hostRequest h (.offerTapeStop s)

/-- The commands of the transport leave the Cue Map and the program-sound values. -/
theorem exec_store {c : Instr} {s t : State} (h : exec c s = .next t) (hc : movesTape c = true) : SameStore s t := by
  cases c with
  | tapePlay => exact execTapePlay_store h
  | tapePause => exact execTapePause_store h
  | tapeStop => exact execTapeStop_store h
  | tapeWind dir => exact execTapeWind_store h
  | cassetteRemoval => exact execCassetteRemoval_store h
  | cassetteInsertion => exact .of_guarded h (.enterStopped _ s)
  | runDownEnd => exact execRunDownEnd_store h
  | tapeEndTimeout => exact .of_guarded h ((SameStore.enterStopped _ s).raise _)
  | reelTimeout => exact .of_guarded h ((SameStore.enterStopped _ s).raise _)
  | _ => cases hc

/-! ### The Cue Map -/

/-- R135: every entry of the Cue Map is lawful. -/
def MapLawful (u : CueUnit) : Prop := ∀ i : Fin 32, u.map[i].lawful = true

theorem MapLawful.of_map {u v : CueUnit} (h : MapLawful u) (hm : v.map = u.map) : MapLawful v := by
  unfold MapLawful
  rwa [hm]

theorem CueEntry.blank_lawful : CueEntry.blank.lawful = true := rfl

theorem CueUnit.entry_lawful {u : CueUnit} (h : MapLawful u) (n : Nat) : (u.entry n).lawful = true := by
  unfold CueUnit.entry
  split
  · exact h ⟨n - 1, by omega⟩
  · exact CueEntry.blank_lawful

theorem MapLawful.setEntry {u : CueUnit} (h : MapLawful u) (n : Nat) {e : CueEntry} (he : e.lawful = true) :
    MapLawful (u.setEntry n e) := by
  intro i
  unfold CueUnit.setEntry
  split
  · simp only [Fin.getElem_fin, Vector.getElem_set]
    split
    · exact he
    · exact h i
  · exact h i

/-- R135: a window whose ends are in order within its bounds. -/
def Window.InRange (lo hi : Nat) (w : Option Window) : Prop := ∀ x, w = some x → lo ≤ x.lo ∧ x.lo ≤ x.hi ∧ x.hi ≤ hi

/-- R135: what a lawful entry is. -/
theorem CueEntry.lawful_iff (e : CueEntry) :
    e.lawful = true ↔ (e.action = none ↔ e.state = .free) ∧ (∀ a, e.action = some a → a.lawful = true) ∧
      Window.InRange 0 65535 e.tapeWindow ∧ Window.InRange 1 140 e.slotWindow ∧ e.hits ≤ 255 := by
  unfold CueEntry.lawful Window.InRange
  cases e.action <;> cases e.tapeWindow <;> cases e.slotWindow <;> simp [and_assoc]

/-- R138, R142: an entry in use put in another state in use, with its hits in range. -/
theorem CueEntry.lawful_of_used {e : CueEntry} (h : e.lawful = true) (ha : e.action ≠ none) {st : CueState}
    (hst : st ≠ .free) {hits : Nat} (hh : hits ≤ 255) : CueEntry.lawful { e with state := st, hits := hits } = true := by
  obtain ⟨-, haction, htape, hslot, -⟩ := e.lawful_iff.mp h
  exact (CueEntry.lawful_iff _).mpr ⟨by simp [ha, hst], haction, htape, hslot, hh⟩

/-- R142: a hit leaves a lawful entry in use lawful. -/
theorem CueEntry.hit_lawful {e : CueEntry} (h : e.lawful = true) (ha : e.action ≠ none) : e.hit.lawful = true := by
  have used : e.state ≠ .free := fun hf => ha ((e.lawful_iff.mp h).1.mpr hf)
  unfold CueEntry.hit
  refine CueEntry.lawful_of_used h ha ?_ (Nat.min_le_left _ _)
  split
  · simp
  · exact used

theorem windowOf_inRange {present lo hi minimum maximum : Nat} {w : Option Window}
    (h : windowOf present lo hi minimum maximum = some w) : Window.InRange minimum maximum w := by
  unfold windowOf at h
  split at h
  · cases h
    exact fun _ e => nomatch e
  · split at h
    · rename_i range
      cases h
      intro x hx
      cases hx
      exact ⟨range.1, range.2.2, range.2.1⟩
    · cases h
  · cases h

/-- R135: an action read from a request has its argument in range. -/
theorem cueActionOf_lawful {v : CueImage} {a : CueAction} (h : cueActionOf v = some a) : a.lawful = true := by
  unfold cueActionOf at h
  split at h
  case h_1 =>
    (repeat' split at h) <;> cases h <;> simp only [CueAction.lawful, Bool.and_eq_true, bne_iff_ne, decide_eq_true_eq] <;>
      omega
  case h_2 | h_5 =>
    simp only at h
    split at h
    · cases h
      simp_all [CueAction.lawful]
    · cases h
  case h_8 =>
    obtain ⟨on, -, rfl⟩ := Option.map_eq_some_iff.mp h
    rfl
  case h_10 =>
    split at h
    · rename_i range
      obtain ⟨low, high, sendable, args, one, byte⟩ := range
      cases h
      by_cases h1 : v.a2 = 1
      · simp [CueAction.lawful, low, high, sendable, args, byte, h1]
      · have h0 : v.a2 = 0 := by omega
        simp [CueAction.lawful, low, high, sendable, args, h0]
    · cases h
  case h_12 => cases h
  case h_6 | h_7 | h_11 =>
    split at h
    · cases h
      simp_all [CueAction.lawful]
    · cases h
  all_goals
    cases h
    rfl

theorem CueState.wanted_ne_free {n : Nat} {st : CueState} (h : CueState.wanted n = some st) : st ≠ .free := by
  unfold CueState.wanted at h
  split at h <;> cases h <;> simp

/-- R137 step 2: an entry read from a request is lawful. -/
theorem cueEntryOf_lawful {v : CueImage} {e : CueEntry} (h : cueEntryOf v = some e) : e.lawful = true := by
  simp only [cueEntryOf, Option.bind_eq_bind, Option.bind_eq_some_iff] at h
  obtain ⟨st, hst, sel, -, a, ha, single, -, tape, htape, slot, hslot, h⟩ := h
  split at h
  · cases h
    have lawful := cueActionOf_lawful ha
    exact (CueEntry.lawful_iff _).mpr
      ⟨by simp [CueState.wanted_ne_free hst], by simpa using lawful, windowOf_inRange htape, windowOf_inRange hslot,
        by simp⟩
  · cases h

theorem cue_readsOnly (P : CueUnit → Prop) : ReadsOnly (fun s => P s.cue) [.cue] := fun s t hb hs => by
  have hc : t.cue = s.cue := hb .cue (by simp)
  show P t.cue
  rwa [hc]

theorem offerKey_map (src : Source) (key : Nat) (args : List Nat) (s : State) :
    (offerKey src key args s).1.cue.map = s.cue.map := by
  unfold offerKey
  split <;> simp

theorem cueStoreLaw_keptByOffers : KeptByOffers fun s => MapLawful s.cue where
  raise n s hs := hs.of_map (by simp)
  remote f s hs := hs
  bus f s hs := hs
  cue f s hf hs := hs.of_map (hf s.cue)
  hit n s ha hs := hs.setEntry n (CueEntry.hit_lawful (CueUnit.entry_lawful hs n) ha)
  key src key args s hs := hs.of_map (offerKey_map src key args s)
  action n a s _ hs := hs.of_map (offerAction_map n a s)
  legacy s hs := hs.of_map (by simp)

theorem execWriteCue_storeLaw {v : CueImage} {s t : State} (h : execWriteCue v s = .next t) (hs : MapLawful s.cue) :
    MapLawful t.cue := by
  unfold execWriteCue at h
  refine (cue_readsOnly MapLawful).hostRequest_keeps h hs ?_
  unfold writeCue
  split
  · exact hs
  · split
    · exact hs
    · rename_i he
      split
      · exact hs
      · exact hs.setEntry _ (cueEntryOf_lawful he)

/-- R138: an entry in use put in a state in use. -/
theorem setCueState_storeLaw {n : Nat} {st : CueState} {s : State} (hs : MapLawful s.cue)
    (hu : (s.cue.entry n).state ≠ .free) (hst : st ≠ .free) : MapLawful (setCueState n st s).state.cue := by
  have lawful := CueUnit.entry_lawful hs n
  obtain ⟨used, -, -, -, hits⟩ := (CueEntry.lawful_iff _).mp lawful
  exact hs.setEntry n (CueEntry.lawful_of_used lawful (fun e => hu (used.mp e)) hst hits)

theorem armCue_storeLaw (n : Nat) {s : State} (hs : MapLawful s.cue) : MapLawful (armCue n s).state.cue := by
  simp only [armCue]
  split
  · exact hs
  · exact hs
  · split
    · exact hs
    · exact setCueState_storeLaw hs (by simp [*]) (by simp)
  · split
    · exact hs
    · exact setCueState_storeLaw hs (by simp [*]) (by simp)

theorem pauseCue_storeLaw (n : Nat) {s : State} (hs : MapLawful s.cue) : MapLawful (pauseCue n s).state.cue := by
  unfold pauseCue
  split
  case h_2 => exact setCueState_storeLaw hs (by simp [*]) (by simp)
  all_goals exact hs

theorem execArmCue_storeLaw {n : Nat} {s t : State} (h : execArmCue n s = .next t) (hs : MapLawful s.cue) :
    MapLawful t.cue := by
  unfold execArmCue at h
  refine (cue_readsOnly MapLawful).hostRequest_keeps h hs ?_
  split
  · exact armCue_storeLaw n hs
  · exact hs

theorem execPauseCue_storeLaw {n : Nat} {s t : State} (h : execPauseCue n s = .next t) (hs : MapLawful s.cue) :
    MapLawful t.cue := by
  unfold execPauseCue at h
  refine (cue_readsOnly MapLawful).hostRequest_keeps h hs ?_
  split
  · exact pauseCue_storeLaw n hs
  · exact hs

theorem execRetireCue_storeLaw {n : Nat} {s t : State} (h : execRetireCue n s = .next t) (hs : MapLawful s.cue) :
    MapLawful t.cue := by
  unfold execRetireCue at h
  refine (cue_readsOnly MapLawful).hostRequest_keeps h hs ?_
  split
  · exact hs.setEntry n CueEntry.blank_lawful
  · exact hs

theorem execSetCueOptions_storeLaw {e l : Option Nat} {s t : State} (h : execSetCueOptions e l s = .next t)
    (hs : MapLawful s.cue) : MapLawful t.cue := by
  unfold execSetCueOptions at h
  refine (cue_readsOnly MapLawful).hostRequest_keeps h hs ?_
  (repeat' split) <;> exact hs

theorem execSetMasks_storeLaw {g a b : Option Nat} {s t : State} (h : execSetMasks g a b s = .next t)
    (hs : MapLawful s.cue) : MapLawful t.cue := by
  unfold execSetMasks at h
  refine (cue_readsOnly MapLawful).hostRequest_keeps h hs ?_
  (repeat' split) <;> exact hs

theorem execLearnOn_storeLaw {s t : State} (h : execLearnOn s = .next t) (hs : MapLawful s.cue) : MapLawful t.cue := by
  unfold execLearnOn at h
  refine (cue_readsOnly MapLawful).hostRequest_keeps h hs (hs.of_map ?_)
  simp only [answer_state, State.onCue_cue, CueUnit.learnOn]
  split <;> rfl

theorem execLearnOff_storeLaw {s t : State} (h : execLearnOff s = .next t) (hs : MapLawful s.cue) : MapLawful t.cue := by
  unfold execLearnOff at h
  exact (cue_readsOnly MapLawful).hostRequest_keeps h hs hs

theorem execReadLearn_storeLaw {s t : State} (h : execReadLearn s = .next t) (hs : MapLawful s.cue) :
    MapLawful t.cue := by
  unfold execReadLearn at h
  exact (cue_readsOnly MapLawful).hostRequest_keeps h hs hs

@[simp] theorem resetRequest_cue_map (s : State) :
    (resetRequest s).cue.map = Vector.ofFn fun i : Fin 32 => { s.cue.map[i] with hits := 0 } := by
  simp [resetRequest, resetBlocks, CueUnit.resetRequest, tapeResetRequest, (SameStore.tapeResetTransport _).map]

theorem execReset_storeLaw {s t : State} (h : execReset s = .next t) (hs : MapLawful s.cue) : MapLawful t.cue := by
  unfold execReset at h
  refine (cue_readsOnly MapLawful).hostRequest_keeps h hs fun i => ?_
  obtain ⟨haction, hlawful, htape, hslot, -⟩ := (CueEntry.lawful_iff _).mp (hs i)
  simp only [answer_state, resetRequest_cue_map, Fin.getElem_fin, Vector.getElem_ofFn]
  exact (CueEntry.lawful_iff _).mpr ⟨haction, hlawful, htape, hslot, by simp⟩

theorem powerOn_storeLaw (s : State) : MapLawful (powerOn s).cue := by
  intro i
  simp only [powerOn, CueUnit.reset, Fin.getElem_fin, Vector.getElem_replicate]
  exact CueEntry.blank_lawful

/-- R38: an arrival leaves the Cue Map, and the tape mark the program-sound values. -/
theorem settleEnd_map (s : State) : (settleEnd s).cue.map = s.cue.map := by
  simp only [settleEnd]
  split
  · rfl
  · split
    · simp only [slideFound]
      split <;> simp [arrive, (SameStore.applyTapeMark _ _).map]
    · simp

theorem execSettleEnd_map {s t : State} (h : execSettleEnd s = .next t) : t.cue.map = s.cue.map :=
  keeps_of_guarded (P := fun t => t.cue.map = s.cue.map) h rfl fun _ => settleEnd_map _

theorem execCueBitSample_storeLaw {high : Bool} {s t : State} (h : execCueBitSample high s = .next t)
    (hs : MapLawful s.cue) : MapLawful t.cue := by
  unfold execCueBitSample at h
  (repeat' split at h) <;> cases h <;> exact hs

theorem exec_cueStoreLaw {c : Instr} {s t : State} (h : exec c s = .next t) (hs : CueStoreLaw s) : CueStoreLaw t := by
  have hs : MapLawful s.cue := hs
  have offers := cueStoreLaw_keptByOffers
  cases c with
  | writeCue v => exact execWriteCue_storeLaw h hs
  | armCue n => exact execArmCue_storeLaw h hs
  | pauseCue n => exact execPauseCue_storeLaw h hs
  | retireCue n => exact execRetireCue_storeLaw h hs
  | setCueOptions e l => exact execSetCueOptions_storeLaw h hs
  | setMasks g a b => exact execSetMasks_storeLaw h hs
  | learnOn => exact execLearnOn_storeLaw h hs
  | learnOff => exact execLearnOff_storeLaw h hs
  | readLearn => exact execReadLearn_storeLaw h hs
  | reset => exact execReset_storeLaw h hs
  | powerOnReset =>
    cases h
    exact powerOn_storeLaw s
  | tapePlay | tapePause | tapeStop | tapeWind | cassetteRemoval | cassetteInsertion | runDownEnd | tapeEndTimeout
  | reelTimeout => exact hs.of_map (exec_store h rfl).map
  | settleEnd => exact hs.of_map (execSettleEnd_map h)
  | cueDataFallingEdge | startBitRecheck =>
    cases h
    split <;> exact hs
  | cueBitSample high => exact execCueBitSample_storeLaw h hs
  | toneBurstStart | shortToneBurstEnd | confirmTimeout =>
    cases h
    exact hs
  | cueWordComplete stop => exact offers.cueWordComplete h hs
  | pulseCue => exact offers.pulseCue h hs
  | irFrame b => exact offers.irFrame h hs
  | irByteComplete b => exact offers.irByteComplete h hs
  | busDestinationDecided p b => exact offers.busDestinationDecided h hs
  | busFrameEnd p b => exact offers.busFrameEnd h hs
  | busByteReceived p b => exact offers.busByteReceived h hs
  | _ => exact (cue_readsOnly MapLawful).exec_keeps h (by simp [touches]) hs

end Sys2Proof.Machine
end

section
/-! PROOFS. The program-sound values stay in their ranges, and O56: every step keeps the ranges of the tables, the sound and
the Loop Stack. -/

namespace Sys2Proof.Machine

/-- R121: a ramp of the program sound runs between two attenuations. -/
def Ramp.InRange (r : Ramp) : Prop := r.a ≤ 120 ∧ r.b ≤ 120

/-- R121: the program-sound values in their ranges. -/
structure SoundFits (t : Tape) : Prop where
  base : t.base ≤ 120
  depth : t.duckDepth ≤ 120
  term : t.duckTerm ≤ 120
  baseRamp : ∀ r, t.baseRamp = some r → r.InRange
  duckRamp : ∀ r, t.duckRamp = some r → r.InRange

theorem soundLaw_iff (s : State) : SoundLaw s ↔ SoundFits s.tape :=
  ⟨fun ⟨base, depth, term, baseRamp, duckRamp⟩ => ⟨base, depth, term, baseRamp, duckRamp⟩,
    fun ⟨base, depth, term, baseRamp, duckRamp⟩ => ⟨base, depth, term, baseRamp, duckRamp⟩⟩

namespace SoundFits

theorem of_view {t u : Tape} (h : SoundFits t) (hv : u.soundView = t.soundView) : SoundFits u := by
  simp only [Tape.soundView, Prod.mk.injEq] at hv
  obtain ⟨base, depth, term, baseRamp, duckRamp⟩ := hv
  exact ⟨base ▸ h.base, depth ▸ h.depth, term ▸ h.term, baseRamp ▸ h.baseRamp, duckRamp ▸ h.duckRamp⟩

theorem setBase {t : Tape} (h : SoundFits t) {a : Nat} (ha : a ≤ 120) : SoundFits (t.setBase a) :=
  ⟨ha, h.depth, h.term, (fun _ e => nomatch e), h.duckRamp⟩

theorem volume {t : Tape} (h : SoundFits t) (louder : Bool) : SoundFits (t.volume louder) := by
  have := h.base
  refine h.setBase ?_
  split <;> omega

theorem soundTarget {t : Tape} (h : SoundFits t) {target : Nat} (ht : target ≤ 120) (n : Nat) :
    SoundFits (t.soundTarget target n) := by
  unfold Tape.soundTarget
  split
  · exact h.setBase ht
  · refine ⟨h.base, h.depth, h.term, fun r e => ?_, h.duckRamp⟩
    cases e
    exact ⟨h.base, ht⟩

theorem duckTo {t : Tape} (h : SoundFits t) {target : Nat} (ht : target ≤ 120) : SoundFits (t.duckTo target) := by
  refine ⟨h.base, h.depth, h.term, h.baseRamp, fun r e => ?_⟩
  cases e
  exact ⟨h.term, ht⟩

theorem setDuck {t : Tape} (h : SoundFits t) (on : Bool) : SoundFits (t.setDuck on) := by
  have target : (if on then t.duckDepth else 0) ≤ 120 := by
    have := h.depth
    split <;> omega
  exact (h.duckTo target).of_view rfl

theorem setDepth {t : Tape} (h : SoundFits t) {d : Nat} (hd : d ≤ 120) : SoundFits (t.setDepth d) := by
  have deep : SoundFits { t with duckDepth := d } := ⟨h.base, hd, h.term, h.baseRamp, h.duckRamp⟩
  simp only [Tape.setDepth]
  split
  · exact deep.duckTo hd
  · exact deep

theorem duckSettings {t : Tape} (h : SoundFits t) {d : Nat} (hd : d ≤ 120) (sw : Nat) :
    SoundFits (t.duckSettings d sw) := by
  unfold Tape.duckSettings
  split
  · exact (h.setDepth hd).setDuck _
  · exact (h.setDepth hd).setDuck _
  · exact h.setDepth hd

theorem stepBase {t : Tape} (h : SoundFits t) : SoundFits t.stepBase := by
  unfold Tape.stepBase
  split
  · exact h
  · rename_i r hr
    obtain ⟨ha, hb⟩ := h.baseRamp r hr
    refine ⟨(r.next.value_le_max _).trans (max_le ha hb), h.depth, h.term, fun r' e => ?_, h.duckRamp⟩
    cases e
    exact ⟨ha, hb⟩

theorem stepDuck {t : Tape} (h : SoundFits t) : SoundFits t.stepDuck := by
  unfold Tape.stepDuck
  split
  · exact h
  · rename_i r hr
    obtain ⟨ha, hb⟩ := h.duckRamp r hr
    refine ⟨h.base, h.depth, (r.next.value_le_max _).trans (max_le ha hb), h.baseRamp, fun r' e => ?_⟩
    cases e
    exact ⟨ha, hb⟩

theorem endBase {t : Tape} (h : SoundFits t) {r : Ramp} (hr : t.baseRamp = some r) :
    SoundFits { t with base := r.b, baseRamp := none } :=
  ⟨(h.baseRamp r hr).2, h.depth, h.term, (fun _ e => nomatch e), h.duckRamp⟩

theorem endDuck {t : Tape} (h : SoundFits t) {r : Ramp} (hr : t.duckRamp = some r) :
    SoundFits { t with duckTerm := r.b, duckRamp := none } :=
  ⟨h.base, h.depth, (h.duckRamp r hr).2, h.baseRamp, (fun _ e => nomatch e)⟩

theorem endRamps {t : Tape} (h : SoundFits t) : SoundFits t.endRamps where
  base := by
    unfold Tape.endRamps
    split
    · exact h.base
    · exact (h.baseRamp _ ‹_›).2
  depth := h.depth
  term := by
    unfold Tape.endRamps
    simp only
    split
    · exact h.term
    · exact (h.duckRamp _ ‹_›).2
  baseRamp _ e := nomatch e
  duckRamp _ e := nomatch e

/-- R38: the sound target of a lawful record. -/
theorem arriveSound {t : Tape} (h : SoundFits t) {r : SlotRecord} (hr : r.lawful = true) :
    SoundFits (Machine.arriveSound r t) := by
  obtain ⟨-, -, -, -, -, sound, -⟩ := r.lawful_iff.mp hr
  unfold Machine.arriveSound
  split
  · exact h
  · rename_i target e
    exact h.soundTarget (by simpa [e] using sound) _

end SoundFits

theorem tape_readsOnly (P : Tape → Prop) : ReadsOnly (fun s => P s.tape) [.tape] := fun s t hb hs => by
  have hc : t.tape = s.tape := hb .tape (by simp)
  show P t.tape
  rwa [hc]

/-! ### Keys and cue actions -/

theorem offerKey_sound (src : Source) (key : Nat) (args : List Nat) {s : State} (h : SoundFits s.tape) :
    SoundFits (offerKey src key args s).1.tape := by
  unfold offerKey
  split
  case h_9 | h_10 => exact h.volume _
  case h_11 => exact h.of_view rfl
  case h_12 => exact h.setDuck _
  case h_13 => exact h.of_view (SameStore.offerTapePlay s).sound
  case h_14 => exact h.of_view (SameStore.offerTapePause s).sound
  all_goals exact h.of_view (by simp)

theorem offerAction_sound (n : Nat) {a : CueAction} (ha : a.lawful = true) {s : State} (h : SoundFits s.tape) :
    SoundFits (offerAction n a s).1.tape := by
  cases a with
  | gain g => exact h.setBase (by simpa [CueAction.lawful] using ha)
  | duck on => exact h.setDuck on
  | tapePause => exact h.of_view (SameStore.offerTapePause s).sound
  | _ => exact h.of_view (by simp [offerAction])

/-- R142: a lawful cue entry offers a lawful action, so that the sound stays in range with the Cue Map. -/
theorem soundLaw_keptByOffers : KeptByOffers fun s => MapLawful s.cue ∧ SoundFits s.tape where
  raise n s hs := ⟨cueStoreLaw_keptByOffers.raise n s hs.1, hs.2.of_view (by simp)⟩
  remote f s hs := ⟨cueStoreLaw_keptByOffers.remote f s hs.1, hs.2⟩
  bus f s hs := ⟨cueStoreLaw_keptByOffers.bus f s hs.1, hs.2⟩
  cue f s hf hs := ⟨cueStoreLaw_keptByOffers.cue f s hf hs.1, hs.2⟩
  hit n s ha hs := ⟨cueStoreLaw_keptByOffers.hit n s ha hs.1, hs.2⟩
  key src key args s hs := ⟨cueStoreLaw_keptByOffers.key src key args s hs.1, offerKey_sound src key args hs.2⟩
  action n a s ha hs := by
    obtain ⟨-, lawful, -⟩ := (CueEntry.lawful_iff _).mp (CueUnit.entry_lawful hs.1 n)
    exact ⟨cueStoreLaw_keptByOffers.action n a s ha hs.1, offerAction_sound n (lawful a ha) hs.2⟩
  legacy s hs := ⟨cueStoreLaw_keptByOffers.legacy s hs.1, hs.2.of_view (by simp)⟩

/-! ### The commands on the sound -/

theorem execSetTapePosition_soundLaw {v : Nat} {s t : State} (h : execSetTapePosition v s = .next t)
    (hs : SoundFits s.tape) : SoundFits t.tape := by
  unfold execSetTapePosition at h
  refine (tape_readsOnly SoundFits).hostRequest_keeps h hs ?_
  (repeat' split) <;> exact hs.of_view rfl

theorem execSetGain_soundLaw {a : Nat} {s t : State} (h : execSetGain a s = .next t) (hs : SoundFits s.tape) :
    SoundFits t.tape := by
  unfold execSetGain at h
  refine (tape_readsOnly SoundFits).hostRequest_keeps h hs ?_
  split
  · exact hs.setBase ‹_›
  · exact hs

theorem execSetDuckDepth_soundLaw {depth sw : Nat} {s t : State} (h : execSetDuckDepth depth sw s = .next t)
    (hs : SoundFits s.tape) : SoundFits t.tape := by
  unfold execSetDuckDepth at h
  refine (tape_readsOnly SoundFits).hostRequest_keeps h hs ?_
  split
  · rename_i range
    exact hs.duckSettings range.1 sw
  · exact hs

theorem execSetMute_soundLaw {on : Nat} {s t : State} (h : execSetMute on s = .next t) (hs : SoundFits s.tape) :
    SoundFits t.tape := by
  unfold execSetMute at h
  refine (tape_readsOnly SoundFits).hostRequest_keeps h hs ?_
  split <;> exact hs.of_view rfl

/-- R127: the transport's stop reads the Tape and Sound Unit alone. -/
theorem tapeResetTransport_tape_congr {s t : State} (h : t.tape = s.tape) :
    (tapeResetTransport t).tape = (tapeResetTransport s).tape := by
  simp only [tapeResetTransport, h]
  split <;> simp [setPendingMotion, enterStopped, setTransport, h]

/-- R127: the transport stops as RESET orders, and then the ramps end. -/
@[simp] theorem resetRequest_tape (s : State) : (resetRequest s).tape = (tapeResetTransport s).tape.endRamps :=
  congrArg Tape.endRamps (tapeResetTransport_tape_congr (by simp))

theorem execReset_soundLaw {s t : State} (h : execReset s = .next t) (hs : SoundFits s.tape) : SoundFits t.tape := by
  unfold execReset at h
  refine (tape_readsOnly SoundFits).hostRequest_keeps h hs ?_
  have ended : SoundFits (tapeResetTransport s).tape.endRamps :=
    (hs.of_view (SameStore.tapeResetTransport s).sound).endRamps
  simpa using ended

theorem slideFound_eq (slot : Nat) (isStep : Bool) (s : State) :
    slideFound slot isStep s =
      let r := (found slot s).changer.slot slot
      let u := ((arrive slot r isStep (found slot s)).onLamp (Lamp.fadeIn r.fadeIn)).onChanger fun c =>
        { c with state := .fadingIn }
      if r.fadeIn = 0 then enterShowing u else u := rfl

/-- R38: an arrival follows the tape mark of the record and takes its sound target. -/
theorem slideFound_tape (slot : Nat) (isStep : Bool) (s : State) :
    (slideFound slot isStep s).tape = arriveSound ((found slot s).changer.slot slot)
      (applyTapeMark ((found slot s).changer.slot slot).tapeMark (found slot s)).tape := by
  simp only [slideFound_eq]
  split <;> simp [arrive]

/-- R38: an arrival at a lawful record keeps the sound in range. -/
theorem settleEnd_soundLaw {s : State} (hslots : SlotsLawful s.changer) (hs : SoundFits s.tape) :
    SoundFits (settleEnd s).tape := by
  simp only [settleEnd]
  split
  · exact hs
  · rename_i ch _
    have noted : SlotsLawful (found (ch.target.getD 1) s).changer :=
      (slotsLawful_keptByCycle.occupancy _ (ch.target.getD 1) .present hslots).of_slots (by simp [found])
    split
    · rw [slideFound_tape]
      exact (hs.of_view (SameStore.applyTapeMark _ (found _ s)).sound).arriveSound (Changer.slot_lawful noted _)
    · exact hs.of_view (by simp)

theorem execCapstanPulse_soundLaw {s t : State} (h : execCapstanPulse s = .next t) (hs : SoundFits s.tape) :
    SoundFits t.tape := by
  refine keeps_of_guarded (P := fun s => SoundFits s.tape) h hs fun _ => hs.of_view ?_
  simp only [State.onTape_tape, Tape.countPulse]
  split <;> rfl

theorem execSoundTick_soundLaw {s t : State} (h : execSoundTick s = .next t) (hs : SoundFits s.tape) :
    SoundFits t.tape := by
  cases h
  exact hs.stepBase.stepDuck.of_view rfl

theorem execBaseRampEnd_soundLaw {s t : State} (h : execBaseRampEnd s = .next t) (hs : SoundFits s.tape) :
    SoundFits t.tape := by
  unfold execBaseRampEnd at h
  split at h
  · rename_i hr
    split at h <;> cases h
    · exact hs.endBase hr
    · exact hs
  · cases h
    exact hs

theorem execDuckRampEnd_soundLaw {s t : State} (h : execDuckRampEnd s = .next t) (hs : SoundFits s.tape) :
    SoundFits t.tape := by
  unfold execDuckRampEnd at h
  split at h
  · rename_i hr
    split at h <;> cases h
    · exact hs.endDuck hr
    · exact hs
  · cases h
    exact hs

theorem exec_soundLaw {c : Instr} {s t : State} (h : exec c s = .next t) (hslots : SlotLaw s) (hcues : CueStoreLaw s)
    (hs : SoundFits s.tape) : SoundFits t.tape := by
  have offers := soundLaw_keptByOffers
  have both : MapLawful s.cue ∧ SoundFits s.tape := ⟨hcues, hs⟩
  cases c with
  | setTapePosition v => exact execSetTapePosition_soundLaw h hs
  | setGain a => exact execSetGain_soundLaw h hs
  | setDuckDepth depth sw => exact execSetDuckDepth_soundLaw h hs
  | setMute on => exact execSetMute_soundLaw h hs
  | reset => exact execReset_soundLaw h hs
  | powerOnReset =>
    cases h
    exact ⟨by simp [powerOn, State.reset, Tape.reset], by simp [powerOn, State.reset, Tape.reset],
      by simp [powerOn, State.reset, Tape.reset], (fun _ e => nomatch e), (fun _ e => nomatch e)⟩
  | tapePlay | tapePause | tapeStop | tapeWind | cassetteRemoval | cassetteInsertion | runDownEnd | tapeEndTimeout
  | reelTimeout => exact hs.of_view (exec_store h rfl).sound
  | settleEnd =>
    exact keeps_of_guarded (P := fun s => SoundFits s.tape) h hs fun _ => settleEnd_soundLaw hslots hs
  | capstanPulse => exact execCapstanPulse_soundLaw h hs
  | reelPulse => exact keeps_of_guarded (P := fun s => SoundFits s.tape) h hs fun _ => hs.of_view rfl
  | soundTick => exact execSoundTick_soundLaw h hs
  | baseRampEnd => exact execBaseRampEnd_soundLaw h hs
  | duckRampEnd => exact execDuckRampEnd_soundLaw h hs
  | cueWordComplete stop => exact (offers.cueWordComplete h both).2
  | pulseCue => exact (offers.pulseCue h both).2
  | irFrame b => exact (offers.irFrame h both).2
  | irByteComplete b => exact (offers.irByteComplete h both).2
  | busDestinationDecided p b => exact (offers.busDestinationDecided h both).2
  | busFrameEnd p b => exact (offers.busFrameEnd h both).2
  | busByteReceived p b => exact (offers.busByteReceived h both).2
  | _ => exact (tape_readsOnly SoundFits).exec_keeps h (by simp [touches]) hs

/-- A step keeps a law under other laws that do not read the queue of waiting commands. -/
theorem step_cases {s t : State} (h : step s = .next t) :
    t = passMs s ∨ ∃ c rest, s.pending = c :: rest ∧ exec c { s with pending := rest } = .next t := by
  unfold step at h
  split at h
  · cases h
    exact .inl rfl
  · rename_i c rest hp
    exact .inr ⟨c, rest, hp, h⟩

/-- Settles O56: each law is kept by every command, those of the sound and the Loop Stack by the laws of the records and of
the change cycle that they rest on. -/
theorem tablesStayInRange : Obligations.TablesStayInRange := by
  unfold Obligations.TablesStayInRange
  intro s t h
  rcases step_cases h with rfl | ⟨c, rest, -, he⟩
  · refine ⟨id, id, fun _ _ hs => ?_, fun _ _ hs => hs⟩
    exact (soundLaw_iff _).mpr (((soundLaw_iff s).mp hs).of_view rfl)
  · refine ⟨exec_slotLaw (s := { s with pending := rest }) he, exec_cueStoreLaw (s := { s with pending := rest }) he,
      fun hslots hcues hs => ?_, fun hcyc hslots hs => ?_⟩
    · exact (soundLaw_iff t).mpr (exec_soundLaw he hslots hcues ((soundLaw_iff s).mp hs))
    · have hcyc : CycleLaw { s with pending := rest } := cycleLaw_readsOnly s _ (by simp [Block.same]) hcyc
      exact (loopLaw_iff t).mpr (exec_loopLaw he hcyc hslots ((loopLaw_iff s).mp hs))

end Sys2Proof.Machine
end

section
/-! PROOFS. The requests of the tray map: the reads of every block (O6), the slot writes (O7, O8), the options and masks
(O9). -/

namespace Sys2Proof.Machine

/-! ### Reads (O6) -/

theorem execReadSlot_eq {n : Nat} {s : State} (ha : s.link.accepts (.readSlot n) = true) :
    execReadSlot n s = .next (if slotInRange n then respond 4 .done (slotBytes n (s.changer.slot n)) s
      else respond 4 .badIndex [] s) := by
  unfold execReadSlot
  rw [hostRequest_of_accepts _ _ _ ha]
  split <;> rfl

theorem execReadProfile_eq {p : Nat} {s : State} (ha : s.link.accepts (.readProfile p) = true) :
    execReadProfile p s = .next (match profileIndex p with
      | some i => respond 24 .done (profileBytes s.thermal i) s
      | none => respond 24 .badIndex [] s) := by
  unfold execReadProfile
  rw [hostRequest_of_accepts _ _ _ ha]
  cases profileIndex p <;> rfl

theorem execReadCue_eq {n : Nat} {s : State} (ha : s.link.accepts (.readCue n) = true) :
    execReadCue n s = .next (if cueInRange n then respond 42 .done (cueEntryBytes n (s.cue.entry n)) s
      else respond 42 .badIndex [] s) := by
  unfold execReadCue
  rw [hostRequest_of_accepts _ _ _ ha]
  split <;> rfl

theorem execReadHandset_eq {n : Nat} {s : State} (ha : s.link.accepts (.readHandset n) = true) :
    execReadHandset n s = .next (if handsetInRange n then
        respond 49 .done
          (handsetBytes n (s.remote.handset n) ++ windowBytes s.remote.window ++ consoleBytes s.remote.console) s
      else respond 49 .badIndex [] s) := by
  unfold execReadHandset
  rw [hostRequest_of_accepts _ _ _ ha]
  split <;> rfl

theorem execReadNotice_eq {k : Nat} {s : State} (ha : s.link.accepts (.readNotice k) = true) :
    execReadNotice k s = .next (if h : 1 ≤ k ∧ k ≤ 30 then
        respond 61 .done (noticeBytes k s.link.notices[k - 1]) s
      else respond 61 .badIndex [] s) := by
  unfold execReadNotice
  rw [hostRequest_of_accepts _ _ _ ha]
  split <;> rfl

/-- A read with no operand answers its payload, with the state as it stands. -/
theorem read_of_accepts {c : Instr} {payload : State → List Byte} {s : State} (ha : s.link.accepts c = true) :
    hostRequest c (fun s => answer s (payload s)) s = .next (respond (requestCode c) .done (payload s) s) :=
  hostRequest_of_accepts _ _ _ ha

/-- Settles O6: every read is its owner's answer with the state as it stands, and the range check decides the rest. -/
theorem readsChangeNothing : Obligations.ReadsChangeNothing := by
  unfold Obligations.ReadsChangeNothing
  intro s
  refine ⟨fun n ha hn => ?_, fun n ha hn => ?_, fun ha => ?_, fun ha => ?_, fun ha => ?_, fun ha => ?_,
    fun p ha => ?_, fun p ha hp => ?_, fun ha => ?_, fun ha => ?_, fun n ha hn => ?_, fun n ha hn => ?_,
    fun ha => ?_, fun n ha hn => ?_, fun n ha hn => ?_, fun ha => ?_, fun i ha => ?_, fun k ha hk => ?_⟩
  · exact (execReadSlot_eq ha).trans (by rw [if_pos (by simpa [slotInRange] using hn)])
  · exact (execReadSlot_eq ha).trans
      (by rw [if_neg (by simp only [slotInRange, Bool.and_eq_true, decide_eq_true_eq]; omega)])
  · exact (read_of_accepts ha : execReadShow s = _)
  · exact (read_of_accepts ha : execReadDrive s = _)
  · exact (read_of_accepts ha : execReadLamp s = _)
  · exact (read_of_accepts ha : execReadCalibration s = _)
  · exact (execReadProfile_eq ha).trans (by simp [profileIndex])
  · exact (execReadProfile_eq ha).trans (by simp [profileIndex, show ¬p < 8 by omega])
  · exact (read_of_accepts ha : execReadThermal s = _)
  · exact (read_of_accepts ha : execReadTape s = _)
  · exact (execReadCue_eq ha).trans (by rw [if_pos (by simpa [cueInRange] using hn)])
  · exact (execReadCue_eq ha).trans
      (by rw [if_neg (by simp only [cueInRange, Bool.and_eq_true, decide_eq_true_eq]; omega)])
  · exact (read_of_accepts ha : execReadCueUnit s = _)
  · exact (execReadHandset_eq ha).trans (by rw [if_pos (by simpa [handsetInRange] using hn)])
  · exact (execReadHandset_eq ha).trans
      (by rw [if_neg (by simp only [handsetInRange, Bool.and_eq_true, decide_eq_true_eq]; omega)])
  · exact (read_of_accepts ha : execReadPort s = _)
  · exact (execReadNotice_eq ha).trans (by rw [dif_pos ⟨by omega, by omega⟩]; rfl)
  · exact (execReadNotice_eq ha).trans (by rw [dif_neg (by omega)])

/-! ### Slot writes (O7, O8) -/

/-- R2: a write request on slot records that fails a check is refused with its status code. -/
theorem execWriteSlot_refused {a : Nat} {set : FieldSet} {v : SlotValues} {s : State} {st : Status}
    (ha : s.link.accepts (.writeSlot a set v) = true) (h : slotWriteFault a a set v = some st) :
    execWriteSlot a set v s = .next (respond 1 st [] s) := by
  unfold execWriteSlot
  rw [hostRequest_of_accepts _ _ _ ha]
  simp only [h]
  rfl

theorem execLoadSlots_refused {a b : Nat} {set : FieldSet} {v : SlotValues} {s : State} {st : Status}
    (ha : s.link.accepts (.loadSlots a b set v) = true) (h : slotWriteFault a b set v = some st) :
    execLoadSlots a b set v s = .next (respond 2 st [] s) := by
  unfold execLoadSlots
  rw [hostRequest_of_accepts _ _ _ ha]
  simp only [h]
  rfl

theorem slotsInRange_iff (a b : Nat) :
    (slotInRange a && slotInRange b) = true ↔ (1 ≤ a ∧ a ≤ 140) ∧ 1 ≤ b ∧ b ≤ 140 := by simp [slotInRange]

theorem execRetireSlot_eq {a b : Nat} {s : State} (ha : s.link.accepts (.retireSlot a b) = true) :
    execRetireSlot a b s = .next (if (1 ≤ a ∧ a ≤ 140) ∧ 1 ≤ b ∧ b ≤ 140 then
        respond 3 .done (u8 (slotRangeCount a b)) (s.onChanger fun c => c.mapSlots a b SlotRecord.retire)
      else respond 3 .badIndex [] s) := by
  unfold execRetireSlot
  rw [hostRequest_of_accepts _ _ _ ha]
  simp only [slotsInRange_iff]
  split <;> rfl

theorem slotWriteFault_badRequest {a b : Nat} {set : FieldSet} {v : SlotValues} (h : fieldSetAny set = false) :
    slotWriteFault a b set v = some .badRequest := by simp [slotWriteFault, h]

theorem slotWriteFault_badIndex {a b : Nat} {set : FieldSet} {v : SlotValues} (h : fieldSetAny set = true)
    (hr : ¬((1 ≤ a ∧ a ≤ 140) ∧ 1 ≤ b ∧ b ≤ 140)) : slotWriteFault a b set v = some .badIndex := by
  have out : (slotInRange a && slotInRange b) = false := by
    simpa only [Bool.not_eq_true] using mt (slotsInRange_iff a b).mp hr
  simp [slotWriteFault, h, out]

theorem slotWriteFault_badValue {a b : Nat} {set : FieldSet} {v : SlotValues} (h : fieldSetAny set = true)
    (hr : (1 ≤ a ∧ a ≤ 140) ∧ 1 ≤ b ∧ b ≤ 140) (hv : slotValuesInRange set v = false) :
    slotWriteFault a b set v = some .badValue := by
  simp [slotWriteFault, h, (slotsInRange_iff a b).mpr hr, hv]

theorem slotWriteFault_passes {a b : Nat} {set : FieldSet} {v : SlotValues} (h : fieldSetAny set = true)
    (hr : (1 ≤ a ∧ a ≤ 140) ∧ 1 ≤ b ∧ b ≤ 140) (hv : slotValuesInRange set v = true) :
    slotWriteFault a b set v = none := by
  simp [slotWriteFault, h, (slotsInRange_iff a b).mpr hr, hv]

/-- Settles O7: the first of the three checks that fails gives the status code. -/
theorem slotWritesAreCheckedInOrder : Obligations.SlotWritesAreCheckedInOrder := by
  unfold Obligations.SlotWritesAreCheckedInOrder
  intro a b set v s
  refine ⟨fun ha => ⟨fun h => ?_, fun h hr => ?_, fun h hr hv => ?_⟩,
    fun ha => ⟨fun h => ?_, fun h hr => ?_, fun h hr hv => ?_⟩, fun ha hr => ?_⟩
  · exact execWriteSlot_refused ha (slotWriteFault_badRequest h)
  · exact execWriteSlot_refused ha (slotWriteFault_badIndex h fun hab => hr hab.1)
  · exact execWriteSlot_refused ha (slotWriteFault_badValue h ⟨hr, hr⟩ hv)
  · exact execLoadSlots_refused ha (slotWriteFault_badRequest h)
  · exact execLoadSlots_refused ha (slotWriteFault_badIndex h hr)
  · exact execLoadSlots_refused ha (slotWriteFault_badValue h hr hv)
  · exact (execRetireSlot_eq ha).trans (by rw [if_neg hr])

/-- A write of one slot changes the Slot Table alone. -/
theorem Changer.setSlot_eq (c : Changer) (n : Nat) (r : SlotRecord) :
    c.setSlot n r = { c with slots := (c.setSlot n r).slots } := by
  unfold Changer.setSlot
  split <;> rfl

theorem TapeMark.code_fromCode {n : Nat} (h : n ≤ 2) (old : TapeMark) : ((TapeMark.fromCode n).getD old).code = n := by
  match n, h with
  | 0, _ | 1, _ | 2, _ => rfl

theorem LoopMark.code_fromCode {mark count : Nat} {m : LoopMark} (h : LoopMark.fromCode mark count = some m) :
    m.code = (mark, count) := by
  unfold LoopMark.fromCode at h
  (repeat' split at h) <;> cases h <;> simp_all [LoopMark.code]

/-- R3: the mark a write names is the record's mark afterwards. -/
theorem SlotRecord.write_tapeMark_code {r : SlotRecord} {f : FieldSet} {v : SlotValues}
    (hv : slotValuesInRange f v = true) :
    (r.write f v).tapeMark.code = if f.tapeMark then v.tapeMark else r.tapeMark.code := by
  simp only [SlotRecord.write]
  split
  · rename_i named
    exact TapeMark.code_fromCode (by simp_all [slotValuesInRange]) _
  · rfl

theorem SlotRecord.write_loop_code {r : SlotRecord} {f : FieldSet} {v : SlotValues}
    (hv : slotValuesInRange f v = true) :
    (r.write f v).loop.code = if f.loop then (v.loop, v.loopCount) else r.loop.code := by
  simp only [SlotRecord.write]
  split
  · rename_i named
    have some : (LoopMark.fromCode v.loop v.loopCount).isSome = true := by simp_all [slotValuesInRange]
    obtain ⟨m, hm⟩ := Option.isSome_iff_exists.mp some
    rw [hm]
    exact LoopMark.code_fromCode hm
  · rfl

theorem execWriteSlot_taken {n : Nat} {set : FieldSet} {v : SlotValues} {s : State}
    (ha : s.link.accepts (.writeSlot n set v) = true) (h : slotWriteFault n n set v = none) :
    execWriteSlot n set v s =
      let t := s.onChanger fun c => c.setSlot n ((c.slot n).write set v)
      .next (respond 1 .done (slotBytes n (t.changer.slot n)) t) := by
  unfold execWriteSlot
  rw [hostRequest_of_accepts _ _ _ ha]
  simp only [h]
  rfl

theorem execLoadSlots_taken {a b : Nat} {set : FieldSet} {v : SlotValues} {s : State}
    (ha : s.link.accepts (.loadSlots a b set v) = true) (h : slotWriteFault a b set v = none) :
    execLoadSlots a b set v s = .next (respond 2 .done (u8 (slotRangeCount a b))
      (s.onChanger fun c => c.mapSlots a b fun r => r.write set v)) := by
  unfold execLoadSlots
  rw [hostRequest_of_accepts _ _ _ ha]
  simp only [h]
  rfl

/-- R4: a slot lies in a range, which goes round past 140 when its first is above its last. -/
theorem inSlotRange_iff (a b n : Nat) :
    inSlotRange a b n = true ↔ if a ≤ b then a ≤ n ∧ n ≤ b else a ≤ n ∨ n ≤ b := by
  unfold inSlotRange
  split <;> simp

/-- R4, R5: a range change as one event: the records inside, the records outside, and nothing else. -/
theorem mapSlots_effect {a b : Nat} {f : SlotRecord → SlotRecord} {s t : State}
    (ht : t = s.onChanger fun c => c.mapSlots a b f) :
    t = { s with changer := { s.changer with slots := t.changer.slots } } ∧
    ∀ n, 1 ≤ n ∧ n ≤ 140 →
      ((if a ≤ b then a ≤ n ∧ n ≤ b else a ≤ n ∨ n ≤ b) → t.changer.slot n = f (s.changer.slot n)) ∧
      (¬(if a ≤ b then a ≤ n ∧ n ≤ b else a ≤ n ∨ n ≤ b) → t.changer.slot n = s.changer.slot n) := by
  subst ht
  refine ⟨rfl, fun n hn => ⟨fun inside => ?_, fun outside => ?_⟩⟩
  · rw [State.onChanger_changer, Changer.slot_mapSlots _ _ _ _ _ hn, if_pos ((inSlotRange_iff a b n).mpr inside)]
  · rw [State.onChanger_changer, Changer.slot_mapSlots _ _ _ _ _ hn, if_neg (mt (inSlotRange_iff a b n).mp outside)]

/-- Settles O8: a slot write is one record's write, and a range is one change of the Slot Table. -/
theorem slotWritesAndRangesAreOneEvent : Obligations.SlotWritesAndRangesAreOneEvent := by
  unfold Obligations.SlotWritesAndRangesAreOneEvent
  refine ⟨fun n set v s ha hset hn hv => ⟨_, execWriteSlot_taken ha (slotWriteFault_passes hset ⟨hn, hn⟩ hv), ?_, ?_, ?_⟩,
    fun a b s hab => ⟨fun set v ha hset hv => ⟨_, execLoadSlots_taken ha (slotWriteFault_passes hset hab hv), ?_⟩,
      fun ha => ⟨_, (execRetireSlot_eq ha).trans (by rw [if_pos hab]; rfl), ?_⟩⟩⟩
  · exact congrArg (fun c => { s with changer := c }) (Changer.setSlot_eq _ _ _)
  · exact fun m hm => Changer.slot_setSlot_other _ _ hm
  · simp only [State.onChanger_changer, Changer.slot_setSlot_same _ _ hn]
    exact ⟨rfl, rfl, rfl, rfl, rfl, rfl, rfl, rfl, SlotRecord.write_tapeMark_code hv, rfl,
      SlotRecord.write_loop_code hv⟩
  · exact mapSlots_effect rfl
  · exact mapSlots_effect rfl

end Sys2Proof.Machine
end

section
/-! PROOFS. The options and masks (O9), the tray's coming and going (O10) and the gate (O11). -/

namespace Sys2Proof.Machine

/-! ### Options and masks (O9) -/

theorem optionTake_elim (old : Bool) (v : Option Nat) : optionTake old v = v.elim old (· == 1) := by cases v <;> rfl

theorem maskTake_elim (old : CueCode) (v : Option Nat) : maskTake old v = v.elim old (BitVec.ofNat 12) := by
  cases v <;> rfl

theorem optionInRange_iff (v : Option Nat) : optionInRange v = true ↔ v.getD 0 ≤ 1 := by
  match v with
  | none => simp [optionInRange]
  | some 0 => simp [optionInRange, onOff]
  | some 1 => simp [optionInRange, onOff]
  | some (n + 2) => simp [optionInRange, onOff]

theorem execSetOptions_eq {e b w : Option Nat} {s : State} (ha : s.link.accepts (.setOptions e b w) = true) :
    execSetOptions e b w s = .next (
      if e = none ∧ b = none ∧ w = none then respond 6 .badRequest [] s
      else if e.getD 0 ≤ 1 ∧ b.getD 0 ≤ 1 ∧ w.getD 0 ≤ 1 then
        let t := s.onChanger (Changer.setOptions e b w)
        respond 6 .done (flag t.changer.skipEmpty ++ flag t.changer.skipBlank ++ flag t.changer.wrap) t
      else respond 6 .badValue [] s) := by
  unfold execSetOptions
  rw [hostRequest_of_accepts _ _ _ ha]
  simp only [Bool.and_eq_true, optionInRange_iff, and_assoc]
  (repeat' split) <;> rfl

theorem execSetCueOptions_eq {c l : Option Nat} {s : State} (ha : s.link.accepts (.setCueOptions c l) = true) :
    execSetCueOptions c l s = .next (
      if c = none ∧ l = none then respond 36 .badRequest [] s
      else if c.getD 0 ≤ 1 ∧ l.getD 0 ≤ 1 then
        let t := s.onCue (CueUnit.setOptions c l)
        respond 36 .done (flag t.cue.confirm ++ flag t.cue.legacy) t
      else respond 36 .badValue [] s) := by
  unfold execSetCueOptions
  rw [hostRequest_of_accepts _ _ _ ha]
  simp only [Bool.and_eq_true, optionInRange_iff]
  (repeat' split) <;> rfl

/-- R136: the Cue Unit with the masks a request names. -/
def CueUnit.setMasks (g a b : Option Nat) (u : CueUnit) : CueUnit :=
  { u with maskGlobal := maskTake u.maskGlobal g, maskA := maskTake u.maskA a, maskB := maskTake u.maskB b }

theorem execSetMasks_eq {g a b : Option Nat} {s : State} (ha : s.link.accepts (.setMasks g a b) = true) :
    execSetMasks g a b s = .next (
      if g = none ∧ a = none ∧ b = none then respond 37 .badRequest [] s
      else if g.getD 0 ≤ 4095 ∧ a.getD 0 ≤ 4095 ∧ b.getD 0 ≤ 4095 then
        respond 37 .done (maskBytes (s.cue.setMasks g a b)) (s.onCue (CueUnit.setMasks g a b))
      else respond 37 .badValue [] s) := by
  unfold execSetMasks
  rw [hostRequest_of_accepts _ _ _ ha]
  (repeat' split) <;> rfl

theorem execSetNoticeMask_eq {m : List Nat} {s : State} (ha : s.link.accepts (.setNoticeMask m) = true) :
    execSetNoticeMask m s = .next (
      if m.length = 30 ∧ ∀ x ∈ m, x ≤ 1 then
        respond 59 .done ((maskOf m).toList.flatMap flag) (s.onLink fun l => { l with mask := maskOf m })
      else respond 59 .badValue [] s) := by
  unfold execSetNoticeMask
  rw [hostRequest_of_accepts _ _ _ ha]
  simp only [List.all_eq_true, decide_eq_true_eq]
  split
  · simp only [answer_status, answer_payload, answer_state, State.onLink_link]
    rfl
  · rfl

/-- R188: the mask is answered in the bytes it was set by. -/
theorem maskOf_bytes {m : List Nat} (hl : m.length = 30) (hm : ∀ x ∈ m, x ≤ 1) :
    (maskOf m).toList.flatMap flag = m.flatMap u8 := by
  have mask : (maskOf m).toList = m.map (· == 1) := by
    apply List.ext_getElem
    · simp [hl]
    · intro i hi _
      have hi : i < m.length := by simpa [hl] using hi
      simp [maskOf, List.getElem?_eq_getElem hi]
  have byte : ∀ x ∈ m, flag (x == 1) = u8 x := by
    intro x hx
    have := hm x hx
    interval_cases x <;> rfl
  rw [mask, List.flatMap_map]
  exact List.flatMap_congr byte

/-- Settles O9: the checks of each request in order, then the values it names. -/
theorem optionsAndMasksAreSet : Obligations.OptionsAndMasksAreSet := by
  unfold Obligations.OptionsAndMasksAreSet
  intro s
  refine ⟨fun e b w ha => ⟨fun h => ?_, fun h => ?_⟩, fun c l ha => ⟨fun h => ?_, fun h => ?_⟩,
    fun g a b ha => ⟨fun h => ?_, fun h => ?_⟩, fun m ha h => ?_, fun e b w ha hn hr => ?_, fun c l ha hn hr => ?_,
    fun g a b ha hn hr => ?_, fun m ha hl hm => ?_⟩
  · exact (execSetOptions_eq ha).trans (by rw [if_pos h])
  · refine (execSetOptions_eq ha).trans ?_
    rw [if_neg, if_neg]
    · omega
    · rintro ⟨rfl, rfl, rfl⟩
      simp at h
  · exact (execSetCueOptions_eq ha).trans (by rw [if_pos h])
  · refine (execSetCueOptions_eq ha).trans ?_
    rw [if_neg, if_neg]
    · omega
    · rintro ⟨rfl, rfl⟩
      simp at h
  · exact (execSetMasks_eq ha).trans (by rw [if_pos h])
  · refine (execSetMasks_eq ha).trans ?_
    rw [if_neg, if_neg]
    · omega
    · rintro ⟨rfl, rfl, rfl⟩
      simp at h
  · refine (execSetNoticeMask_eq ha).trans ?_
    obtain ⟨x, hx, above⟩ := h
    rw [if_neg fun ok => absurd (ok.2 x hx) (by omega)]
  · refine ⟨_, (execSetOptions_eq ha).trans (by rw [if_neg hn, if_pos hr]), ?_⟩
    simp only [State.onChanger, Changer.setOptions, optionTake_elim]
  · refine ⟨_, (execSetCueOptions_eq ha).trans (by rw [if_neg hn, if_pos hr]), ?_⟩
    simp only [State.onCue, CueUnit.setOptions, optionTake_elim]
  · refine ⟨s.onCue (CueUnit.setMasks g a b), (execSetMasks_eq ha).trans (by rw [if_neg hn, if_pos hr]; rfl), ?_⟩
    simp only [State.onCue, CueUnit.setMasks, maskTake_elim]
  · refine ⟨_, (execSetNoticeMask_eq ha).trans (by rw [if_pos ⟨hl, hm⟩, maskOf_bytes hl hm]), rfl, fun i => ?_⟩
    simp [maskOf]

/-! ### The tray (O10) -/

theorem ofLugs_slots (lugs : BitVec 2) : (TraySize.ofLugs lugs).slots = [50, 80, 100, 140].getD lugs.toNat 0 := by
  revert lugs
  decide

/-- R15: what was learned of every slot is forgotten, and nothing else of its record. -/
theorem Changer.slot_forget (c : Changer) {n : Nat} (h : 1 ≤ n ∧ n ≤ 140) :
    c.forget.slot n = { c.slot n with occupancy := .unknown } := by
  rw [Changer.forget, Changer.slot_mapSlots _ _ _ _ _ h, if_pos (by simp [inSlotRange, h])]

/-- R15, R64: what the tray's removal comes to. -/
def trayGone (s : State) : State :=
  raise .trayOut (finishChange .aborted
    (((s.onDrive Drive.trayRemoved).onLamp Lamp.trayRemoved).onChanger Changer.trayRemoved))

theorem execTrayRemoval_eq {s : State} (h : s.changer.tray ≠ none) : execTrayRemoval s = .next (trayGone s) := by
  simp only [execTrayRemoval, if_neg h]
  rfl

@[simp] theorem trayGone_changer (s : State) : (trayGone s).changer = { s.changer.trayRemoved with change := none } := by
  simp [trayGone]

@[simp] theorem trayGone_drive (s : State) : (trayGone s).drive = s.drive.trayRemoved := by simp [trayGone]

@[simp] theorem trayGone_lamp (s : State) : (trayGone s).lamp = s.lamp.trayRemoved := by simp [trayGone]

/-- R187: the change in flight is reported in the place of CHANGE_DONE. -/
theorem finishChange_notice {r : ChangeResult} {s : State} {ch : Change} (h : s.changer.change = some ch) :
    (finishChange r s).link.notices[0] = { arg := some (.changeDone ch.source r), mark := true } := by
  simp only [finishChange, h]
  exact raise_place_same (.changeDone ch.source r) _

theorem trayGone_frame (s : State) :
    trayGone s = { s with changer := (trayGone s).changer, drive := (trayGone s).drive, lamp := (trayGone s).lamp
                          link := (trayGone s).link } := by
  have blocks : (trayGone s).thermal = s.thermal ∧ (trayGone s).tape = s.tape ∧ (trayGone s).cue = s.cue ∧
      (trayGone s).remote = s.remote ∧ (trayGone s).bus = s.bus ∧ (trayGone s).pending = s.pending := by
    simp [trayGone]
  obtain ⟨thermal, tape, cue, remote, bus, pending⟩ := blocks
  rw [← thermal, ← tape, ← cue, ← remote, ← bus, ← pending]

/-- Settles O10: a removal in its parts, and a seating as one state. -/
theorem traysComeAndGo : Obligations.TraysComeAndGo := by
  unfold Obligations.TraysComeAndGo
  refine ⟨fun s => ⟨fun h => ?_, fun h => ⟨trayGone s, execTrayRemoval_eq h, trayGone_frame s, ?_, fun n hn => ?_, ?_, ?_,
    ?_, ?_, fun hb => ?_, fun hb => ?_, ?_, ?_, ?_, ?_, fun ch hch => ?_⟩⟩, fun lugs s h => ?_⟩
  · show execTrayRemoval s = _
    simp [execTrayRemoval, h]
  · simp [Changer.trayRemoved, Changer.forget, Changer.mapSlots]
  · rw [← Changer.slot_forget _ hn]
    simp [Changer.trayRemoved, Changer.slot]
  · simp [Lamp.trayRemoved]
  · simp [Drive.trayRemoved]
  · simp [Drive.trayRemoved]
  · simp [Drive.trayRemoved]
  · simp [Drive.trayRemoved, hb]
  · simp [Drive.trayRemoved, hb, Config.brakeMs]
  · simp only [trayGone_drive, Drive.trayRemoved]
    split <;> rfl
  · simp only [trayGone_drive, Drive.trayRemoved]
    split <;> rfl
  · simp only [trayGone_drive, Drive.trayRemoved]
    split <;> rfl
  · exact raise_place_same .trayOut _
  · refine (raise_place_other .trayOut _ (i := 0) (by decide)).trans (finishChange_notice ?_)
    simpa [Changer.trayRemoved, Changer.forget, Changer.mapSlots] using hch
  · refine ⟨TraySize.ofLugs lugs, ofLugs_slots lugs, ?_⟩
    show execTrayInsertion lugs s = _
    simp only [execTrayInsertion, if_pos h]
    rfl

/-! ### The gate (O11) -/

/-- Settles O11: by whether the level changes, and then by whether a slot is shown. -/
theorem gateChangesInShowing : Obligations.GateChangesInShowing := by
  unfold Obligations.GateChangesInShowing
  intro occupied s
  refine ⟨fun h => ?_, fun h => ⟨fun away => ?_, fun n hs hn => ?_⟩⟩
  · show execGateStateChange occupied s = _
    simp [execGateStateChange, h]
  · show execGateStateChange occupied s = _
    simp only [execGateStateChange, if_neg h]
    split
    · rename_i hs hn
      exact absurd away (by simp_all)
    · rfl
  · show execGateStateChange occupied s = _
    simp only [execGateStateChange, if_neg h, State.onDrive_changer, hs, hn, gateInShowing]
    cases occupied <;> rfl

end Sys2Proof.Machine
end

section
/-! PROOFS. What follows a brake, a first stall and a back-off (O25). -/

namespace Sys2Proof.Machine

@[simp] theorem Drive.release_lifter (d : Drive) : d.release.lifter = d.lifter := rfl

@[simp] theorem Drive.endRotation_lifter (d : Drive) : d.endRotation.lifter = d.lifter := rfl

/-- R52: after a stop the bridge goes OFF and nothing follows. -/
theorem brakeEnd_of_off {s : State} (h : s.drive.afterBrake = .off) : brakeEnd s = s.onDrive Drive.release := by
  simp [brakeEnd, h]

/-! ### What a brake was for, with the lifter UP -/

section

variable {s : State} (hup : s.drive.lifter = .up)
include hup

theorem brakeEnd_of_window (h : s.drive.afterBrake = .window) :
    brakeEnd s = windowBrakeEnd (s.onDrive Drive.release) := by
  simp [brakeEnd, h, hup]

theorem brakeEnd_of_backOff (h : s.drive.afterBrake = .backOff) :
    brakeEnd s = s.onDrive fun d =>
      { d.release with backingOff := true, backTally := 0 }.energize (d.lastDrive.getD .forward).opposite := by
  simp [brakeEnd, h, hup]
  rfl

theorem brakeEnd_of_resume {dir : Dir} (h : s.drive.afterBrake = .resume) (hdir : s.drive.motion.resumeDir = dir) :
    brakeEnd s = s.onDrive fun d => { d.release with corrections := 0 }.energize dir := by
  subst hdir
  simp [brakeEnd, h, hup]
  rfl

theorem brakeEnd_of_drive {dir : Dir} (h : s.drive.afterBrake = .drive dir) :
    brakeEnd s = s.onDrive fun d => d.release.energize dir := by
  simp [brakeEnd, h, hup]
  rfl

/-- R35, R60: with the lifter UP the entry to DROPPING begins the drop. -/
theorem enterDropping_of_up : enterDropping s =
    { s with
      changer := { s.changer with state := .dropping }
      drive := { s.drive with lifterDrive := .downward, lifterTimer := some 600 } } := by
  have notDown : (s.onChanger fun c => { c with state := .dropping }).drive.lifter ≠ .down := by simp [hup]
  exact if_neg notDown

end

/-! ### The window test -/

/-- R53 step 3: a motion with a target that has missed its window. -/
theorem windowBrakeEnd_of_miss {s : State} {c : Nat} (hm : s.drive.motion.target = some c)
    (hw : inWindow s.changer.size s.drive.position c = false) : windowBrakeEnd s = windowMiss s := by
  have off : s.drive.onTarget s.changer.size = false := by simp [Drive.onTarget, hm, hw]
  unfold windowBrakeEnd
  cases e : s.drive.motion with
  | turn | homeCentre => simp [off]
  | none | homeLift | homeSeek => simp [e, Motion.target] at hm

theorem windowMiss_of_correction {s : State} {c : Nat} (hm : s.drive.motion.target = some c)
    (hc : s.drive.corrections < 3) :
    windowMiss s = s.onDrive fun d => { d with corrections := d.corrections + 1 }.energize
      (if 0 < signedDistance s.changer.size d.position c then .backward else .forward) := by
  simp only [windowMiss, if_pos hc, State.onDrive, Drive.correctionDir, hm]

/-- R54: the first stall brakes, with a back-off to follow. -/
theorem stall_of_first {s : State} (h : s.drive.stalls = 0) :
    stall s = s.onDrive fun d => { d.brake .backOff with stalls := 1, backingOff := false, backTally := 0 } := by
  simp [stall, h]

theorem windowMiss_of_stall {s : State} (hc : 3 ≤ s.drive.corrections) : windowMiss s = stall s := by
  simp only [windowMiss, if_neg (show ¬s.drive.corrections < 3 by omega)]

/-- R12: the target that the current slot becomes is the change's. -/
theorem windowReached_of_up {s : State} {ch : Change} (hch : s.changer.change = some ch)
    (hup : s.drive.lifter = .up) : windowReached s =
    { s with
      changer := { s.changer with state := .dropping, current := ch.target }
      drive := { s.drive with lifterDrive := .downward, lifterTimer := some 600 } } := by
  have target : s.changer.target = ch.target := by simp [Changer.target, hch]
  rw [windowReached, enterDropping_of_up (by simpa using hup), ← target]
  rfl

theorem windowBrakeEnd_of_turn {s : State} {dir : Dir} {c : Nat} (hm : s.drive.motion = .turn dir c)
    (hw : inWindow s.changer.size s.drive.position c = true) :
    windowBrakeEnd s = windowReached (s.onDrive Drive.endRotation) := by
  simp [windowBrakeEnd, hm, Drive.onTarget, Motion.target, hw]

theorem windowBrakeEnd_of_centre {s : State} (hm : s.drive.motion = .homeCentre)
    (hw : inWindow s.changer.size s.drive.position 0 = true) :
    windowBrakeEnd s = enterDropping (s.onDrive Drive.endRotation) := by
  simp [windowBrakeEnd, hm, Drive.onTarget, Motion.target, hw]

/-! ### The commands -/

theorem execBrakeEnd_eq {s : State} (h : s.drive.bridge = .brake) : execBrakeEnd s = .next (brakeEnd s) := by
  simp only [execBrakeEnd, if_pos h]

theorem execStallWatchdogExpiry_eq {s : State} (h : s.drive.bridge.drives = true) (hw : s.drive.watchdog.isSome = true) :
    execStallWatchdogExpiry s = .next (stall s) := by
  simp only [execStallWatchdogExpiry, if_pos (And.intro h hw)]

theorem execBackOffComplete_eq {s : State} (h : s.drive.bridge.drives = true) (hb : s.drive.backingOff = true)
    (ht : 12 ≤ s.drive.backTally) : execBackOffComplete s =
      .next (s.onDrive fun d => { d with backingOff := false, backTally := 0 }.brake .resume) := by
  simp only [execBackOffComplete, if_pos (show _ ∧ _ ∧ _ from ⟨hb, ht, h⟩)]

/-- Settles O25: each of the drive's purposes for a brake by its own equation. -/
theorem brakesAndBackOffsEnd : Obligations.BrakesAndBackOffsEnd := by
  unfold Obligations.BrakesAndBackOffsEnd
  refine ⟨fun s hb => ?_, fun s hdr => ⟨fun hw h0 => ?_, fun hback htally => ?_⟩⟩
  · have run : exec .brakeEnd s = .next (brakeEnd s) := execBrakeEnd_eq hb
    intro off driving
    refine ⟨fun ha => ?_, fun hup => ⟨fun dir c ch ha hm hch hw => ?_, fun ha hm hw => ?_,
      fun c ha hm hw => ⟨fun hc => ?_, fun hc h0 => ?_⟩, fun last ha hlast => ?_, fun dir c ha hm => ?_,
      fun ha hm => ?_, fun dir ha => ?_⟩⟩
    · rw [run, brakeEnd_of_off ha]
      rfl
    · rw [run, brakeEnd_of_window hup ha, windowBrakeEnd_of_turn (s := s.onDrive Drive.release) hm hw,
        windowReached_of_up (s := (s.onDrive Drive.release).onDrive Drive.endRotation) hch hup]
      rfl
    · rw [run, brakeEnd_of_window hup ha, windowBrakeEnd_of_centre (s := s.onDrive Drive.release) hm hw,
        enterDropping_of_up (by simpa using hup)]
      rfl
    · rw [run, brakeEnd_of_window hup ha, windowBrakeEnd_of_miss (s := s.onDrive Drive.release) hm hw,
        windowMiss_of_correction (s := s.onDrive Drive.release) hm hc]
      rfl
    · rw [run, brakeEnd_of_window hup ha, windowBrakeEnd_of_miss (s := s.onDrive Drive.release) hm hw,
        windowMiss_of_stall (s := s.onDrive Drive.release) hc, stall_of_first (s := s.onDrive Drive.release) h0]
      rfl
    · rw [run, brakeEnd_of_backOff hup ha]
      simp [State.onDrive, hlast]
      rfl
    · rw [run, brakeEnd_of_resume (dir := dir) hup ha (by simp only [hm, Motion.resumeDir])]
      rfl
    · have forward : s.drive.motion.resumeDir = .forward := by
        rcases hm with hm | hm <;> simp only [hm, Motion.resumeDir]
      rw [run, brakeEnd_of_resume hup ha forward]
      rfl
    · rw [run, brakeEnd_of_drive hup ha]
      rfl
  · exact (execStallWatchdogExpiry_eq hdr hw).trans (by rw [stall_of_first h0]; rfl)
  · exact (execBackOffComplete_eq hdr hback (by omega)).trans rfl

end Sys2Proof.Machine
end

section
/-! PROOFS. The two resets (O54): what the RESET request leaves of each block, and the power-on values. -/

namespace Sys2Proof.Machine

theorem State.eq_of_blocks {s t : State} (changer : s.changer = t.changer) (drive : s.drive = t.drive)
    (lamp : s.lamp = t.lamp) (thermal : s.thermal = t.thermal) (tape : s.tape = t.tape) (cue : s.cue = t.cue)
    (remote : s.remote = t.remote) (bus : s.bus = t.bus) (link : s.link = t.link) (pending : s.pending = t.pending) :
    s = t := by
  cases s
  cases t
  simp_all

/-! ### The blocks at a RESET request -/

theorem Changer.forget_eq (c : Changer) :
    c.forget = { c with slots := c.slots.map fun r => { r with occupancy := .unknown } } := by
  have slots : c.forget.slots = c.slots.map fun r => { r with occupancy := .unknown } := by
    refine Vector.ext fun i hi => ?_
    have inRange : inSlotRange 1 140 (i + 1) = true := by simp [inSlotRange]; omega
    simp [Changer.forget, Changer.mapSlots, inRange]
  exact congrArg (fun v => { c with slots := v }) slots

/-- R47: RESET keeps the options, and forgets the occupancies alone of the records. -/
theorem Changer.resetRequest_eq (c : Changer) : c.resetRequest =
    { c with
      slots := c.slots.map fun r => { r with occupancy := .unknown }
      tray := none, homed := false, current := none, state := .noTray, held := false, dwell := 0
      dwellDue := false, loops := [], run := 0, queue := [], change := none, keptLoop := .none } := by
  unfold Changer.resetRequest
  rw [c.forget_eq]
  rfl

/-- R66: what a halt makes of the bridge and its timers: a drive brakes, and a brake runs to its end. -/
theorem Drive.halt_eq (d : Drive) : d.halt =
    { d with
      bridge := if d.bridge = .off then .off else .brake
      brakeTimer := if d.bridge.drives then some 40 else d.brakeTimer
      watchdog := if d.bridge.drives then none else d.watchdog
      afterBrake := if d.bridge = .off then d.afterBrake else .off } := by
  unfold Drive.halt
  cases e : d.bridge with
  | off | brake => cases d; subst e; rfl
  | forward | backward => rfl

theorem lampOff_lamp (s : State) : (lampOff s).lamp =
    if s.lamp.active then
      { s.lamp with state := .cooldown, dest := .off, window := none, nextStrike := none, warmUp := 0
                    lossTimer := none, coolDown := s.thermal.profile.coolTime * 1000 }
    else s.lamp := by
  unfold lampOff
  split <;> rfl

theorem lampOff_thermal (s : State) : (lampOff s).thermal =
    { s.thermal with duty := if s.lamp.active then 1000 else s.thermal.duty } := by
  unfold lampOff
  split <;> rfl

/-- R69: LAMP OFF reads the lamp and the active profile alone. -/
theorem lampOff_congr {s t : State} (lamp : t.lamp = s.lamp) (thermal : t.thermal = s.thermal) :
    (lampOff t).lamp = (lampOff s).lamp ∧ (lampOff t).thermal = (lampOff s).thermal := by
  rw [lampOff_lamp, lampOff_lamp, lampOff_thermal, lampOff_thermal, lamp, thermal]
  exact ⟨rfl, rfl⟩

/-- R86, R110: the lamp goes off, and then its own values and the thermal profile to follow. -/
theorem resetRequest_lamp_thermal (s : State) :
    (resetRequest s).lamp =
      { (lampOff s).lamp with fade := 0, ramp := none, darkHold := false, override := none, exposure := 0
                              govClass := 0, guard := false } ∧
    (resetRequest s).thermal = { (lampOff s).thermal with next := none } := by
  have off := lampOff_congr (s := s) (t := (s.onChanger Changer.resetRequest).onDrive Drive.atReset)
    (by simp) (by simp)
  simp [resetRequest, resetBlocks, lampResetRequest, Thermal.resetRequest, off]

theorem tapeResetTransport_tape (s : State) : (tapeResetTransport s).tape =
    match s.tape.transport with
    | .noTape => s.tape
    | .stopped => { s.tape with runDown := s.tape.runDown.map fun d => { d with next := .none } }
    | .playing | .paused =>
      { s.tape with transport := .stopped, runDown := none, endTimer := none, reelTimer := none }
    | .windingFwd | .windingBack =>
      { s.tape with transport := .stopped, runDown := some { left := 300, next := .none }
                    endTimer := none, reelTimer := none } := by
  unfold tapeResetTransport
  cases s.tape.transport <;> rfl

theorem Tape.endRamps_eq (t : Tape) : t.endRamps =
    { t with
      base := (t.baseRamp.map Ramp.b).getD t.base, baseRamp := none
      duckTerm := (t.duckRamp.map Ramp.b).getD t.duckTerm, duckRamp := none } := by
  unfold Tape.endRamps
  cases t.baseRamp <;> cases t.duckRamp <;> rfl

/-- R127: the transport stops, and a ramp in progress ends at its end value. -/
theorem resetRequest_tape_ramps {s : State} {t : Tape} (ht : (tapeResetTransport s).tape = t) :
    (resetRequest s).tape =
      { t with
        base := (s.tape.baseRamp.map Ramp.b).getD s.tape.base, baseRamp := none
        duckTerm := (s.tape.duckRamp.map Ramp.b).getD s.tape.duckTerm, duckRamp := none } := by
  subst ht
  rw [resetRequest_tape, Tape.endRamps_eq]
  unfold tapeResetTransport
  cases s.tape.transport <;> rfl

theorem CueUnit.resetRequest_eq (u : CueUnit) : u.resetRequest =
    { u with
      map := u.map.map fun e => { e with hits := 0 }
      rx := .idle, holding := none, burst := none, learn := .off, buffer := none } := by
  have map : (Vector.ofFn fun i : Fin 32 => { u.map[i] with hits := 0 }) = u.map.map fun e => { e with hits := 0 } :=
    Vector.ext fun i hi => by simp
  rw [← map]
  rfl

/-- R128: what a closing gate does to the Cue Unit, RESET does as well. -/
theorem CueUnit.gate_resetRequest (wasOpen isOpen : Bool) (u : CueUnit) :
    (u.gate wasOpen isOpen).resetRequest = u.resetRequest := by
  unfold CueUnit.gate
  split
  · rfl
  · split <;> rfl

theorem tapeResetTransport_cue (s : State) : (tapeResetTransport s).cue.resetRequest = s.cue.resetRequest := by
  unfold tapeResetTransport
  split
  case h_1 | h_2 => rfl
  all_goals exact CueUnit.gate_resetRequest _ _ _

theorem resetRequest_cue (s : State) : (resetRequest s).cue = s.cue.resetRequest := by
  simp [resetRequest, resetBlocks, tapeResetRequest, tapeResetTransport_cue]

/-- R182: the frames that the port itself sends stop at once, each with its receiver in TAIL. -/
theorem Bus.resetRequest_eq (b : Bus) : b.resetRequest =
    { b with
      slot := none, answer := none, errors := 0, goodRun := 0, state := .active
      rxOut := if b.originating then .tail else b.rxOut
      rxIn := if b.answering then .tail else b.rxIn } := by
  have answering : b.emptySlot.answering = b.answering := by
    unfold Bus.emptySlot
    split <;> rfl
  unfold Bus.resetRequest Bus.abandonAnswer
  rw [answering]
  unfold Bus.emptySlot
  split <;> split <;> rfl

theorem resetRequest_remote (s : State) : (resetRequest s).remote = s.remote.resetRequest := by
  simp [resetRequest, resetBlocks]

theorem resetRequest_bus (s : State) : (resetRequest s).bus = s.bus.resetRequest := by
  simp [resetRequest, resetBlocks]

theorem resetRequest_link (s : State) : (resetRequest s).link = s.link.emptyNotices := by
  simp [resetRequest, resetBlocks]

/-! ### The commands -/

theorem execReset_eq {s : State} (ha : s.link.accepts .reset = true) :
    execReset s = .next (respond 63 .done [] (resetRequest s)) := by
  unfold execReset
  rw [hostRequest_of_accepts _ _ _ ha]
  rfl

/-- R66: at the release of the pin a driving or braking bridge finishes its brake, and the end switches are read. -/
theorem Drive.powerOn_eq (d : Drive) : d.powerOn =
    { Drive.reset with
      bridge := if d.bridge = .off then .off else .brake
      brakeTimer := if d.bridge.drives then some 40 else d.brakeTimer
      swUp := d.swUp, swDown := d.swDown, endIn := d.endIn, endOut := d.endOut } := by
  unfold Drive.powerOn Drive.atReset
  rw [Drive.halt_eq]
  rfl

/-- Settles O54: the RESET request block by block, and the power-on values by computation. -/
theorem resetsRestoreTheMachine : Obligations.ResetsRestoreTheMachine := by
  unfold Obligations.ResetsRestoreTheMachine
  intro s drives bridge brakeTimer lamp tape
  refine ⟨fun ha => ?_, rfl, rfl, ?_⟩
  · refine (execReset_eq ha).trans (congrArg (Host.Outcome.next ∘ respond 63 .done []) (State.eq_of_blocks
      ?changer ?drive ?lamp ?thermal ?tape ?cue ?remote ?bus ?link ?pending))
    case changer => exact (resetRequest_changer s).trans s.changer.resetRequest_eq
    case drive =>
      rw [resetRequest_drive, Drive.atReset, Drive.halt_eq]
      rfl
    case lamp =>
      rw [(resetRequest_lamp_thermal s).1, lampOff_lamp]
    case thermal =>
      rw [(resetRequest_lamp_thermal s).2, lampOff_thermal]
    case tape => exact resetRequest_tape_ramps (tapeResetTransport_tape s)
    case cue => exact (resetRequest_cue s).trans s.cue.resetRequest_eq
    case remote => exact resetRequest_remote s
    case bus => exact (resetRequest_bus s).trans s.bus.resetRequest_eq
    case link => exact resetRequest_link s
    case pending => exact resetRequest_frame s
  · have run : exec .powerOnReset s = .next (powerOn s) := rfl
    rw [run, powerOn, Drive.powerOn_eq]
    rfl

end Sys2Proof.Machine
end

section
/-! PROOFS. The host's change requests: HOLD, RESUME and FLUSH (O17), HOME (O16), the checks of STEP and GOTO (O13) and
the Change Queue (O12). -/

namespace Sys2Proof.Machine

/-! ### Requests on the hold and the queue (O17) -/

/-- Settles O17: each of the three is taken in every state and is one update of the Changer. -/
theorem holdResumeFlush : Obligations.HoldResumeFlush := by
  unfold Obligations.HoldResumeFlush
  intro s
  refine ⟨fun ha => ?_, fun ha => ?_, fun ha => ?_⟩
  · exact (hostRequest_of_accepts _ _ _ ha : execHold s = _)
  · exact (hostRequest_of_accepts _ _ _ ha : execResume s = _)
  · exact (hostRequest_of_accepts _ _ _ ha : execFlush s = _)

/-! ### Homing (O16) -/

theorem execHome_eq {s : State} (ha : s.link.accepts .home = true) :
    execHome s = .next (respond 9 (offerHome s).2 [] (offerHome s).1) :=
  hostRequest_of_accepts _ _ _ ha

/-- R52: a drive ordered with the bridge OFF begins at once. -/
theorem Drive.start_of_off {d : Drive} {dir : Dir} (h : d.bridge = .off) : d.start dir = d.energize dir := by
  simp only [Drive.start, h]

/-- R56 step 2: the seek drives forward with both counts and the budget at 0. -/
theorem startSeek_of_off {s : State} (h : s.drive.bridge = .off) :
    startSeek s = s.onDrive fun d =>
      Drive.energize .forward { d with stalls := 0, corrections := 0, budget := 0, motion := .homeSeek } :=
  congrArg (fun d => { s with drive := d })
    (Drive.start_of_off (d := { s.drive with stalls := 0, corrections := 0, budget := 0, motion := .homeSeek }) h)

/-- R56 step 1: with the lifter not UP the homing begins with its lift. -/
theorem startHoming_of_not_up {src : Source} {s : State} (h : s.drive.lifter ≠ .up) :
    startHoming src s =
      { s with
        changer := { s.changer with
          state := .homing, keptLoop := .none, dwellDue := false
          change := some { source := src, kind := .home, loopback := false, target := none, dir := .forward } }
        lamp := s.lamp.dark
        drive := { s.drive with motion := .homeLift, lifterDrive := .upward, lifterTimer := some 600 } } :=
  if_neg h

/-- R56 step 2: with the lifter UP the homing begins with its seek. -/
theorem startHoming_of_up {src : Source} {s : State} (h : s.drive.lifter = .up) :
    startHoming src s = startSeek
      { s with
        changer := { s.changer with
          state := .homing, keptLoop := .none, dwellDue := false
          change := some { source := src, kind := .home, loopback := false, target := none, dir := .forward } }
        lamp := s.lamp.dark } :=
  if_pos h

/-- Settles O16: by changer state, and where homing starts by the lifter. -/
theorem homeStartsHoming : Obligations.HomeStartsHoming := by
  unfold Obligations.HomeStartsHoming
  intro s ha homing lifting seeking forgotten from_
  have run : exec .home s = _ := execHome_eq ha
  have starts (c : Changer) (h : offerHome s = taken (startHoming .host { s with changer := c })) : from_ c := by
    refine ⟨fun hup => ?_, fun hup hb => ?_⟩
    · rw [run, h, taken, startHoming_of_not_up (by exact hup)]
      rfl
    · rw [run, h, taken, startHoming_of_up (by exact hup), startSeek_of_off (by exact hb)]
      rfl
  refine ⟨fun h => starts _ ?_, fun h => starts _ ?_, fun h => ?_, fun h => ?_, fun h => ?_⟩
  · rcases h with h | h <;> simp only [offerHome, h]
  · simp only [offerHome, h]
    rfl
  · simp only [run, offerHome, h, taken]
  · simp only [run, offerHome, h, turnedAway]
  · rw [run]
    cases hs : s.changer.state with
    | fadingOut | lifting | rotating | dropping | settling | fadingIn => simp only [offerHome, hs, turnedAway]
    | noTray | unhomed | homing | showing | jammed => simp [hs] at h

/-! ### The checks of STEP and GOTO (O13) -/

theorem execStep_eq {k : Int} {s : State} (ha : s.link.accepts (.step k) = true) :
    execStep k s = .next (respond 7 (offerStep .host k s).2 [] (offerStep .host k s).1) :=
  hostRequest_of_accepts _ _ _ ha

theorem execGoto_eq {n : Nat} {s : State} (ha : s.link.accepts (.goto n) = true) :
    execGoto n s = .next (respond 8 (offerGoto .host false n s).2 [] (offerGoto .host false n s).1) :=
  hostRequest_of_accepts _ _ _ ha

/-- A request is carried by no link whose RESET pin is held. -/
theorem Link.resetPin_of_accepts {l : Link} {c : Instr} (h : l.accepts c = true) : l.resetPin = false := by
  simp only [Link.accepts, Bool.and_eq_true, Bool.not_eq_true'] at h
  exact h.1

/-- Homing is ordered whatever the link holds, and an answer replaces what the link held. -/
theorem respond_startHoming_link (code : Nat) (st : Status) (p : List Byte) (src : Source) (s : State)
    (ls : LinkStatus) :
    respond code st p (startHoming src { s with link := { s.link with status := ls } }) =
      respond code st p (startHoming src s) := by
  by_cases h : s.drive.lifter = .up
  · rw [startHoming_of_up h, startHoming_of_up (by exact h)]
    rfl
  · rw [startHoming_of_not_up h, startHoming_of_not_up (by exact h)]
    rfl

/-- R20 step 3: a request refused for want of a homed tray, against what HOME itself would do. -/
theorem refuseUnhomed_respond {c : Instr} {code : Nat} {s : State} (ha : s.link.accepts c = true)
    (h : exec c s = .next (respond code (refuseUnhomed .host s).2 [] (refuseUnhomed .host s).1)) :
    (s.changer.state ≠ .unhomed → exec c s = .next (respond code .notHomed [] s)) ∧
    (s.changer.state = .unhomed → ∃ t : State,
      exec .home { s with link := { s.link with status := .ready } } = .next (respond 9 .done [] t) ∧
      exec c s = .next (respond code .notHomed [] t)) := by
  refine ⟨fun hs => ?_, fun hs => ⟨startHoming .host { s with link := { s.link with status := .ready } }, ?_, ?_⟩⟩
  · rw [h]
    simp only [refuseUnhomed, if_neg hs, turnedAway]
  · have released : s.link.resetPin = false := Link.resetPin_of_accepts ha
    show execHome _ = _
    rw [execHome_eq (by exact Link.accepts_of_ready _ _ released rfl)]
    simp only [offerHome, hs, taken]
  · rw [h, respond_startHoming_link]
    simp only [refuseUnhomed, if_pos hs, turnedAway]

section

variable {src : Source} {k : Int} {s : State}

theorem offerStep_of_badValue (h : k = 0 ∨ 9 < k.natAbs) : offerStep src k s = turnedAway .badValue s := by
  simp only [offerStep, if_pos h]

theorem offerStep_of_noTray (hk : k ≠ 0 ∧ k.natAbs ≤ 9) (h : s.changer.tray = none) :
    offerStep src k s = turnedAway .notHomed s := by
  simp only [offerStep, if_neg (show ¬(k = 0 ∨ 9 < k.natAbs) by omega), if_pos h]

theorem offerStep_of_unhomed (hk : k ≠ 0 ∧ k.natAbs ≤ 9) (ht : s.changer.tray ≠ none) (h : s.changer.homed = false) :
    offerStep src k s = refuseUnhomed src s := by
  simp only [offerStep, if_neg (show ¬(k = 0 ∨ 9 < k.natAbs) by omega), if_neg ht, if_pos h]

/-- R22: a STEP that passes its checks and finds no place in the queue. -/
theorem offerStep_of_full (hk : k ≠ 0 ∧ k.natAbs ≤ 9) (ht : s.changer.tray ≠ none) (h : s.changer.homed = true)
    (hq : queueStep s.changer.queue src k = none) : offerStep src k s = turnedAway .queueFull s := by
  simp only [offerStep, if_neg (show ¬(k = 0 ∨ 9 < k.natAbs) by omega), if_neg ht, h, Bool.true_eq_false, if_false, hq]

/-- R22 to R25: a STEP that passes its checks and is taken into the queue. -/
theorem offerStep_of_queued {q : List Entry} (hk : k ≠ 0 ∧ k.natAbs ≤ 9) (ht : s.changer.tray ≠ none)
    (h : s.changer.homed = true) (hq : queueStep s.changer.queue src k = some q) :
    offerStep src k s = taken (enqueue q s) := by
  simp only [offerStep, if_neg (show ¬(k = 0 ∨ 9 < k.natAbs) by omega), if_neg ht, h, Bool.true_eq_false, if_false, hq]

end

section

variable {src : Source} {lb : Bool} {n : Nat} {s : State}

theorem offerGoto_of_badIndex (h : n = 0 ∨ 140 < n) : offerGoto src lb n s = turnedAway .badIndex s := by
  simp only [offerGoto, if_pos h]

theorem offerGoto_of_noTray (hn : 1 ≤ n ∧ n ≤ 140) (h : s.changer.tray = none) :
    offerGoto src lb n s = turnedAway .notHomed s := by
  simp only [offerGoto, if_neg (show ¬(n = 0 ∨ 140 < n) by omega), if_pos h]

theorem offerGoto_of_beyond (hn : 1 ≤ n ∧ n ≤ 140) (ht : s.changer.tray ≠ none) (h : s.changer.size < n) :
    offerGoto src lb n s = turnedAway .badIndex s := by
  simp only [offerGoto, if_neg (show ¬(n = 0 ∨ 140 < n) by omega), if_neg ht, if_pos h]

theorem offerGoto_of_unhomed (hn : 1 ≤ n ∧ n ≤ 140) (ht : s.changer.tray ≠ none) (hs : n ≤ s.changer.size)
    (h : s.changer.homed = false) : offerGoto src lb n s = refuseUnhomed src s := by
  simp only [offerGoto, if_neg (show ¬(n = 0 ∨ 140 < n) by omega), if_neg ht,
    if_neg (show ¬s.changer.size < n by omega), if_pos h]

/-- R20, R26: a GOTO that passes its checks enters the queue. -/
theorem offerGoto_of_homed (hn : 1 ≤ n ∧ n ≤ 140) (ht : s.changer.tray ≠ none) (hs : n ≤ s.changer.size)
    (h : s.changer.homed = true) :
    offerGoto src lb n s = taken (queueGoto { source := src, kind := .goto n, loopback := lb } s) := by
  simp only [offerGoto, if_neg (show ¬(n = 0 ∨ 140 < n) by omega), if_neg ht,
    if_neg (show ¬s.changer.size < n by omega), h, Bool.true_eq_false, if_false]

end

/-- Settles O13: the checks in their order, each by the equation of the offer that fails it. -/
theorem changeRequestsAreChecked : Obligations.ChangeRequestsAreChecked := by
  unfold Obligations.ChangeRequestsAreChecked
  intro s free unhomed
  refine ⟨fun k ha => ?_, fun n ha => ?_⟩
  · have run : exec (.step k) s = _ := execStep_eq ha
    refine ⟨fun hk => ?_, fun h0 hk ht => ?_, fun h0 hk ht hh => refuseUnhomed_respond ha ?_⟩
    · rw [run, offerStep_of_badValue hk, turnedAway]
    · rw [run, offerStep_of_noTray ⟨h0, hk⟩ ht, turnedAway]
    · rw [run, offerStep_of_unhomed ⟨h0, hk⟩ ht hh]
  · have run : exec (.goto n) s = _ := execGoto_eq ha
    refine ⟨fun hn => ?_, fun h1 hn ht => ?_, fun h1 hn ht hs => ?_, fun h1 hn ht hs hh => refuseUnhomed_respond ha ?_⟩
    · rw [run, offerGoto_of_badIndex hn, turnedAway]
    · rw [run, offerGoto_of_noTray ⟨h1, hn⟩ ht, turnedAway]
    · rw [run, offerGoto_of_beyond ⟨h1, hn⟩ ht hs, turnedAway]
    · rw [run, offerGoto_of_unhomed ⟨h1, hn⟩ ht hs hh]

/-! ### The Change Queue (O12) -/

/-- R31: outside SHOWING a queue is set and nothing is taken from it. -/
theorem enqueue_of_not_showing {q : List Entry} {s : State} (h : s.changer.state ≠ .showing) :
    enqueue q s = s.onChanger fun c => { c with queue := q } := if_neg h

/-- R22: a new entry finds room behind fewer than three entries and a tail. -/
theorem appendEntry_of_room {q : List Entry} {e : Entry} (h : q.length < 4) : appendEntry q e = some (q ++ [e]) :=
  if_pos h

theorem appendEntry_of_full {q : List Entry} {e : Entry} (h : 4 ≤ q.length) : appendEntry q e = none :=
  if_neg (by omega)

theorem queueStep_of_goto {front : List Entry} {tail : Entry} {n : Nat} {src : Source} {k : Int}
    (ht : tail.kind = .goto n) :
    queueStep (front ++ [tail]) src k = appendEntry (front ++ [tail]) (stepEntry src k) := by
  simp only [queueStep, List.getLast?_concat, ht]

/-- R23 to R25: a STEP offered behind a STEP. -/
theorem queueStep_of_step {front : List Entry} {tail : Entry} {j k : Int} {src : Source} (ht : tail.kind = .step j) :
    queueStep (front ++ [tail]) src k =
      if sameSign j k then
        if j.natAbs < 9 then some (front ++ [{ tail with kind := .step (mergeCount j k) }])
        else appendEntry (front ++ [tail]) (stepEntry src k)
      else if j + k = 0 then some front
      else if k.natAbs < j.natAbs then some (front ++ [{ tail with kind := .step (j + k) }])
      else some (front ++ [stepEntry src (j + k)]) := by
  simp only [queueStep, List.getLast?_concat, List.dropLast_concat, ht]

theorem sameSign_iff (j k : Int) : sameSign j k = true ↔ (0 < j ↔ 0 < k) := by
  rw [sameSign, beq_iff_eq, decide_eq_decide]

theorem mergeCount_eq (j k : Int) : mergeCount j k = max (-9) (min 9 (j + k)) := by
  unfold mergeCount clampInt
  omega

/-- R26: the tail of a full queue is displaced. -/
theorem queueGoto_of_full {e tail : Entry} {front : List Entry} {s : State} (hq : s.changer.queue = front ++ [tail])
    (hlen : front.length = 3) : queueGoto e s = enqueue (front ++ [e]) (reportDisplaced tail s) := by
  have full : appendEntry s.changer.queue e = none := appendEntry_of_full (by simp [hq, hlen])
  simp only [queueGoto, full]
  simp only [hq, List.getLast?_concat, List.dropLast_concat]

theorem queueGoto_of_room {e : Entry} {s : State} (h : s.changer.queue.length < 4) :
    queueGoto e s = enqueue (s.changer.queue ++ [e]) s := by
  simp only [queueGoto, appendEntry_of_room h]

/-- Settles O12: a STEP by the tail of the queue and the signs of the two counts, a GOTO by the room in the queue. -/
theorem theQueueTakesRequests : Obligations.TheQueueTakesRequests := by
  unfold Obligations.TheQueueTakesRequests
  refine ⟨fun k s ha h1 h9 ht hh hs => ?_, fun n s ha ht h1 hn hsize hh hs => ?_⟩
  · intro holds full fresh
    have run : exec (.step k) s = _ := execStep_eq ha
    have range : k ≠ 0 ∧ k.natAbs ≤ 9 := ⟨by omega, h9⟩
    have queued {q : List Entry} (h : queueStep s.changer.queue .host k = some q) : holds q := by
      rw [offerStep_of_queued range ht hh h, taken, enqueue_of_not_showing hs] at run
      exact run
    have refused (h : queueStep s.changer.queue .host k = none) : full := by
      rw [offerStep_of_full range ht hh h] at run
      exact run
    have appended {front : List Entry} {tail : Entry} (hq : s.changer.queue = front ++ [tail])
        (h : queueStep s.changer.queue .host k = appendEntry s.changer.queue fresh) :
        (front.length < 3 → holds (s.changer.queue ++ [fresh])) ∧ (3 ≤ front.length → full) := by
      have length : s.changer.queue.length = front.length + 1 := by simp [hq]
      exact ⟨fun _ => queued (h.trans (appendEntry_of_room (by omega))),
        fun _ => refused (h.trans (appendEntry_of_full (by omega)))⟩
    refine ⟨fun hq => queued ?_, fun front src n lb hq => appended hq ?_, fun front src j lb hq hj => ?_⟩
    · rw [hq]
      rfl
    · rw [hq]
      exact queueStep_of_goto rfl
    · have step := queueStep_of_step (front := front) (tail := { source := src, kind := .step j, loopback := lb })
        (k := k) (src := .host) rfl
      rw [← hq] at step
      refine ⟨fun same hj9 => queued ?_, fun same hj9 => appended hq ?_, fun zero => queued ?_,
        fun other less => queued ?_, fun other less => queued ?_⟩
      · rw [step, if_pos ((sameSign_iff j k).mpr same), if_pos hj9, mergeCount_eq]
      · rw [step, if_pos ((sameSign_iff j k).mpr same), if_neg (by omega), hq]
        rfl
      · rw [step, if_neg (by rw [sameSign_iff]; omega), if_pos zero]
      · rw [step, if_neg (by rwa [sameSign_iff]), if_neg (by omega), if_pos less]
      · rw [step, if_neg (by rwa [sameSign_iff]), if_neg (by omega), if_neg (by omega)]
        rfl
  · intro fresh
    have run : exec (.goto n) s = _ := execGoto_eq ha
    rw [offerGoto_of_homed ⟨h1, hn⟩ ht hsize hh, taken] at run
    refine ⟨fun room => ?_, fun front tail hq hlen => ?_⟩
    · rw [run, queueGoto_of_room room, enqueue_of_not_showing hs]
      rfl
    · intro told key reported
      rw [run, queueGoto_of_full hq hlen, enqueue_of_not_showing (by simpa using hs)]
      obtain ⟨source, kind, loopback⟩ := tail
      cases source <;> cases kind <;> rfl

end Sys2Proof.Machine
end

section
/-! PROOFS. The head of the queue taken from SHOWING (O14), the ends of the fades (O18), the empty gate (O22) and the
dwell (O23). -/

namespace Sys2Proof.Machine

/-! ### From SHOWING to the fade-out or the lift (R31, R34) -/

/-- R59: with the lifter not UP the entry to LIFTING drives it upward. -/
theorem enterLifting_of_not_up {s : State} (h : s.drive.lifter ≠ .up) :
    enterLifting s =
      { s with
        changer := { s.changer with state := .lifting }
        drive := { s.drive with lifterDrive := .upward, lifterTimer := some 600 } } :=
  if_neg h

/-- R34: with no light on the screen, or over a fade-out of 0, the lift begins at once. -/
theorem enterFadingOut_of_no_fade {s : State}
    (h : s.lamp.delivered = 0 ∨ s.changer.currentSlot.map SlotRecord.fadeOut = some 0) :
    enterFadingOut s = enterLifting (s.onLamp Lamp.dark) := by
  by_cases dark : s.lamp.delivered = 0
  · exact if_pos dark
  · obtain ⟨r, hr, h0⟩ := Option.map_eq_some_iff.mp (h.resolve_left dark)
    simp only [enterFadingOut, if_neg dark, hr, h0, if_true]
    rfl

/-- R34: light on the screen fades over the current slot's fade-out. -/
theorem enterFadingOut_of_fade {s : State} {f : Nat} (hd : s.lamp.delivered ≠ 0) (hf : f ≠ 0)
    (h : s.changer.currentSlot.map SlotRecord.fadeOut = some f) :
    enterFadingOut s =
      { s with
        changer := { s.changer with state := .fadingOut }
        lamp := { s.lamp with
          fade := s.lamp.delivered, ramp := some { a := s.lamp.delivered, b := 0, n := f, k := 0 } } } := by
  obtain ⟨r, hr, rfl⟩ := Option.map_eq_some_iff.mp h
  simp only [enterFadingOut, if_neg hd, hr, if_neg hf, State.onLamp, Lamp.fadeOut]
  rfl

/-- R31: an entry that has a target is taken. -/
theorem takeFrom_of_aim {e : Entry} {rest : List Entry} {s : State} {n : Nat} {dir : Dir}
    (h : s.changer.aim e = some (n, dir)) :
    takeFrom (e :: rest) s =
      enterFadingOut ((s.onChanger (Changer.take e rest n dir)).onDrive Drive.focusStopOrder) := by
  simp only [takeFrom, h]

/-- R32: an AUTO entry with no target is discarded. -/
theorem takeFrom_of_no_aim {e : Entry} {rest : List Entry} {s : State} (h : s.changer.aim e = none) :
    takeFrom (e :: rest) s = takeFrom rest (discardAtTrayEnd rest s) := by
  simp only [takeFrom, h]

theorem focusStopOrder_lifter (d : Drive) : d.focusStopOrder.lifter = d.lifter := by
  unfold Drive.focusStopOrder
  split <;> rfl

/-- R31, R34: an entry taken from SHOWING departs from it, the Loop Stack emptied by a GOTO that is no loop-back. -/
theorem takeFrom_departs {e : Entry} {rest : List Entry} {s : State} {n : Nat} {dir : Dir} {loops : List LoopFrame}
    (h : s.changer.aim e = some (n, dir)) (hl : loops = if e.clearsLoops then [] else s.changer.loops) :
    Departs { source := e.source, kind := e.kind.change, loopback := e.loopback, target := some n, dir := dir } rest
      loops s (takeFrom (e :: rest) s) := by
  subst hl
  rw [takeFrom_of_aim h]
  refine ⟨fun f hd hf hfade => ?_, fun dark hup => ?_⟩
  · rw [enterFadingOut_of_fade (by exact hd) hf (by exact hfade)]
    rfl
  · rw [enterFadingOut_of_no_fade (by exact dark), enterLifting_of_not_up (by simpa [focusStopOrder_lifter] using hup)]
    rfl

/-- A departure overwrites the queue, the Loop Stack and the finding of the dwell, whatever they were. -/
theorem Departs.of_queue_loops {ch : Change} {q : List Entry} {loops : List LoopFrame} {s t : State} (q' : List Entry)
    (loops' : List LoopFrame) (due : Bool)
    (h : Departs ch q loops { s with changer := { s.changer with queue := q', loops := loops', dwellDue := due } } t) :
    Departs ch q loops s t := h

theorem pump_of_showing {s : State} (h : s.changer.state = .showing) : pump s = takeFrom s.changer.queue s := if_pos h

/-- R31: in SHOWING the head of the queue set is taken. -/
theorem enqueue_of_showing {q : List Entry} {s : State} (h : s.changer.state = .showing) :
    enqueue q s = takeFrom q (s.onChanger fun c => { c with queue := q }) := if_pos h

/-- R31: in SHOWING a queue of one entry with a target is taken at once. -/
theorem enqueue_departs {e : Entry} {s : State} {n : Nat} {dir : Dir} {loops : List LoopFrame}
    (hs : s.changer.state = .showing) (h : s.changer.aim e = some (n, dir))
    (hl : loops = if e.clearsLoops then [] else s.changer.loops) :
    Departs { source := e.source, kind := e.kind.change, loopback := e.loopback, target := some n, dir := dir } [] loops
      s (enqueue [e] s) := by
  rw [enqueue_of_showing hs]
  exact Departs.of_queue_loops [e] s.changer.loops s.changer.dwellDue (takeFrom_departs h hl)

/-- Settles O14: the request passes its checks, stands alone in the queue and is taken. -/
theorem changesAreTakenInShowing : Obligations.ChangesAreTakenInShowing := by
  unfold Obligations.ChangesAreTakenInShowing
  intro s hs hh ht hq
  refine ⟨fun n ha h1 hn hsize => ?_, fun k n dir ha h1 h9 haim => ?_⟩
  · have run : exec (.goto n) s = _ := execGoto_eq ha
    rw [offerGoto_of_homed ⟨h1, hn⟩ ht hsize hh, queueGoto_of_room (by simp [hq]), hq] at run
    exact ⟨_, run, enqueue_departs (e := { source := .host, kind := .goto n, loopback := false }) hs rfl rfl⟩
  · have run : exec (.step k) s = _ := execStep_eq ha
    rw [offerStep_of_queued ⟨by omega, h9⟩ ht hh (q := [stepEntry .host k]) (by rw [hq]; rfl)] at run
    exact ⟨_, run, enqueue_departs hs haim rfl⟩

/-! ### The ends of the fades (O18) -/

/-- R36, R37, R40: the change in flight ends with its CHANGE_DONE. -/
theorem finishChange_of_some {r : ChangeResult} {s : State} {ch : Change} (h : s.changer.change = some ch) :
    finishChange r s = raise (.changeDone ch.source r) (s.onChanger fun c => { c with change := none }) := by
  simp only [finishChange, h]

/-- R36: SHOWING, with the end of the change reported, and then the head of the queue. -/
theorem enterShowing_of_change {s : State} {ch : Change} (h : s.changer.change = some ch) :
    enterShowing s = pump (raise (.changeDone ch.source .shown)
      { s with changer := { s.changer with state := .showing, dwellDue := false, change := none } }) := by
  rw [enterShowing, finishChange_of_some (by exact h)]
  rfl

/-- R31: in SHOWING an empty queue is left, and a head with a target departs. -/
theorem pump_cases {s : State} (hs : s.changer.state = .showing) :
    (s.changer.queue = [] → pump s = s) ∧
    ∀ e rest n dir loops, s.changer.queue = e :: rest → s.changer.aim e = some (n, dir) →
      (loops = if e.clearsLoops then [] else s.changer.loops) →
      Departs { source := e.source, kind := e.kind.change, loopback := e.loopback, target := some n, dir := dir } rest
        loops s (pump s) := by
  rw [pump_of_showing hs]
  exact ⟨fun hq => by rw [hq]; rfl, fun e rest n dir loops hq haim hl => by rw [hq]; exact takeFrom_departs haim hl⟩

theorem execFadeOutEnd_eq {s : State} (hs : s.changer.state = .fadingOut) (hr : s.lamp.ramp = none) :
    execFadeOutEnd s = .next (enterLifting s) := if_pos ⟨hs, hr⟩

theorem execFadeInEnd_eq {s : State} (hs : s.changer.state = .fadingIn) (hr : s.lamp.ramp = none) :
    execFadeInEnd s = .next (enterShowing s) := if_pos ⟨hs, hr⟩

/-- Settles O18: the entry to LIFTING, and the entry to SHOWING with what its queue brings. -/
theorem fadesEndTheirPhase : Obligations.FadesEndTheirPhase := by
  unfold Obligations.FadesEndTheirPhase
  intro s hr
  refine ⟨fun hs hup => ?_, fun ch hs hch => ?_⟩
  · have run : exec .fadeOutEnd s = _ := execFadeOutEnd_eq hs hr
    rw [run, enterLifting_of_not_up hup]
  · intro shown
    have run : exec .fadeInEnd s = .next (pump shown) :=
      (execFadeInEnd_eq hs hr).trans (by rw [enterShowing_of_change hch])
    obtain ⟨stays, departs⟩ := pump_cases (s := shown) rfl
    refine ⟨fun hq => ?_, fun e rest n dir hq haim => ⟨_, run, departs e rest n dir _ hq haim ?_⟩⟩
    · rw [run, stays hq]
    · obtain ⟨source, kind, loopback⟩ := e
      cases kind <;> cases loopback <;> rfl

/-! ### The empty gate (O22) -/

theorem execSettleEnd_eq {s : State} (hs : s.changer.state = .settling) (ht : s.drive.settleTimer.isSome = true) :
    execSettleEnd s = .next (settleEnd (s.onDrive fun d => { d with settleTimer := none })) := if_pos ⟨hs, ht⟩

theorem settleEnd_of_empty {s : State} {ch : Change} {n : Nat} (hg : s.drive.gate = false)
    (hch : s.changer.change = some ch) (hn : ch.target = some n) : settleEnd s = gateEmpty n ch s := by
  simp [settleEnd, hch, hn, hg]

theorem ChangeKind.isStep_iff (kind : ChangeKind) : kind.isStep = true ↔ ∃ k, kind = .step k := by
  cases kind <;> simp [ChangeKind.isStep]

/-- R37: when an empty gate chains on. -/
theorem Changer.chains_iff (c : Changer) (ch : Change) (slot : Nat) :
    c.chains ch slot = true ↔
      c.skipEmpty = true ∧ (∃ k, ch.kind = .step k) ∧ c.run < 3 ∧
      ¬(ch.source = .auto ∧ c.wrap = false ∧ slot = c.size) := by
  have stops : (ch.source == .auto && !c.wrap && slot == c.size) = true ↔
      ch.source = .auto ∧ c.wrap = false ∧ slot = c.size := by simp [and_assoc]
  rw [← stops, Changer.chains]
  generalize (ch.source == .auto && !c.wrap && slot == c.size) = stop
  simp [ChangeKind.isStep_iff, and_assoc]

/-- R37: with the slot noted EMPTY, a change that chains lifts for its next slot. -/
theorem gateEmpty_of_chains {n : Nat} {ch : Change} {s : State}
    (h : (s.changer.setOccupancy n .empty).chains ch n = true) (hup : s.drive.lifter ≠ .up) :
    gateEmpty n ch s = raise (.slotEmpty n) { s with
      changer := { s.changer.setOccupancy n .empty with
        state := .lifting, run := s.changer.run + 1
        change := some { ch with target := some (neighbour s.changer.size n ch.dir) } }
      drive := { s.drive with lifterDrive := .upward, lifterTimer := some 600 } } := by
  have size : (s.changer.setOccupancy n .empty).size = s.changer.size := by simp [Changer.size]
  have run : (s.changer.setOccupancy n .empty).run = s.changer.run := by simp
  refine (if_pos h).trans ?_
  rw [enterLifting_of_not_up (by simpa using hup), ← size, ← run]
  rfl

/-- R37: with the slot noted EMPTY, a change that does not chain ends dark. -/
theorem gateEmpty_of_dark {n : Nat} {ch : Change} {s : State}
    (h : ¬(s.changer.setOccupancy n .empty).chains ch n = true) (hch : s.changer.change = some ch) :
    gateEmpty n ch s = pump (raise (.changeDone ch.source .dark) (raise (.slotEmpty n) { s with
      changer := { s.changer.setOccupancy n .empty with
        state := .showing, dwell := 0, dwellDue := false, keptLoop := .none, change := none }
      lamp := { s.lamp with darkHold := false } })) := by
  refine (if_neg h).trans ?_
  rw [showDark, finishChange_of_some (by simpa using hch)]
  rfl

/-- Settles O22: by whether the change chains on. -/
theorem anEmptyGateChainsOrShowsDark : Obligations.AnEmptyGateChainsOrShowsDark := by
  unfold Obligations.AnEmptyGateChainsOrShowsDark
  intro s ch n hs ht hg hch hn hup emptied bars dark
  have run : exec .settleEnd s = .next (gateEmpty n ch (s.onDrive fun d => { d with settleTimer := none })) :=
    (execSettleEnd_eq hs ht).trans (congrArg _ (settleEnd_of_empty hg hch hn))
  have chains : emptied.chains ch n = true ↔
      s.changer.skipEmpty = true ∧ (∃ k, ch.kind = .step k) ∧ s.changer.run < 3 ∧ ¬bars := by
    rw [Changer.chains_iff]
    simp [emptied, bars, Changer.size]
  refine ⟨fun k hskip hk hrun hbars => ?_, fun why => ?_⟩
  · rw [run, gateEmpty_of_chains (by exact chains.mpr ⟨hskip, ⟨k, hk⟩, hrun, hbars⟩) (by exact hup)]
    rfl
  · have stops : ¬emptied.chains ch n = true := by
      rw [chains]
      rintro ⟨hskip, ⟨k, hk⟩, hrun, hbars⟩
      rcases why with h | h | h | h
      · simp [hskip] at h
      · exact h k hk
      · omega
      · exact hbars h
    have run : exec .settleEnd s = .next (pump dark) := run.trans (congrArg _ (gateEmpty_of_dark stops hch))
    obtain ⟨stays, departs⟩ := pump_cases (s := dark) rfl
    have queue : dark.changer.queue = s.changer.queue := by simp [dark, emptied]
    have loops : dark.changer.loops = s.changer.loops := by simp [dark, emptied]
    refine ⟨fun hq => ?_, fun e rest m dir hq haim => ⟨_, run, departs e rest m dir _ (queue.trans hq) haim ?_⟩⟩
    · rw [run, stays (queue.trans hq)]
    · rw [loops]
      obtain ⟨source, kind, loopback⟩ := e
      cases kind <;> cases loopback <;> rfl

/-! ### The dwell (O23) -/

/-- R41: when the dwell timer counts. -/
theorem Changer.dwellRuns_iff (c : Changer) :
    c.dwellRuns = true ↔ c.state = .showing ∧ c.held = false ∧ c.queue = [] ∧
      ∃ n, c.current = some n ∧ (c.slot n).dwell ≠ 0 := by
  unfold Changer.dwellRuns Changer.currentSlot
  cases c.current <;> simp [and_assoc]

theorem execDwellTenth_of_runs {s : State} {n : Nat} (h : s.changer.dwellRuns = true)
    (hn : s.changer.current = some n) :
    execDwellTenth s = .next { s with changer := { s.changer with
      dwell := min 9999 (s.changer.dwell + 1)
      dwellDue := decide ((s.changer.slot n).dwell ≤ min 9999 (s.changer.dwell + 1)) } } := by
  simp only [execDwellTenth, if_pos h, State.onChanger, Changer.countDwell, Changer.currentSlot, hn, Option.map_some]
  rfl

theorem execDwellTenth_of_stands {s : State} (h : ¬s.changer.dwellRuns = true) : execDwellTenth s = .next s := if_neg h

section

variable {s : State} (h : s.changer.wrap = true ∨ s.changer.current ≠ some s.changer.size)
  (hs : s.changer.state = .showing) (ht : s.changer.tray ≠ none) (hh : s.changer.homed = true)
  (hq : s.changer.queue = [])
include h ht hh hq

/-- R43: a STEP of AUTO, where the tray does not end at the current slot. -/
theorem autoStep_of_step : autoStep s = enqueue [stepEntry .auto 1] s := by
  have goes : ¬(s.changer.wrap = false ∧ s.changer.current = some s.changer.size) := by
    rcases h with h | h <;> simp [h]
  have queued : queueStep s.changer.queue .auto 1 = some [stepEntry .auto 1] := by rw [hq]; rfl
  rw [autoStep, if_neg goes, offerStep_of_queued (by decide) ht hh queued, taken_state]

include hs

/-- R43: the STEP of AUTO is taken at once. -/
theorem autoStep_departs {n : Nat} {dir : Dir} (haim : s.changer.aim (stepEntry .auto 1) = some (n, dir)) :
    Departs { source := .auto, kind := .step 1, loopback := false, target := some n, dir := dir } [] s.changer.loops
      s (autoStep s) := by
  rw [autoStep_of_step h ht hh hq]
  exact enqueue_departs hs haim rfl

/-- R32: the STEP of AUTO is discarded where its walk ends at slot N with wrap off. -/
theorem autoStep_of_no_aim (haim : s.changer.aim (stepEntry .auto 1) = none) :
    autoStep s = raise (.trayEnd s.changer.size)
      { s with changer := { s.changer with run := 0, held := true, dwellDue := false } } := by
  rw [autoStep_of_step h ht hh hq, enqueue_of_showing hs, takeFrom_of_no_aim (by exact haim), takeFrom,
    discardAtTrayEnd]
  simp only [State.onChanger, ← hq]
  rfl

end

/-- R43: at slot N with wrap off the show is held. -/
theorem autoStep_of_end {s : State} (hw : s.changer.wrap = false) (hc : s.changer.current = some s.changer.size) :
    autoStep s = raise (.trayEnd s.changer.size) (setHold true s) := if_pos ⟨hw, hc⟩

/-- R43, R45: the expiry of a slot that is no LOOP-END, or with no frame to go back to. -/
theorem expireDwell_of_plain {s : State} (h : s.changer.keptLoop ≠ .close ∨ s.changer.loops = []) :
    expireDwell s = autoStep (s.onChanger fun c => { c with dwellDue := false }) := by
  simp only [expireDwell]
  split
  · rename_i hk hl
    exact absurd h (by simp_all)
  · rfl

/-- R45: the expiry of a LOOP-END with a frame on the Loop Stack. -/
theorem expireDwell_of_loop {s : State} {top : LoopFrame} {more : List LoopFrame} (hk : s.changer.keptLoop = .close)
    (hl : s.changer.loops = top :: more) :
    expireDwell s = loopBack top more (s.onChanger fun c => { c with dwellDue := false }) := by
  simp only [expireDwell, State.onChanger_changer, hk, hl]

theorem execDwellExpiry_eq {s : State} (hd : s.changer.dwellDue = true) (hr : s.changer.dwellRuns = true) :
    execDwellExpiry s = .next (expireDwell s) := if_pos ⟨hd, hr⟩

/-- Settles O23: the tenth by the dwell's conditions; the expiry by the loop mark and the frame, and from there as a
plain expiry or a loop-back. -/
theorem theDwellRunsAndExpires : Obligations.TheDwellRunsAndExpires := by
  unfold Obligations.TheDwellRunsAndExpires
  refine ⟨fun s => ⟨fun n hn hs hh hq hd => ?_, fun stops => ?_⟩, fun s => ?_⟩
  · exact execDwellTenth_of_runs (s.changer.dwellRuns_iff.mpr ⟨hs, hh, hq, n, hn, hd⟩) hn
  · refine execDwellTenth_of_stands ?_
    rw [Changer.dwellRuns_iff]
    rintro ⟨hs, hh, hq, n, hn, hd⟩
    rcases stops with h | h | h | h | ⟨m, hm, h⟩
    · simp [h] at hn
    · exact h hs
    · simp [hh] at h
    · exact h hq
    · cases hm.symm.trans hn
      exact hd h
  · intro due
    refine ⟨fun no => if_neg ?_, ?_⟩
    · rw [Changer.dwellRuns_iff]
      exact no
    rintro ⟨hd, hs, hheld, hq, hn⟩ hh ht wrapped plain
    have run : exec .dwellExpiry s = .next (expireDwell s) :=
      execDwellExpiry_eq hd (s.changer.dwellRuns_iff.mpr ⟨hs, hheld, hq, hn⟩)
    have goesOn (loops : List LoopFrame)
        (h : expireDwell s = autoStep { s with changer := { s.changer with loops := loops, dwellDue := false } }) :
        plain loops := by
      let taken : State := { s with changer := { s.changer with loops := loops, dwellDue := false } }
      rw [h] at run
      refine ⟨fun hw hc => run.trans ?_, fun goes => ⟨fun haim => run.trans ?_, fun m dir haim => ⟨_, run, ?_⟩⟩⟩
      · exact congrArg _ (autoStep_of_end (s := taken) hw hc)
      · exact congrArg _ (autoStep_of_no_aim (s := taken) goes hs ht hh hq haim)
      · exact Departs.of_queue_loops s.changer.queue loops false (autoStep_departs (s := taken) goes hs ht hh hq haim)
    refine ⟨fun h => goesOn _ (expireDwell_of_plain h), fun top more hk hl => ⟨fun h0 => goesOn _ ?_,
      fun h0 h1 h140 hsize => ?_⟩⟩
    · rw [expireDwell_of_loop hk hl]
      exact if_pos h0
    · let counted : State := { s with changer := { s.changer with
        loops := { top with remaining := top.remaining - 1 } :: more, dwellDue := false } }
      have back : expireDwell s = (offerGoto .auto true top.start counted).1 := by
        rw [expireDwell_of_loop hk hl]
        exact if_neg h0
      rw [back, offerGoto_of_homed ⟨h1, h140⟩ (by exact ht) (by exact hsize) (by exact hh),
        queueGoto_of_room (by simp [counted, hq]), (hq : counted.changer.queue = [])] at run
      refine ⟨_, run, ?_⟩
      exact Departs.of_queue_loops s.changer.queue ({ top with remaining := top.remaining - 1 } :: more) false
        (enqueue_departs (e := { source := .auto, kind := .goto top.start, loopback := true }) hs rfl rfl)

end Sys2Proof.Machine
end

section
/-! PROOFS. The target of a change: the walk round the tray slot by slot (O15). -/

namespace Sys2Proof.Machine

/-! ### Places round the tray -/

/-- The slot at place x round a tray of n slots, slot 1 being at place 0. -/
def slotAt (n : Nat) (x : Int) : Nat := (x % n).toNat + 1

/-- R32: the slot a STEP computes is k places round the tray. -/
theorem stepSlot_eq_slotAt (n current : Nat) (k : Int) : stepSlot n current k = slotAt n ((current : Int) - 1 + k) :=
  rfl

/-- One place further in a direction. -/
def Dir.sign : Dir → Int
  | .forward => 1
  | .backward => -1

/-- R32: the next slot of a walk is one place further round the tray. -/
theorem neighbour_slotAt {n : Nat} (hn : 1 ≤ n) (x : Int) (dir : Dir) :
    neighbour n (slotAt n x) dir = slotAt n (x + dir.sign) := by
  have low := Int.emod_nonneg x (show (n : Int) ≠ 0 by omega)
  have high := Int.emod_lt_of_pos x (show (0 : Int) < n by omega)
  have here : slotAt n x = (x % n).toNat + 1 := rfl
  have there : slotAt n (x + dir.sign) = ((x % n + dir.sign) % n).toNat + 1 := by
    rw [Int.emod_add_emod]
    rfl
  cases dir with
  | forward =>
    have place : (x % n + 1) % n = if x % n + 1 = n then 0 else x % n + 1 := by
      split
      · rename_i last
        rw [last, Int.emod_self]
      · exact Int.emod_eq_of_lt (by omega) (by omega)
    simp only [Dir.sign] at there
    simp only [Dir.sign, neighbour]
    split at place <;> split <;> omega
  | backward =>
    have place : (x % n + -1) % n = if x % n = 0 then (n : Int) - 1 else x % n - 1 := by
      split
      · rename_i first
        rw [first, ← Int.add_emod_right, Int.emod_eq_of_lt (by omega) (by omega)]
        omega
      · exact Int.emod_eq_of_lt (by omega) (by omega)
    simp only [Dir.sign] at there
    simp only [Dir.sign, neighbour]
    split at place <;> split <;> omega

/-! ### A walk over a sequence of slots -/

section

variable {pass : Nat → Bool} {dir : Dir} {n : Nat} {stop : Bool} {r : Nat → Nat}
  (next : ∀ j, neighbour n (r j) dir = r (j + 1))
include next

/-- R32: a walk moves on over the slots it passes, unless it is to stop at slot n. -/
theorem walk_moves_on {fuel : Nat} (j : Nat) (hpass : ∀ i, i < j → pass (r i) = true)
    (hstop : stop = true → ∀ i, i < j → r i ≠ n) :
    walk pass dir n stop (fuel + j) (r 0) = walk pass dir n stop fuel (r j) := by
  induction j generalizing fuel with
  | zero => rfl
  | succ j ih =>
    have goes : ¬(stop && r j == n) = true := by
      rw [Bool.and_eq_true, beq_iff_eq]
      exact fun ⟨hs, hr⟩ => hstop hs j (by omega) hr
    have step : walk pass dir n stop (fuel + 1) (r j) = walk pass dir n stop fuel (r (j + 1)) := by
      rw [walk, hpass j (by omega), if_neg (by decide), if_neg goes, next]
    rw [← step, ← ih (fun i hi => hpass i (by omega)) (fun hs i hi => hstop hs i (by omega))]
    congr 1
    omega

/-- R32: a walk ends at the first slot it does not pass. -/
theorem walk_finds {fuel j : Nat} (hj : j < fuel) (hpass : ∀ i, i < j → pass (r i) = true) (hlast : pass (r j) = false)
    (hstop : stop = true → ∀ i, i < j → r i ≠ n) : walk pass dir n stop fuel (r 0) = .found (r j) := by
  obtain ⟨m, rfl⟩ := Nat.exists_eq_add_of_lt hj
  rw [show j + m + 1 = m + 1 + j by omega, walk_moves_on next j hpass hstop, walk, hlast]
  rfl

/-- R32: a walk that passes every slot ends where it began. -/
theorem walk_passes_all {fuel : Nat} (hstop : stop = false) (hpass : ∀ j, j < fuel → pass (r j) = true) :
    walk pass dir n stop fuel (r 0) = .all := by
  have h := walk_moves_on (stop := stop) next (fuel := 0) fuel hpass (by simp [hstop])
  rwa [Nat.zero_add] at h

/-- R32: a walk that is to pass slot n and may not ends there. -/
theorem walk_stops {fuel j : Nat} (hj : j < fuel) (hstop : stop = true) (hpass : ∀ i, i ≤ j → pass (r i) = true)
    (hn : r j = n) : walk pass dir n stop fuel (r 0) = .trayEnd := by
  induction j using Nat.strong_induction_on with
  | _ j ih =>
    by_cases earlier : ∃ i, i < j ∧ r i = n
    · obtain ⟨i, hi, hin⟩ := earlier
      exact ih i hi (by omega) (fun k hk => hpass k (by omega)) hin
    · obtain ⟨m, rfl⟩ := Nat.exists_eq_add_of_lt hj
      rw [show j + m + 1 = m + 1 + j by omega,
        walk_moves_on next j (fun i hi => hpass i (by omega)) (fun _ i hi hin => earlier ⟨i, hi, hin⟩), walk,
        hpass j (by omega), if_neg (by decide), if_pos (by simp [hstop, hn])]

end

/-! ### The target of an entry -/

/-- R32: the slot a STEP reaches after j more places in the direction of its sign. -/
def Changer.reach (c : Changer) (k : Int) (j : Nat) : Nat :=
  slotAt c.size ((c.current.getD 1 : Int) - 1 + k + (if 0 < k then (j : Int) else -(j : Int)))

theorem Changer.reach_zero (c : Changer) (k : Int) : c.reach k 0 = stepSlot c.size (c.current.getD 1) k := by
  simp [Changer.reach, stepSlot_eq_slotAt]

theorem Changer.neighbour_reach {c : Changer} (ht : c.tray ≠ none) (k : Int) (j : Nat) :
    neighbour c.size (c.reach k j) (stepDir k) = c.reach k (j + 1) := by
  rw [Changer.reach, neighbour_slotAt (Changer.size_pos ht), Changer.reach]
  congr 1
  unfold stepDir
  split <;> simp only [Dir.sign] <;> omega

theorem Changer.passes_iff (c : Changer) (src : Source) (slot : Nat) :
    c.passes src slot = true ↔ c.skipEmpty = true ∧ (c.slot slot).occupancy = .empty ∨
      src = .auto ∧ c.skipBlank = true ∧ (c.slot slot).programmed = false := by
  simp [Changer.passes, and_assoc]

/-- R32: the target and direction a STEP has at the end of its walk from the slot it computes. -/
def WalkEnd.aim (first : Nat) (dir : Dir) : WalkEnd → Option (Nat × Dir)
  | .found t => some (t, dir)
  | .all => some (first, dir)
  | .trayEnd => none

theorem Changer.aim_step {c : Changer} {src : Source} {k : Int} {lb : Bool} {w : WalkEnd}
    (h : walk (c.passes src) (stepDir k) c.size (src == .auto && !c.wrap) c.size (c.reach k 0) = w) :
    c.aim { source := src, kind := .step k, loopback := lb } = w.aim (c.reach k 0) (stepDir k) := by
  rw [Changer.reach_zero] at h ⊢
  simp only [Changer.aim, h]
  cases w <;> rfl

/-- R33: a GOTO goes forward when that way is no longer. -/
theorem gotoDir_forward_iff {n : Nat} (hn : 1 ≤ n) (current target : Nat) :
    gotoDir n current target = .forward ↔ ((target : Int) - current) % n ≤ n - ((target : Int) - current) % n := by
  have low := Int.emod_nonneg ((target : Int) - current) (show (n : Int) ≠ 0 by omega)
  have high := Int.emod_lt_of_pos ((target : Int) - current) (show (0 : Int) < n by omega)
  unfold gotoDir
  simp only
  split
  · exact iff_of_true rfl (by omega)
  · exact iff_of_false (by simp) (by omega)

/-- R32: a STEP ends at the slot it computes, where nothing is passed. -/
theorem Changer.aim_step_direct {c : Changer} {src : Source} {k : Int} {lb : Bool} (ht : c.tray ≠ none)
    (h : ∀ slot, c.passes src slot = false) :
    c.aim { source := src, kind := .step k, loopback := lb } =
      some (stepSlot c.size (c.current.getD 1) k, stepDir k) := by
  rw [← Changer.reach_zero]
  exact Changer.aim_step (walk_finds (c.neighbour_reach ht k) (Changer.size_pos ht) (by omega) (h _) (by omega))

theorem Changer.aim_step_dir {c : Changer} {e : Entry} {k : Int} {t : Nat} {dir : Dir} (hk : e.kind = .step k)
    (h : c.aim e = some (t, dir)) : dir = stepDir k := by
  simp only [Changer.aim, hk] at h
  split at h <;> simp_all

theorem stepDir_forward_iff (k : Int) : stepDir k = .forward ↔ 0 < k := by
  unfold stepDir
  split <;> simp_all

/-- R32: the slot k places round the tray, as a congruence. -/
theorem stepSlot_congr {n : Nat} (hn : 1 ≤ n) (current : Nat) (k : Int) :
    ((stepSlot n current k : Int) - current - k) % n = 0 := by
  have low := Int.emod_nonneg ((current : Int) - 1 + k) (show (n : Int) ≠ 0 by omega)
  have place : (stepSlot n current k : Int) - current - k =
      ((current : Int) - 1 + k) % n - ((current : Int) - 1 + k) := by
    simp only [stepSlot]
    omega
  rw [place, Int.emod_sub_emod, sub_self, Int.zero_emod]

/-- Settles O15: the range and the direction from the aim's two cases, and the walk by the sequence of slots it
reaches. -/
theorem targetsLieOnTheTray : Obligations.TargetsLieOnTheTray := by
  unfold Obligations.TargetsLieOnTheTray
  refine ⟨fun c e t dir ht he haim => ?_, fun c src k lb ht h1 h9 => ?_⟩
  · have size := Changer.size_pos ht
    obtain ⟨low, high⟩ := Changer.aim_range size he haim
    refine ⟨low, high, fun n hn => ?_, fun k hk => ⟨?_, fun hskip hsrc => ?_⟩⟩
    · simp only [Changer.aim, hn, Option.some.injEq, Prod.mk.injEq] at haim
      obtain ⟨rfl, rfl⟩ := haim
      exact ⟨rfl, gotoDir_forward_iff size _ _⟩
    · rw [Changer.aim_step_dir hk haim, stepDir_forward_iff]
    · obtain ⟨source, kind, loopback⟩ := e
      cases hk
      cases hsrc
      have none_passed (slot : Nat) : c.passes .host slot = false := by
        simp [← Bool.not_eq_true, Changer.passes_iff, hskip]
      cases (Changer.aim_step_direct ht none_passed).symm.trans haim
      exact stepSlot_congr size _ k
  · intro aimed dir reached passed stops
    have next := c.neighbour_reach ht k
    have passes (j : Nat) : c.passes src (c.reach k j) = true ↔ passed j := c.passes_iff src _
    have stop : (src == .auto && !c.wrap) = true ↔ stops := by simp [stops]
    refine ⟨fun j hj hp hlast hs => ?_, fun hs hp => ?_, fun j hj hs hp hn => ?_⟩
    · exact Changer.aim_step (walk_finds next hj (fun i hi => (passes i).mpr (hp i hi))
        (by rwa [← Bool.not_eq_true, passes]) (fun h => hs (stop.mp h)))
    · exact Changer.aim_step (walk_passes_all next (by rwa [← Bool.not_eq_true, stop])
        (fun j hj => (passes j).mpr (hp j hj)))
    · exact Changer.aim_step (walk_stops next hj (stop.mpr hs) (fun i hi => (passes i).mpr (hp i hi)) hn)

end Sys2Proof.Machine
end

section
/-! PROOFS. The ends of the lift (O19) and of the drop (O20), and the jams (O26). -/

namespace Sys2Proof.Machine

/-! ### The turn (R35, R53) -/

/-- R53 step 1: the turn as it is ordered, with both counts at 0. -/
def turnOrdered (s : State) : State :=
  { s with
    changer := { s.changer with state := .rotating }
    drive := { s.drive with stalls := 0, corrections := 0 } }

/-- R35: the window is reached at once, the lifter bars the drive, or the drive begins. -/
theorem enterRotating_of_change {s : State} {ch : Change} (h : s.changer.change = some ch) :
    enterRotating s =
      let count := 24 * (ch.target.getD 1 - 1)
      if inWindow s.changer.size s.drive.position count then windowReached (turnOrdered s)
      else if s.drive.lifter ≠ .up then jam .lifter (turnOrdered s)
      else (turnOrdered s).onDrive fun d => { d with motion := .turn ch.dir count }.start ch.dir := by
  simp only [enterRotating]
  split
  · rename_i hn
    cases hn.symm.trans h
  · rename_i ch' hch'
    cases hch'.symm.trans h
    rfl

section

variable {s : State} {ch : Change} {t : Nat} (hch : s.changer.change = some ch) (ht : ch.target = some t)
  (hup : s.drive.lifter = .up)
include hch ht hup

/-- R53 step 1: outside the target's window, the turn drives in the ordered direction with both counts at 0. -/
theorem enterRotating_of_turn (hb : s.drive.bridge = .off)
    (hw : inWindow s.changer.size s.drive.position (24 * (t - 1)) = false) :
    enterRotating s =
      { s with
        changer := { s.changer with state := .rotating }
        drive := Drive.energize ch.dir
          { s.drive with stalls := 0, corrections := 0, motion := .turn ch.dir (24 * (t - 1)) } } := by
  have away : ¬inWindow s.changer.size s.drive.position (24 * (t - 1)) = true := by simp [hw]
  rw [enterRotating_of_change hch, ht]
  simp only [Option.getD_some, if_neg away, if_neg (not_not.mpr hup), State.onDrive]
  rw [Drive.start_of_off (by exact hb)]
  rfl

/-- R35: inside the target's window the turn is over at once and the drop begins. -/
theorem enterRotating_of_window (hw : inWindow s.changer.size s.drive.position (24 * (t - 1)) = true) :
    enterRotating s =
      { s with
        changer := { s.changer with state := .dropping, current := some t }
        drive := { s.drive with
          stalls := 0, corrections := 0, lifterDrive := .downward, lifterTimer := some 600 } } := by
  rw [enterRotating_of_change hch, ht]
  simp only [Option.getD_some, if_pos hw]
  rw [windowReached_of_up (by exact hch) (by exact hup), ← ht]
  rfl

end

/-! ### The ends of the lift and the drop (O19, O20) -/

/-- R59: the drive with the lifter just come to UP. -/
def Drive.atUp (d : Drive) : Drive := { d with swUp := true, swDown := false, lifterDrive := .off, lifterTimer := none }

theorem execLiftDone_eq {s : State} (h : s.drive.lifterDrive = .upward) : execLiftDone s = .next (upReached s) :=
  congrArg _ (if_pos h)

theorem upReached_of_homing {s : State} (h : s.drive.motion = .homeLift) :
    upReached s = startSeek (s.onDrive Drive.atUp) := if_pos h

theorem upReached_of_lifting {s : State} (hm : s.drive.motion ≠ .homeLift) (hs : s.changer.state = .lifting) :
    upReached s = enterRotating (s.onDrive Drive.atUp) := (if_neg hm).trans (if_pos hs)

/-- Settles O19: the report of UP goes to the turn, or to the seek of a homing. -/
theorem theLiftEndsInTheTurn : Obligations.TheLiftEndsInTheTurn := by
  unfold Obligations.TheLiftEndsInTheTurn
  intro s hl hb up driving
  have run : exec .liftDone s = _ := execLiftDone_eq hl
  refine ⟨fun ch t hm hs hch ht h1 => ⟨fun hw => ?_, fun hw => ?_⟩, fun hm => ?_⟩
  · rw [run, upReached_of_lifting hm hs,
      enterRotating_of_turn (s := s.onDrive Drive.atUp) hch ht rfl hb hw]
    rfl
  · rw [run, upReached_of_lifting hm hs, enterRotating_of_window (s := s.onDrive Drive.atUp) hch ht rfl hw]
    rfl
  · rw [run, upReached_of_homing hm, startSeek_of_off (s := s.onDrive Drive.atUp) hb]
    rfl

theorem execDropDone_eq {s : State} (h : s.drive.lifterDrive = .downward) : execDropDone s = .next (downReached s) :=
  congrArg _ (if_pos h)

/-- Settles O20: the report of DOWN ends the drop, and a switch change that is neither an end nor a jam is a reading. -/
theorem theDropEndsInTheSettle : Obligations.TheDropEndsInTheSettle := by
  unfold Obligations.TheDropEndsInTheSettle
  refine ⟨fun s hl hs => ?_, fun s up down => ?_⟩
  · have run : exec .dropDone s = _ := execDropDone_eq hl
    exact run.trans (congrArg _ (if_pos hs))
  · intro moved hno hup hdown
    have noJam : ¬((s.drive.lifter == .up) = true ∧ moved.drive.lifter ≠ .up ∧ s.drive.motion ≠ .none ∧
        s.drive.bridge ≠ .off) := by
      rw [beq_iff_eq]
      rintro ⟨was, is, motion, bridge⟩
      rcases hno with h | h | h | h
      · exact h was
      · exact is h
      · exact motion h
      · exact bridge h
    exact (if_neg noJam).trans ((if_neg hup).trans (if_neg hdown))

/-! ### Jams (O26) -/

/-- R52: from a drive a stop begins a brake of 40 ms. -/
theorem Drive.halt_of_drives {d : Drive} (h : d.bridge.drives = true) :
    d.halt.bridge = .brake ∧ d.halt.brakeTimer = some 40 := by
  unfold Drive.halt
  cases hb : d.bridge with
  | off | brake => simp [hb, Bridge.drives] at h
  | forward | backward => exact ⟨rfl, rfl⟩

/-- R52: after a stop nothing follows the brake. -/
theorem Drive.halt_ends {d : Drive} (h : d.bridge = .off → d.afterBrake = .off) : d.halt.afterBrake = .off := by
  unfold Drive.halt
  cases hb : d.bridge with
  | off => exact h hb
  | brake | forward | backward => rfl

theorem Drive.halt_position (d : Drive) : d.halt.position = d.position := by
  unfold Drive.halt
  cases d.bridge <;> rfl

/-- R40: what a jam leaves of the Changer beside the slot it marks. -/
theorem Changer.jammed_keeps (c : Changer) :
    c.jammed.change = c.change ∧ c.jammed.held = c.held ∧ c.jammed.dwell = 0 ∧ c.jammed.run = 0 := by
  unfold Changer.jammed
  split <;> simp

/-- R40: the slot a jam names is the target, but for a homing before its drop. -/
theorem Changer.jamTarget_of_slot {c : Changer} {ch : Change} (hch : c.change = some ch)
    (h : ch.kind ≠ .home ∨ c.state = .dropping) : c.jamTarget = ch.target := by
  have named : ¬(ch.kind = .home ∧ c.state ≠ .dropping) := by tauto
  simp only [Changer.jamTarget, hch, if_neg named]

theorem Changer.jamTarget_of_home {c : Changer} {ch : Change} (hch : c.change = some ch) (hk : ch.kind = .home)
    (hs : c.state ≠ .dropping) : c.jamTarget = none := by
  simp only [Changer.jamTarget, hch, if_pos (And.intro hk hs)]

/-- R40: the slot named is marked JAMMED. -/
theorem Changer.slot_jammed {c : Changer} {n : Nat} (h : c.jamTarget = some n) (hn : 1 ≤ n ∧ n ≤ 140) :
    c.jammed.slot n = { c.slot n with occupancy := .jammed } := by
  simp only [Changer.jammed, h]
  exact Changer.slot_setSlot_same c { c.slot n with occupancy := .jammed } hn

/-- R40: with no slot named the Slot Table stands. -/
theorem Changer.slots_jammed {c : Changer} (h : c.jamTarget = none) : c.jammed.slots = c.slots := by
  simp only [Changer.jammed, h]

theorem jam_lamp (r : JamReason) (s : State) : (jam r s).lamp = s.lamp.clearHold := by simp [jam]

/-- R40: a jam in a change raises CHANGE_DONE and JAM. -/
theorem jam_notices {reason : JamReason} {s : State} {ch : Change} (hch : s.changer.change = some ch) :
    (jam reason s).link.notices[0] = { arg := some (.changeDone ch.source .jammed), mark := true } ∧
    (jam reason s).link.notices[2] = { arg := some (.jam reason s.changer.jamTarget), mark := true } := by
  let stopped := ((s.onDrive Drive.jammed).onLamp Lamp.clearHold).onChanger Changer.jammed
  let told := raise (.jam reason s.changer.jamTarget) stopped
  have change : told.changer.change = some ch := s.changer.jammed_keeps.1.trans hch
  have other : (2 : Fin 30) ≠ Notice.place (.changeDone ch.source .jammed) := by
    rw [Notice.place]
    decide
  refine ⟨finishChange_notice change, ?_⟩
  show (finishChange .jammed told).link.notices[2] = _
  rw [finishChange_of_some change]
  exact (raise_place_other _ _ other).trans (raise_place_same (.jam reason s.changer.jamTarget) _)

/-- R40, R77: what the report of a jam says of the state after it, for the change ch in flight before. -/
def JamReported (ch : Change) (reason : JamReason) (s t : State) : Prop :=
  t.changer.state = .jammed ∧ t.changer.homed = false ∧ t.changer.current = none ∧ t.changer.queue = [] ∧
  t.changer.loops = [] ∧ t.changer.change = none ∧ t.changer.dwell = 0 ∧ t.changer.run = 0 ∧
  t.changer.tray = s.changer.tray ∧ t.changer.held = s.changer.held ∧
  t.drive.motion = .none ∧ t.drive.lifterDrive = .off ∧ t.drive.afterBrake = .off ∧
  (s.drive.bridge.drives = true → t.drive.bridge = .brake ∧ t.drive.brakeTimer = some 40) ∧
  t.drive.position = s.drive.position ∧ t.lamp = { s.lamp with darkHold := false } ∧
  t.link.notices[0] = { arg := some (.changeDone ch.source .jammed), mark := true } ∧
  (∀ n, ch.kind ≠ .home ∨ s.changer.state = .dropping → ch.target = some n → 1 ≤ n ∧ n ≤ 140 →
    t.link.notices[2] = { arg := some (.jam reason (some n)), mark := true } ∧
    t.changer.slot n = { s.changer.slot n with occupancy := .jammed }) ∧
  (ch.kind = .home → s.changer.state ≠ .dropping →
    t.link.notices[2] = { arg := some (.jam reason none), mark := true } ∧ t.changer.slots = s.changer.slots) ∧
  t.thermal = s.thermal ∧ t.tape = s.tape ∧ t.cue = s.cue ∧ t.remote = s.remote ∧ t.bus = s.bus

/-- R40: a jam is reported by a drive that has moved no further and that the jam can stop. -/
theorem jam_reported {ch : Change} (reason : JamReason) {s : State} (d : Drive) (hch : s.changer.change = some ch)
    (hpos : d.position = s.drive.position) (hoff : d.bridge = .off → d.afterBrake = .off)
    (hdrives : s.drive.bridge.drives = true → d.halt.bridge = .brake ∧ d.halt.brakeTimer = some 40) :
    JamReported ch reason s (jam reason { s with drive := d }) := by
  obtain ⟨-, held, dwell, run⟩ := s.changer.jammed_keeps
  obtain ⟨tray, queue, loops, homed, current, state⟩ := s.changer.jammed_fields
  obtain ⟨done, told⟩ := jam_notices (reason := reason) (s := { s with drive := d }) hch
  obtain ⟨thermal, tape, cue, remote, bus, -⟩ := jam_frame reason { s with drive := d }
  simp only [JamReported, jam_changer, jam_drive, jam_lamp]
  refine ⟨state, homed, current, queue, loops, trivial, dwell, run, tray, held, rfl, rfl, Drive.halt_ends hoff, hdrives,
    d.halt_position.trans hpos, rfl, done, fun n hn ht hrange => ?_, fun hk hs => ?_, thermal, tape, cue, remote, bus⟩
  · have target : s.changer.jamTarget = some n := (Changer.jamTarget_of_slot hch hn).trans ht
    exact ⟨target ▸ told, Changer.slot_jammed target hrange⟩
  · have target : s.changer.jamTarget = none := Changer.jamTarget_of_home hch hk hs
    exact ⟨target ▸ told, Changer.slots_jammed target⟩

/-! ### What leads to a jam -/

/-- R54, R55: the second stall of a rotation. -/
theorem stall_of_second {s : State} (h : s.drive.stalls ≠ 0) : stall s = jam .stall (s.onDrive (Drive.brake .off)) :=
  if_neg h

/-- R52, log 14: a brake that ends toward a drive with the lifter not UP. -/
theorem brakeEnd_of_not_up {s : State} (ha : s.drive.afterBrake ≠ .off) (hup : s.drive.lifter ≠ .up) :
    brakeEnd s = jam .lifter (s.onDrive Drive.release) := (if_neg ha).trans (if_pos hup)

theorem execNoIndexBudgetExhausted_eq {s : State} (hm : s.drive.motion = .homeSeek)
    (hb : budgetLimit s.changer.size ≤ s.drive.budget) : execNoIndexBudgetExhausted s = .next (jam .noIndex s) :=
  if_pos ⟨hm, hb⟩

theorem execLifterTimeout_eq {s : State} (ht : s.drive.lifterTimer.isSome = true) (ha : s.drive.lifterArrived = false) :
    execLifterTimeout s =
      .next (jam .lifter (s.onDrive fun d => { d with lifterDrive := .off, lifterTimer := none })) :=
  if_pos ⟨ht, ha⟩

/-- R59, R60: a lifter that is not at the end its drive aims at. -/
theorem Drive.lifterArrived_eq_false {d : Drive}
    (h : d.lifterDrive = .upward ∧ d.lifter ≠ .up ∨ d.lifterDrive = .downward ∧ d.lifter ≠ .down) :
    d.lifterArrived = false := by
  rcases h with ⟨hd, hl⟩ | ⟨hd, hl⟩ <;> simp [Drive.lifterArrived, hd, hl]

/-- R58: a lifter that leaves UP in a motion with the bridge not OFF. -/
theorem execLifterSwitchChange_of_leaving {s : State} {down : Bool} (hup : s.drive.lifter = .up)
    (hm : s.drive.motion ≠ .none) (hb : s.drive.bridge ≠ .off) :
    execLifterSwitchChange false down s =
      .next (jam .lifter (s.onDrive fun d => { d with swUp := false, swDown := down })) := by
  have was : (s.drive.lifter == .up) = true := by simp [hup]
  have left : Drive.lifter { s.drive with swUp := false, swDown := down } ≠ .up := by cases down <;> simp [Drive.lifter]
  exact if_pos ⟨was, left, hm, hb⟩

/-- Settles O26: each of the six causes comes to a jam, which reports alike. -/
theorem jamsStopTheChange : Obligations.JamsStopTheChange := by
  unfold Obligations.JamsStopTheChange
  intro s ch hch jammed
  have reported (reason : JamReason) (d : Drive) (hpos : d.position = s.drive.position)
      (hoff : d.bridge = .off → d.afterBrake = .off)
      (hdrives : s.drive.bridge.drives = true → d.halt.bridge = .brake ∧ d.halt.brakeTimer = some 40) :
      jammed reason (jam reason { s with drive := d }) := jam_reported reason d hch hpos hoff hdrives
  refine ⟨fun hdr hw hst => ⟨_, (execStallWatchdogExpiry_eq hdr hw).trans (congrArg _ (stall_of_second hst)), ?_⟩,
    fun c hb ha hup hm hw hc hst => ⟨_, ?_, reported .stall (s.drive.release.brake .off) rfl (fun _ => rfl) ?_, ?_⟩,
    fun hm hb hbud => ⟨_, execNoIndexBudgetExhausted_eq hm hbud, ?_⟩,
    fun ht hb ha hl => ⟨_, execLifterTimeout_eq ht (Drive.lifterArrived_eq_false hl), ?_⟩,
    fun hup hm hb down => ⟨_, execLifterSwitchChange_of_leaving hup hm hb, ?_⟩,
    fun hb ha hup => ⟨_, (execBrakeEnd_eq hb).trans (congrArg _ (brakeEnd_of_not_up ha hup)), ?_⟩⟩
  · exact reported .stall (s.drive.brake .off) rfl (fun _ => rfl) fun _ => ⟨rfl, rfl⟩
  · refine (execBrakeEnd_eq hb).trans ?_
    rw [brakeEnd_of_window hup ha, windowBrakeEnd_of_miss (s := s.onDrive Drive.release) hm hw,
      windowMiss_of_stall (s := s.onDrive Drive.release) hc, stall_of_second (s := s.onDrive Drive.release) hst]
    rfl
  · exact fun h => absurd h (by simp [hb, Bridge.drives])
  · rw [jam_drive]
    exact ⟨rfl, rfl⟩
  · exact reported .noIndex s.drive rfl (fun h => by simp [hb] at h) Drive.halt_of_drives
  · exact reported .lifter { s.drive with lifterDrive := .off, lifterTimer := none } rfl (fun _ => ha)
      fun h => absurd h (by simp [hb, Bridge.drives])
  · exact reported .lifter { s.drive with swUp := false, swDown := down } rfl (fun h => absurd h hb)
      fun h => Drive.halt_of_drives (by exact h)
  · exact reported .lifter s.drive.release rfl (fun _ => rfl) fun h => absurd h (by simp [hb, Bridge.drives])

end Sys2Proof.Machine
end

section
/-! PROOFS. The arrival at a slide (O21): the tape mark, the loop mark and the sound, and the state they come to. -/

namespace Sys2Proof.Machine

/-! ### The tape mark (R38, R112) -/

/-- R128: the PLAYING gate opens. -/
theorem CueUnit.gate_opens (u : CueUnit) :
    u.gate false true = { u with rx := .idle, burst := if u.tone then some 0 else none } := rfl

/-- R128: the PLAYING gate closes. -/
theorem CueUnit.gate_closes (u : CueUnit) :
    u.gate true false = { u with rx := .idle, holding := none, burst := none } :=
  rfl

section

variable {s : State}

/-- R113: a PLAY mark starts the tape from a stand. -/
theorem playMark_starts (h : s.tape.transport = .paused ∨ s.tape.transport = .stopped ∧ s.tape.runDown = none) :
    (applyTapeMark .play s).tape =
      { s.tape with transport := .playing, runDown := none, endTimer := some 1000, reelTimer := none } ∧
    (applyTapeMark .play s).cue = { s.cue with rx := .idle, burst := if s.cue.tone then some 0 else none } := by
  have enters : applyTapeMark .play s = enterPlaying s := by
    rcases h with h | ⟨h, hr⟩
    · simp only [applyTapeMark, offerTapePlay, h, taken]
    · simp [applyTapeMark, offerTapePlay, h, hr, taken]
  have closed : (s.tape.transport == .playing) = false := by
    rcases h with h | ⟨h, -⟩ <;> rw [h] <;> rfl
  rw [enters, ← CueUnit.gate_opens, ← closed]
  exact ⟨rfl, rfl⟩

/-- R111, R113: a PLAY mark in a run-down is played at its end. -/
theorem playMark_waits {d : RunDown} (h : s.tape.transport = .stopped) (hr : s.tape.runDown = some d) :
    (applyTapeMark .play s).tape = { s.tape with runDown := some { d with next := .playing } } ∧
    (applyTapeMark .play s).cue = s.cue := by
  simp [applyTapeMark, offerTapePlay, h, hr, taken, setPendingMotion]

/-- R112: a PLAY mark that does not apply is ignored. -/
theorem playMark_ignored
    (h : s.tape.transport = .noTape ∨ s.tape.transport = .playing ∨ s.tape.transport.winding = true) :
    applyTapeMark .play s = s := by
  cases ht : s.tape.transport with
  | noTape | playing | windingFwd | windingBack => simp only [applyTapeMark, offerTapePlay, ht, turnedAway]
  | stopped | paused => simp [ht, Transport.winding] at h

/-- R114: a PAUSE mark pauses the tape that plays. -/
theorem pauseMark_pauses (h : s.tape.transport = .playing) :
    (applyTapeMark .pause s).tape = { s.tape with transport := .paused, endTimer := none } ∧
    (applyTapeMark .pause s).cue = { s.cue with rx := .idle, holding := none, burst := none } := by
  have enters : applyTapeMark .pause s = enterPaused s := by simp only [applyTapeMark, offerTapePause, h, taken]
  have opened : (s.tape.transport == .playing) = true := by rw [h]; rfl
  rw [enters, ← CueUnit.gate_closes, ← opened]
  exact ⟨rfl, rfl⟩

/-- R112: a PAUSE mark that does not apply is ignored. -/
theorem pauseMark_ignored (h : s.tape.transport ≠ .playing) : applyTapeMark .pause s = s := by
  cases ht : s.tape.transport with
  | playing => exact absurd ht h
  | noTape | stopped | paused | windingFwd | windingBack => simp only [applyTapeMark, offerTapePause, ht, turnedAway]

/-- R38: a tape mark leaves the base. -/
theorem applyTapeMark_base (m : TapeMark) : (applyTapeMark m s).tape.base = s.tape.base :=
  congrArg Prod.fst (SameStore.applyTapeMark m s).sound

end

/-! ### The loop mark (R38, R44) -/

/-- R44: a push touches the Loop Stack and the notices alone. -/
theorem pushLoop_changer (slot count : Nat) (s : State) :
    (pushLoop slot count s).changer = { s.changer with loops := (pushLoop slot count s).changer.loops } := by
  unfold pushLoop
  (repeat' split) <;> simp

/-- R38: a loop mark is kept, and touches the Loop Stack beside it. -/
theorem arriveLoop_changer (slot : Nat) (mark : LoopMark) (isStep : Bool) (s : State) :
    (arriveLoop slot mark isStep s).changer =
      { s.changer with keptLoop := mark, loops := (arriveLoop slot mark isStep s).changer.loops } := by
  cases mark with
  | none | close => rfl
  | start count =>
    cases isStep with
    | false => rfl
    | true => exact pushLoop_changer slot count (s.onChanger fun c => { c with keptLoop := .start count })

/-- R38: without a LOOP-START reached by a STEP the Loop Stack stands. -/
theorem arriveLoop_stays {slot : Nat} {mark : LoopMark} {isStep : Bool} {s : State}
    (h : ∀ c, ¬(mark = .start c ∧ isStep = true)) :
    (arriveLoop slot mark isStep s).changer.loops = s.changer.loops ∧
    (arriveLoop slot mark isStep s).link = s.link := by
  cases mark with
  | none | close => exact ⟨rfl, rfl⟩
  | start c =>
    have goto : ¬isStep = true := fun hs => h c ⟨rfl, hs⟩
    simp [arriveLoop, goto]

/-- R44: t follows s by the push of a LOOP-START, by the Loop Stack it finds. -/
def LoopPushed (slot c : Nat) (s t : State) : Prop :=
  (s.changer.loops = [] → t.changer.loops = [{ start := slot, remaining := c }] ∧ t.link = s.link) ∧
  (∀ top, s.changer.loops = [top] → top.start ≠ slot →
    t.changer.loops = [{ start := slot, remaining := c }, top] ∧ t.link = s.link) ∧
  (∀ top more, s.changer.loops = top :: more → top.start = slot →
    t.changer.loops = s.changer.loops ∧ t.link = s.link) ∧
  (∀ top below more, s.changer.loops = top :: below :: more → top.start ≠ slot →
    t.changer.loops = s.changer.loops ∧ t.link = (raise (.loopDepth slot) s).link)

theorem arriveLoop_pushes (slot c : Nat) (s : State) : LoopPushed slot c s (arriveLoop slot (.start c) true s) := by
  refine ⟨fun h => ?_, fun top h hn => ?_, fun top more h hn => ?_, fun top below more h hn => ?_⟩
  · simp [arriveLoop, pushLoop, h]
  · simp [arriveLoop, pushLoop, h, hn]
  · simp [arriveLoop, pushLoop, h, hn]
  · simp [arriveLoop, pushLoop, h, hn, raise]

/-- A notice raised is a matter of the link alone. -/
theorem raise_link_congr (n : Notice) {s t : State} (h : t.link = s.link) : (raise n t).link = (raise n s).link := by
  simp only [raise, State.onLink, h]

/-- R44: a push reads and changes the Loop Stack and the link alone. -/
theorem LoopPushed.congr {slot c : Nat} {s s' t t' : State} (h : LoopPushed slot c s t)
    (loops : s.changer.loops = s'.changer.loops) (link : s.link = s'.link) (loops' : t.changer.loops = t'.changer.loops)
    (link' : t.link = t'.link) : LoopPushed slot c s' t' := by
  unfold LoopPushed at h ⊢
  rwa [loops, raise_link_congr _ link, link, loops', link'] at h

/-! ### The arrival (R36, R38) -/

/-- R36: the state an arrival at a slot's record comes to, with the fade-in begun. -/
def arrived (slot : Nat) (r : SlotRecord) (isStep : Bool) (s : State) : State :=
  ((arrive slot r isStep (found slot s)).onLamp (Lamp.fadeIn r.fadeIn)).onChanger fun c => { c with state := .fadingIn }

section

variable (slot : Nat) (r : SlotRecord) (isStep : Bool) (s : State)

theorem arrived_frame :
    (arrived slot r isStep s).drive = s.drive ∧ (arrived slot r isStep s).thermal = s.thermal ∧
    (arrived slot r isStep s).remote = s.remote ∧ (arrived slot r isStep s).bus = s.bus ∧
    (arrived slot r isStep s).pending = s.pending := by
  simp [arrived, found]

theorem arrived_lamp :
    (arrived slot r isStep s).lamp = { s.lamp with
      exposure := 0, guard := false, override := none, darkHold := false
      fade := if r.fadeIn = 0 then 1000 else 0
      ramp := if r.fadeIn = 0 then none else some { a := 0, b := 1000, n := r.fadeIn, k := 0 } } := by
  simp only [arrived, arrive, setOverride, State.onChanger_lamp, State.onLamp_lamp, arriveLoop_frame, State.onTape_lamp,
    applyTapeMark_frame, found, Lamp.fadeIn]
  split <;> rfl

/-- R38: the state in which an arrival comes to its loop mark. -/
def beforeLoop : State :=
  ((applyTapeMark r.tapeMark (found slot s)).onTape (arriveSound r)).onChanger fun c =>
    { c with held := c.held || r.hold }

theorem beforeLoop_changer : (beforeLoop slot r s).changer =
    { s.changer.setOccupancy slot .present with run := 0, dwell := 0, held := s.changer.held || r.hold } := by
  simp [beforeLoop, found]

theorem beforeLoop_link : (beforeLoop slot r s).link = s.link := by simp [beforeLoop, found]

theorem arrived_changer : (arrived slot r isStep s).changer =
    { s.changer.setOccupancy slot .present with
      state := .fadingIn, run := 0, dwell := 0, held := s.changer.held || r.hold, keptLoop := r.loop
      loops := (arrived slot r isStep s).changer.loops } := by
  have h := arriveLoop_changer slot r.loop isStep (beforeLoop slot r s)
  rw [beforeLoop_changer] at h
  exact congrArg (fun c => { c with state := ChangerState.fadingIn }) h

theorem arrived_tape :
    (arrived slot r isStep s).tape = arriveSound r (applyTapeMark r.tapeMark (found slot s)).tape ∧
    (arrived slot r isStep s).cue = (applyTapeMark r.tapeMark (found slot s)).cue := by
  simp [arrived, arrive]

end

theorem Changer.setOccupancy_eq (c : Changer) (n : Nat) (o : Occupancy) :
    c.setOccupancy n o = { c with slots := (c.setOccupancy n o).slots } := Changer.setSlot_eq c n _

/-- R36: with a fade-in the arrival ends in its fade, and without one in SHOWING. -/
theorem slideFound_cases {slot : Nat} {r : SlotRecord} {isStep : Bool} {s : State}
    (hr : (s.changer.setOccupancy slot .present).slot slot = r) :
    (r.fadeIn ≠ 0 → slideFound slot isStep s = arrived slot r isStep s) ∧
    (r.fadeIn = 0 → slideFound slot isStep s = enterShowing (arrived slot r isStep s)) := by
  subst hr
  exact ⟨fun h => if_neg h, fun h => if_pos h⟩

theorem settleEnd_of_found {s : State} {ch : Change} {n : Nat} (hg : s.drive.gate = true)
    (hch : s.changer.change = some ch) (hn : ch.target = some n) : settleEnd s = slideFound n ch.kind.isStep s := by
  simp [settleEnd, hch, hn, hg]

/-- R44: an arrival by a STEP at a LOOP-START pushes it. -/
theorem arrived_pushes {slot c : Nat} {r : SlotRecord} {isStep : Bool} {s : State} (hr : r.loop = .start c)
    (hk : isStep = true) : LoopPushed slot c s (arrived slot r isStep s) := by
  have pushed := arriveLoop_pushes slot c (beforeLoop slot r s)
  rw [← hr, ← hk] at pushed
  exact pushed.congr (by simp [beforeLoop_changer]) (beforeLoop_link slot r s) rfl rfl

theorem arrived_stays {slot : Nat} {r : SlotRecord} {isStep : Bool} {s : State}
    (h : ∀ c, ¬(r.loop = .start c ∧ isStep = true)) :
    (arrived slot r isStep s).changer.loops = s.changer.loops ∧ (arrived slot r isStep s).link = s.link := by
  have stays := arriveLoop_stays (slot := slot) (s := beforeLoop slot r s) h
  have loops : (beforeLoop slot r s).changer.loops = s.changer.loops := by simp [beforeLoop_changer]
  rw [loops, beforeLoop_link] at stays
  exact stays

/-- Settles O21: the arrival in its parts, one lemma for each block it touches. -/
theorem aSlideFoundArrives : Obligations.ASlideFoundArrives := by
  unfold Obligations.ASlideFoundArrives
  intro s ch n r hs htimer hgate hch htarget hn hr
  let settled : State := s.onDrive fun d => { d with settleTimer := none }
  let t := arrived n { r with occupancy := .present } ch.kind.isStep settled
  have record : (s.changer.setOccupancy n .present).slot n = { r with occupancy := .present } := by
    rw [← hr]
    exact Changer.slot_setSlot_same s.changer _ hn
  have run : exec .settleEnd s = .next (slideFound n ch.kind.isStep settled) :=
    (execSettleEnd_eq hs htimer).trans (congrArg _ (settleEnd_of_found hgate hch htarget))
  obtain ⟨fades, cuts⟩ := slideFound_cases (isStep := ch.kind.isStep) (s := settled) record
  have changer : t.changer = { s.changer.setOccupancy n .present with
      state := .fadingIn, run := 0, dwell := 0, held := s.changer.held || r.hold, keptLoop := r.loop
      loops := t.changer.loops } := arrived_changer n { r with occupancy := .present } ch.kind.isStep settled
  have lamp := arrived_lamp n { r with occupancy := .present } ch.kind.isStep settled
  have change : t.changer.change = some ch := by rw [changer]; simpa using hch
  have steps := ch.kind.isStep_iff
  have base := applyTapeMark_base (s := found n settled) r.tapeMark
  obtain ⟨tape, cue⟩ := arrived_tape n { r with occupancy := .present } ch.kind.isStep settled
  refine ⟨t, (applyTapeMark r.tapeMark (found n settled)).tape, fun hf => by rw [run, fades hf],
    fun hf => ⟨?_, fun hq => ?_⟩, ?_, ?_, ?_, fun m hm => ?_, lamp, ?_, ?_, fun hsound => ?_, fun target hsound => ?_⟩
  · have ended : t.lamp.ramp = none := by rw [lamp]; exact if_pos hf
    exact run.trans ((congrArg _ (cuts hf)).trans (execFadeInEnd_eq rfl ended).symm)
  · have queue : t.changer.queue = [] := by rw [changer]; simpa using hq
    rw [run, cuts hf, enterShowing_of_change change]
    refine congrArg Host.Outcome.next ((pump_cases ?_).1 ?_)
    · rfl
    · exact queue
  · obtain ⟨drive, thermal, remote, bus, pending⟩ :=
      arrived_frame n { r with occupancy := .present } ch.kind.isStep settled
    exact State.eq_of_blocks rfl drive rfl thermal rfl rfl remote bus rfl pending
  · have slots : t.changer.slots = (s.changer.setOccupancy n .present).slots := by rw [changer]
    rw [slots, changer, Changer.setOccupancy_eq]
  · rw [← record, changer]
    rfl
  · rw [changer]
    exact Changer.slot_setSlot_other s.changer _ hm
  · intro pushes
    refine ⟨fun c hc => ?_, fun hno => ?_⟩
    · exact arrived_pushes (s := settled) hc.1 (steps.mpr hc.2)
    · exact arrived_stays (s := settled) fun c hc => hno c ⟨hc.1, steps.mp hc.2⟩
  · intro rest plays
    have rests (h : applyTapeMark r.tapeMark (found n settled) = found n settled) : rest := by
      have marked := congrArg State.tape h
      have gated := congrArg State.cue h
      exact ⟨marked, cue.trans gated⟩
    refine ⟨fun hm => rests (by rw [hm]; rfl), fun hm => ⟨fun h => ?_, fun d h hd => ?_, fun h => rests ?_⟩,
      fun hm => ⟨fun h => ?_, fun h => rests ?_⟩⟩
    · obtain ⟨marked, gated⟩ := playMark_starts (s := found n settled) h
      rw [← hm] at marked gated
      exact ⟨marked, cue.trans gated⟩
    · obtain ⟨marked, gated⟩ := playMark_waits (s := found n settled) h hd
      rw [← hm] at marked gated
      exact ⟨marked, cue.trans gated⟩
    · rw [hm]
      exact playMark_ignored h
    · obtain ⟨marked, gated⟩ := pauseMark_pauses (s := found n settled) h
      rw [← hm] at marked gated
      exact ⟨marked, cue.trans gated⟩
    · rw [hm]
      exact pauseMark_ignored h
  · rw [tape]
    simp only [arriveSound, hsound]
  · have start : (applyTapeMark r.tapeMark (found n settled)).tape.base = s.tape.base := base
    rw [tape, ← start]
    simp only [arriveSound, hsound]
    rfl

end Sys2Proof.Machine
end

section
/-! PROOFS. The machine right after power-on reset meets the laws (O60). -/

namespace Sys2Proof.Machine

theorem reset_cycleLaw : CycleLaw State.reset where
  homed := ⟨by decide, by decide, by decide⟩
  record := rfl
  current := ⟨by decide, nofun⟩
  target := nofun
  queue := ⟨by decide, by decide, by decide⟩
  motion := ⟨nofun, by decide, by decide, by decide, by decide, by decide⟩
  lifter := ⟨by decide, by decide, by decide, by decide⟩
  drive := nofun

/-- R17: every record has its defaults. -/
theorem reset_slotLaw : SlotLaw State.reset := fun i => by
  simpa [State.reset, Changer.reset] using SlotRecord.default_lawful

/-- R149: every entry is FREE. -/
theorem reset_cueStoreLaw : CueStoreLaw State.reset := fun i => by
  simpa [State.reset, CueUnit.reset] using CueEntry.blank_lawful

theorem reset_cueMapLaw : CueMapLaw State.reset := fun i j _ hi => by
  simp [State.reset, CueUnit.reset, CueEntry.blank] at hi

theorem reset_soundLaw : SoundLaw State.reset :=
  ⟨by decide, by decide, by decide, nofun, nofun⟩

theorem reset_handsetLaw : HandsetLaw State.reset :=
  ⟨fun i j _ hi => by simp [State.reset, Remote.reset, Handset.blank] at hi,
    fun i => by simp [State.reset, Remote.reset, Handset.blank]⟩

/-- R191: every notice place is empty. -/
theorem reset_noticeLaw : NoticeLaw State.reset := fun i => by
  simp [State.reset, Link.reset, Place.empty]

/-- Settles O60: the reset values against each law. -/
theorem resetMeetsEveryLaw : Obligations.ResetMeetsEveryLaw := by
  unfold Obligations.ResetMeetsEveryLaw
  refine ⟨⟨reset_cycleLaw, reset_slotLaw, reset_cueStoreLaw, reset_soundLaw, ⟨by decide, nofun, by decide⟩,
      by decide, by decide⟩,
    ⟨⟨by decide, by decide, by decide, by decide, by decide⟩, ⟨rfl, by decide⟩, ⟨by decide, by decide, nofun⟩,
      ⟨by decide, by decide⟩, ⟨by decide, by decide, by decide⟩, rfl⟩,
    ⟨by decide, by decide, by decide⟩, fun _ => ⟨rfl, rfl, rfl⟩, reset_cueMapLaw, reset_handsetLaw,
    ⟨nofun, by decide⟩, ?_, ⟨by decide, by decide, by decide, by decide⟩, ⟨by decide, by decide⟩,
    reset_noticeLaw⟩
  intro p h
  cases p <;> cases h

end Sys2Proof.Machine
end

section
/-! SUPPORT. How the tray motor bridge moves within one step (O57): a drive that drives goes on or into its brake, and every
command but the counts, the index, the tray's own and the resets leaves the position counter where it stands. -/

namespace Sys2Proof.Machine

/-- R49, R52: a drive that stands where `old` stood, with the bridge where `old`'s can have gone at once: a bridge that
drives goes on in its direction or brakes. -/
structure Drive.Follows (old d : Drive) : Prop where
  position : d.position = old.position
  bridge : old.bridge.drives = true → d.bridge = old.bridge ∨ d.bridge = .brake

theorem Drive.Follows.refl (d : Drive) : d.Follows d := ⟨rfl, fun _ => .inl rfl⟩

namespace Drive.Follows

section

variable {old d e : Drive} (h : old.Follows d)
include h

/-! ### Operations of the drive -/

/-- An operation that leaves the counter and the bridge. -/
theorem same (position : e.position = d.position := by rfl) (bridge : e.bridge = d.bridge := by rfl) : old.Follows e :=
  ⟨position.trans h.position, by rw [bridge]; exact h.bridge⟩

theorem braked (position : e.position = d.position := by rfl) (bridge : e.bridge = .brake := by rfl) : old.Follows e :=
  ⟨position.trans h.position, fun _ => .inr bridge⟩

/-- From a bridge that did not drive every state may be entered. -/
theorem undriven (still : old.bridge.drives = false) (position : e.position = d.position := by rfl) : old.Follows e :=
  ⟨position.trans h.position, fun hdr => by simp [still] at hdr⟩

theorem halt : old.Follows d.halt := by
  unfold Drive.halt
  cases hb : d.bridge with
  | off => exact h
  | brake | forward | backward => exact h.braked

theorem jammed : old.Follows d.jammed := h.halt.same

/-- R52: a drive ordered starts at once only from OFF, which no drive has reached within the step. -/
theorem start (dir : Dir) : old.Follows (d.start dir) := by
  unfold Drive.start
  cases hb : d.bridge with
  | off =>
    refine h.undriven ?_
    by_contra hdr
    rcases h.bridge (by simpa using hdr) with e | e
    · simp [← e, hb, Bridge.drives] at hdr
    · simp [hb] at e
  | brake => exact h.braked
  | forward | backward =>
    simp only
    split
    · rename_i hdir
      exact h.same rfl (by rw [hb, hdir]; rfl)
    · exact h.braked

theorem runFocus (dir : FocusDir) (run : FocusRun) : old.Follows (d.runFocus dir run) := by
  unfold Drive.runFocus
  (repeat' split) <;> exact h.same

theorem focusKey (dir : FocusDir) : old.Follows (d.focusKey dir) := by
  unfold Drive.focusKey
  split
  · exact h
  · exact h.runFocus _ _

theorem focusHost (dir : FocusDir) (ms : Nat) : old.Follows (d.focusHost dir ms) := by
  unfold Drive.focusHost
  split
  · exact h
  · exact h.runFocus _ _

theorem focusStopOrder : old.Follows d.focusStopOrder := by
  unfold Drive.focusStopOrder
  split
  · exact h.same
  · exact h

end

section

variable {old : Drive} {s : State} (h : old.Follows s.drive)
include h

/-! ### The phases of a change cycle -/

theorem jam (r : JamReason) : old.Follows (jam r s).drive := by
  rw [jam_drive]
  exact h.jammed

theorem enterDropping : old.Follows (enterDropping s).drive := by
  simp only [Machine.enterDropping]
  split <;> exact h.same

theorem windowReached : old.Follows (windowReached s).drive :=
  enterDropping (s := s.onChanger fun c => { c with current := c.target }) h

theorem enterRotating : old.Follows (enterRotating s).drive := by
  have fresh : old.Follows { s.drive with stalls := 0, corrections := 0 } := h.same
  simp only [Machine.enterRotating]
  split
  · exact h
  · split
    · exact windowReached fresh
    · split
      · exact jam fresh _
      · exact start (d := { s.drive with stalls := 0, corrections := 0, motion := _ }) fresh.same _

theorem stall : old.Follows (stall s).drive := by
  unfold Machine.stall
  split
  · exact h.braked
  · exact jam (s := s.onDrive (Drive.brake .off)) h.braked _

theorem enterLifting : old.Follows (enterLifting s).drive := by
  simp only [Machine.enterLifting]
  split
  · exact enterRotating (s := s.onChanger fun c => { c with state := .lifting }) h
  · exact h.same

theorem enterFadingOut : old.Follows (enterFadingOut s).drive := by
  rcases enterFadingOut_cases s with ⟨l, e⟩ | ⟨l, e⟩ <;> rw [e]
  · exact enterLifting (s := s.onLamp l) h
  · exact h

theorem upReached : old.Follows (upReached s).drive := by
  have up : old.Follows (s.onDrive Drive.atUp).drive := h.same
  simp only [Machine.upReached]
  split
  · exact start up.same _
  · split
    · exact enterRotating up
    · exact up

theorem downReached : old.Follows (downReached s).drive := by
  simp only [Machine.downReached]
  split <;> exact h.same

/-! ### What follows a brake -/

theorem windowMiss (still : old.bridge.drives = false) : old.Follows (windowMiss s).drive := by
  unfold Machine.windowMiss
  split
  · exact h.undriven still
  · exact h.stall

theorem windowBrakeEnd (still : old.bridge.drives = false) : old.Follows (windowBrakeEnd s).drive := by
  have ended : old.Follows (s.onDrive Drive.endRotation).drive := h.same
  unfold Machine.windowBrakeEnd
  split
  · split
    · exact windowReached ended
    · exact h.windowMiss still
  · split
    · exact enterDropping ended
    · exact h.windowMiss still
  all_goals exact h

/-- R52: a brake that ends may be followed by any drive. -/
theorem brakeEnd (still : old.bridge.drives = false) : old.Follows (brakeEnd s).drive := by
  have released : old.Follows (s.onDrive Drive.release).drive := h.undriven still
  simp only [Machine.brakeEnd]
  split
  · exact released
  · split
    · exact jam released _
    · split
      case h_2 => exact windowBrakeEnd released still
      all_goals exact released.undriven still

/-! ### The queue and homing -/

theorem pump : old.Follows (pump s).drive := by
  have take (q : List Entry) : ∀ s : State, old.Follows s.drive → old.Follows (takeFrom q s).drive := by
    induction q with
    | nil => exact fun _ => id
    | cons e rest ih =>
      intro s h
      simp only [takeFrom]
      split
      · exact ih _ (h.same (by simp) (by simp))
      · exact enterFadingOut h.focusStopOrder
  unfold Machine.pump
  split
  · exact take _ _ h
  · exact h

theorem enterShowing : old.Follows (enterShowing s).drive := pump (h.same (by simp) (by simp))

theorem gateEmpty (slot : Nat) (ch : Change) : old.Follows (gateEmpty slot ch s).drive := by
  simp only [Machine.gateEmpty]
  split
  · exact enterLifting (h.same (by simp) (by simp))
  · exact pump (h.same (by simp) (by simp))

theorem settleEnd : old.Follows (settleEnd s).drive := by
  simp only [Machine.settleEnd]
  split
  · exact h
  · split
    · simp only [slideFound]
      split
      · exact enterShowing (h.same (by simp) (by simp))
      · exact h.same (by simp) (by simp)
    · exact h.gateEmpty _ _

theorem startHoming (src : Source) : old.Follows (startHoming src s).drive := by
  simp only [Machine.startHoming]
  split
  · exact start h.same _
  · exact h.same

theorem offerHome : old.Follows (offerHome s).1.drive := by
  unfold Machine.offerHome
  split
  case h_2 | h_3 => exact h.startHoming _
  case h_5 => exact startHoming h.same _
  all_goals exact h

theorem refuseUnhomed (src : Source) : old.Follows (refuseUnhomed src s).1.drive := by
  simp only [Machine.refuseUnhomed, turnedAway_state]
  split
  · exact h.startHoming _
  · exact h

theorem enqueue (q : List Entry) : old.Follows (enqueue q s).drive :=
  pump (s := s.onChanger fun c => { c with queue := q }) h

theorem offerStep (src : Source) (k : Int) : old.Follows (offerStep src k s).1.drive := by
  unfold Machine.offerStep
  split
  · exact h
  · split
    · exact h
    · split
      · exact h.refuseUnhomed _
      · split
        · exact h
        · exact h.enqueue _

theorem offerGoto (src : Source) (lb : Bool) (n : Nat) : old.Follows (offerGoto src lb n s).1.drive := by
  have queued (e : Entry) : old.Follows (queueGoto e s).drive := by
    unfold queueGoto
    split
    · exact h.enqueue _
    · split
      · exact h.enqueue _
      · exact enqueue (h.same (by simp) (by simp)) _
  unfold Machine.offerGoto
  split
  · exact h
  · split
    · exact h
    · split
      · exact h
      · split
        · exact h.refuseUnhomed _
        · exact queued _

theorem autoStep : old.Follows (autoStep s).drive := by
  unfold Machine.autoStep
  split
  · exact h.same (by simp) (by simp)
  · exact h.offerStep _ _

theorem expireDwell : old.Follows (expireDwell s).drive := by
  simp only [Machine.expireDwell]
  split
  · unfold loopBack
    split
    · exact autoStep (by exact h)
    · exact offerGoto (by exact h) _ _ _
  · exact autoStep (by exact h)

end

end Drive.Follows

/-! ### Commands -/

theorem follows_readsOnly (old : Drive) : ReadsOnly (fun s => old.Follows s.drive) [.drive] := fun s t hb hs => by
  have hd : t.drive = s.drive := hb .drive (by simp)
  show old.Follows t.drive
  rwa [hd]

theorem follows_keptByOffers (old : Drive) : KeptByOffers fun s => old.Follows s.drive :=
  .of_changer_drive ((follows_readsOnly old).mono (by simp)) (fun src k _ h => h.offerStep src k)
    (fun src lb n _ h => h.offerGoto src lb n) (fun _ _ h => h) (fun dir _ h => h.focusKey dir)

/-- The commands that count the position, set it to 0 or change the tray. -/
def setsPosition : Instr → Bool
  | .encoderCount => true
  | .indexPass => true
  | .trayRemoval => true
  | .trayInsertion _ => true
  | .reset => true
  | .powerOnReset => true
  | _ => false

section

variable {s t : State}

theorem execFocus_follows {dir ticks : Nat} (h : execFocus dir ticks s = .next t) : s.drive.Follows t.drive := by
  have h0 := Drive.Follows.refl s.drive
  unfold execFocus at h
  refine (follows_readsOnly s.drive).hostRequest_keeps h h0 ?_
  split
  · exact h0
  · split
    · exact h0
    · split
      · exact h0
      · exact h0.focusHost _ _

theorem execFocusPauseEnd_follows (h : execFocusPauseEnd s = .next t) : s.drive.Follows t.drive := by
  cases h
  simp only [State.onDrive_drive, Drive.endPause]
  (repeat' split) <;> exact (Drive.Follows.refl _).same

theorem execFocusEndSwitch_follows {dir : FocusDir} {closed : Bool} (h : execFocusEndSwitch dir closed s = .next t) :
    s.drive.Follows t.drive := by
  cases h
  cases dir <;> simp only [State.onDrive_drive, Drive.endSwitch] <;> (repeat' split) <;>
    exact (Drive.Follows.refl _).same

theorem execLifterSwitchChange_follows {up down : Bool} (h : execLifterSwitchChange up down s = .next t) :
    s.drive.Follows t.drive := by
  have moved : s.drive.Follows (s.onDrive fun d => { d with swUp := up, swDown := down }).drive :=
    (Drive.Follows.refl _).same
  simp only [execLifterSwitchChange] at h
  split at h
  · cases h
    exact moved.jam _
  · split at h
    · cases h
      exact moved.upReached
    · split at h
      · cases h
        exact moved.downReached
      · cases h
        exact moved

theorem execGateStateChange_follows {occupied : Bool} (h : execGateStateChange occupied s = .next t) :
    s.drive.Follows t.drive := by
  have h0 := Drive.Follows.refl s.drive
  simp only [execGateStateChange] at h
  split at h
  · cases h
    exact h0
  · split at h <;> cases h
    · exact h0.same (by simp) (by simp)
    · exact h0.same

end

/-- Every command that does not set the position leaves the counter, and a bridge that drives goes on or brakes. -/
theorem exec_follows {c : Instr} {s t : State} (h : exec c s = .next t) (hc : setsPosition c = false) :
    s.drive.Follows t.drive := by
  have h0 := Drive.Follows.refl s.drive
  have offers := follows_keptByOffers s.drive
  have guarded {p : Prop} [Decidable p] {u : State}
      (h : (if p then Host.Outcome.next u else .next s : Host.Outcome State Fault Refusal) = .next t)
      (hu : p → s.drive.Follows u.drive) : s.drive.Follows t.drive :=
    keeps_of_guarded (P := fun u => s.drive.Follows u.drive) h h0 hu
  have owner {c : Instr} {o : State → Reply} (h : hostRequest c o s = .next t)
      (ho : s.drive.Follows (o s).state.drive) : s.drive.Follows t.drive :=
    (follows_readsOnly s.drive).hostRequest_keeps h h0 ho
  cases c with
  | encoderCount | indexPass | trayRemoval | trayInsertion | reset | powerOnReset => cases hc
  | step k => exact owner (o := fun s => .ofOffer (offerStep .host k s)) h (h0.offerStep _ _)
  | goto n => exact owner (o := fun s => .ofOffer (offerGoto .host false n s)) h (h0.offerGoto _ _ _)
  | home => exact owner (o := fun s => .ofOffer (offerHome s)) h h0.offerHome
  | focus dir ticks => exact execFocus_follows h
  | gateStateChange occupied => exact execGateStateChange_follows h
  | backOffComplete => exact guarded h fun _ => h0.braked
  | noIndexBudgetExhausted => exact guarded h fun _ => h0.jam _
  | stallWatchdogExpiry => exact guarded h fun _ => h0.stall
  | brakeEnd => exact guarded h fun hb => h0.brakeEnd (by rw [hb]; rfl)
  | liftDone =>
    cases h
    split
    · exact h0.upReached
    · exact h0
  | dropDone =>
    cases h
    split
    · exact h0.downReached
    · exact h0
  | lifterTimeout => exact guarded h fun _ => Drive.Follows.jam (s := s.onDrive _) h0.same _
  | lifterSwitchChange up down => exact execLifterSwitchChange_follows h
  | settleEnd => exact guarded h fun _ => Drive.Follows.settleEnd (s := s.onDrive _) h0.same
  | fadeOutEnd => exact guarded h fun _ => h0.enterLifting
  | fadeInEnd => exact guarded h fun _ => h0.enterShowing
  | dwellExpiry => exact guarded h fun _ => h0.expireDwell
  | focusStopTimerExpiry =>
    simp only [exec, execFocusStopTimerExpiry] at h
    (repeat' split at h) <;> cases h <;> exact h0.same
  | focusDurationEnd =>
    simp only [exec, execFocusDurationEnd] at h
    (repeat' split at h) <;> cases h <;> exact h0.same
  | focusPauseEnd => exact execFocusPauseEnd_follows h
  | focusEndSwitch dir closed => exact execFocusEndSwitch_follows h
  | cueWordComplete stop => exact offers.cueWordComplete h h0
  | pulseCue => exact offers.pulseCue h h0
  | irFrame b => exact offers.irFrame h h0
  | irByteComplete b => exact offers.irByteComplete h h0
  | busDestinationDecided p b => exact offers.busDestinationDecided h h0
  | busFrameEnd p b => exact offers.busFrameEnd h h0
  | busByteReceived p b => exact offers.busByteReceived h h0
  | _ => exact (follows_readsOnly s.drive).exec_keeps h (by simp [touches]) h0

/-! ### The tray -/

theorem tray_keptByCycle (tray : Option TraySize) : KeptByCycle fun c => c.tray = tray where
  view _ _ _ _ htray _ h := htray.trans h
  occupancy c n o h := by simpa using h
  cleared _ h := h
  lost _ h := h
  homes _ h := h

theorem execSettleEnd_tray {s t : State} (h : execSettleEnd s = .next t) : t.changer.tray = s.changer.tray := by
  have K := tray_keptByCycle s.changer.tray
  refine keeps_of_guarded (P := fun u => u.changer.tray = s.changer.tray) h rfl fun _ => ?_
  unfold settleEnd
  split
  · rfl
  · split
    · exact K.slideFound (by simp [found])
    · exact K.gateEmpty _ _ rfl

theorem hostRequest_tray {c : Instr} {owner : State → Reply} {s t : State} (h : hostRequest c owner s = .next t)
    (ho : (owner s).state.changer.tray = s.changer.tray) : t.changer.tray = s.changer.tray :=
  (changer_readsOnly fun c => c.tray = s.changer.tray).hostRequest_keeps h rfl ho

theorem execWriteSlot_tray {slot : Nat} {set : FieldSet} {v : SlotValues} {s t : State}
    (h : execWriteSlot slot set v s = .next t) : t.changer.tray = s.changer.tray := by
  unfold execWriteSlot at h
  refine hostRequest_tray h ?_
  split <;> simp

theorem execLoadSlots_tray {first last : Nat} {set : FieldSet} {v : SlotValues} {s t : State}
    (h : execLoadSlots first last set v s = .next t) : t.changer.tray = s.changer.tray := by
  unfold execLoadSlots at h
  refine hostRequest_tray h ?_
  split <;> simp [Changer.mapSlots]

theorem execRetireSlot_tray {first last : Nat} {s t : State} (h : execRetireSlot first last s = .next t) :
    t.changer.tray = s.changer.tray := by
  unfold execRetireSlot at h
  refine hostRequest_tray h ?_
  split <;> simp [Changer.mapSlots]

theorem exec_tray {c : Instr} {s t : State} (h : exec c s = .next t) (hc : setsPosition c = false) :
    t.changer.tray = s.changer.tray := by
  have K := tray_keptByCycle s.changer.tray
  cases c with
  | trayRemoval | trayInsertion | reset | powerOnReset => cases hc
  | writeSlot slot set v => exact execWriteSlot_tray h
  | loadSlots first last set v => exact execLoadSlots_tray h
  | retireSlot first last => exact execRetireSlot_tray h
  | settleEnd => exact execSettleEnd_tray h
  | dwellExpiry =>
    exact keeps_of_guarded (P := fun u => u.changer.tray = s.changer.tray) h rfl fun _ =>
      K.expireDwell rfl fun _ _ _ => ⟨rfl, rfl⟩
  | _ => exact K.exec_keeps h rfl rfl

/-! ### The commands that set the position -/

/-- R49: a step keeps the counter in its range, and R52: a bridge that drives goes on in its direction or brakes. -/
structure Turns (s t : State) : Prop where
  position : PositionLaw s → PositionLaw t
  bridge : s.drive.bridge.drives = true → t.drive.bridge = s.drive.bridge ∨ t.drive.bridge = .brake

theorem Turns.refl (s : State) : Turns s s := ⟨id, fun _ => .inl rfl⟩

theorem PositionLaw.of_eq {s t : State} (h : PositionLaw s) (ht : t.changer.tray = s.changer.tray)
    (hp : t.drive.position = s.drive.position) : PositionLaw t := by
  unfold PositionLaw Changer.size
  rw [ht, hp]
  exact h

theorem turns_of_follows {s t : State} (ht : t.changer.tray = s.changer.tray) (hd : s.drive.Follows t.drive) :
    Turns s t :=
  ⟨fun h => h.of_eq ht hd.position, hd.bridge⟩

theorem modulus_pos {c : Changer} (h : c.tray ≠ none) : 0 < modulus c.size := by
  have := Changer.size_pos h
  simp only [modulus]
  omega

/-- R49: the counter at 0 lies in its range. -/
theorem positionLaw_of_zero {s : State} (h : s.drive.position = 0) : PositionLaw s :=
  ⟨fun _ => h, fun ht => h ▸ modulus_pos ht⟩

/-- R49: a count stays within the revolution. -/
theorem nextPosition_lt {n count : Nat} (dir : Dir) (h : count < modulus n) : nextPosition n count dir < modulus n := by
  cases dir <;> simp only [nextPosition] <;> split <;> omega

theorem Drive.testWindow_bridge (n : Nat) (d : Drive) :
    (d.testWindow n).position = d.position ∧ ((d.testWindow n).bridge = d.bridge ∨ (d.testWindow n).bridge = .brake) := by
  rcases d.testWindow_cases n with e | ⟨-, -, e⟩ <;> simp [e]

section

variable {s t : State}

theorem execEncoderCount_turns (h : execEncoderCount s = .next t) : Turns s t := by
  unfold execEncoderCount at h
  split at h
  · cases h
    exact .refl _
  · rename_i ht
    cases h
    obtain ⟨position, bridge⟩ := (s.drive.count s.changer.size).testWindow_bridge s.changer.size
    refine ⟨fun hs => ⟨fun hn => absurd hn ht, fun _ => ?_⟩, fun _ => bridge⟩
    show (Drive.testWindow _ _).position < _
    rw [position]
    exact nextPosition_lt _ (hs.2 ht)

theorem indexHomed_turns (s : State) : Turns s (indexHomed s) := by
  simp only [indexHomed]
  split
  · exact .refl _
  · obtain ⟨position, bridge⟩ := Drive.testWindow_bridge s.changer.size { s.drive with position := 0 }
    exact ⟨fun _ => positionLaw_of_zero (by simpa using position), fun _ => by simpa using bridge⟩

theorem indexSeen_turns (s : State) : Turns s (indexSeen s) := by
  simp only [indexSeen]
  refine ⟨fun _ => positionLaw_of_zero ?_, fun _ => .inr ?_⟩ <;> simp only [State.onChanger_drive, State.onDrive_drive]
  · split <;> rfl
  · split
    · assumption
    · rfl

theorem execIndexPass_turns (h : execIndexPass s = .next t) : Turns s t := by
  let counted := s.onDrive fun d => { d with revolutions := satAdd 65535 d.revolutions 1 }
  have on {t : State} (h : Turns counted t) : Turns s t := ⟨fun hs => h.position hs, h.bridge⟩
  simp only [execIndexPass] at h
  split at h
  · cases h
    exact .refl _
  · split at h
    · cases h
      exact on (indexHomed_turns counted)
    · split at h <;> cases h
      · exact on (indexSeen_turns counted)
      · exact on (.refl _)

theorem execTrayRemoval_turns (h : execTrayRemoval s = .next t) : Turns s t := by
  by_cases ht : s.changer.tray = none
  · cases (if_pos ht).symm.trans h
    exact .refl _
  · cases (execTrayRemoval_eq ht).symm.trans h
    refine ⟨fun _ => positionLaw_of_zero (by simp [Drive.trayRemoved]), fun hdr => .inr ?_⟩
    have moving : s.drive.bridge ≠ .off := fun e => by simp [e, Bridge.drives] at hdr
    simp [Drive.trayRemoved, moving]

theorem execTrayInsertion_turns {lugs : BitVec 2} (h : execTrayInsertion lugs s = .next t) : Turns s t := by
  simp only [execTrayInsertion] at h
  split at h <;> cases h
  · exact ⟨fun _ => positionLaw_of_zero (by simp), fun _ => .inl (by simp)⟩
  · exact .refl _

theorem execReset_turns (h : execReset s = .next t) : Turns s t := by
  unfold execReset at h
  rcases hostRequest_cases h with ⟨-, rfl⟩ | ⟨-, rfl⟩
  · exact ⟨fun _ => positionLaw_of_zero (by simp [Drive.atReset]), fun hdr =>
      .inr (by simpa [Drive.atReset] using (Drive.halt_of_drives hdr).1)⟩
  · exact .refl _

theorem powerOn_turns (s : State) : Turns s (powerOn s) :=
  ⟨fun _ => positionLaw_of_zero rfl, fun hdr => .inr (Drive.halt_of_drives hdr).1⟩

/-! ### Every command -/

theorem exec_turns {c : Instr} (h : exec c s = .next t) : Turns s t := by
  cases hc : setsPosition c with
  | false => exact turns_of_follows (exec_tray h hc) (exec_follows h hc)
  | true =>
    cases c with
    | encoderCount => exact execEncoderCount_turns h
    | indexPass => exact execIndexPass_turns h
    | trayRemoval => exact execTrayRemoval_turns h
    | trayInsertion lugs => exact execTrayInsertion_turns h
    | reset => exact execReset_turns h
    | powerOnReset =>
      cases h
      exact powerOn_turns s
    | _ => cases hc

theorem step_turns (h : step s = .next t) : Turns s t := by
  unfold step at h
  split at h
  · cases h
    exact turns_of_follows rfl (Drive.Follows.refl s.drive).same
  · obtain ⟨position, bridge⟩ := exec_turns h
    exact ⟨fun hs => position hs, bridge⟩

end

/-! ### The lines of the bridge -/

theorem Bridge.lines_legsApart (b : Bridge) : b.lines.legsApart = true := by cases b <;> rfl

/-- R52: with sides taken away the legs stay apart. -/
theorem BridgeLines.common_legsApart {a b : BridgeLines} (h : b.legsApart = true) : (a.common b).legsApart = true := by
  simp only [BridgeLines.legsApart, BridgeLines.common, Bool.and_eq_true, Bool.not_eq_true', Bool.and_eq_false_iff] at h ⊢
  tauto

/-- Settles O57: the lines by the table, and each step by what it can do to the counter and the bridge. -/
theorem theTrayNeverReversesAtOnce : Obligations.TheTrayNeverReversesAtOnce := by
  unfold Obligations.TheTrayNeverReversesAtOnce
  refine ⟨rfl, rfl, rfl, rfl, fun s t h => ?_⟩
  obtain ⟨position, bridge⟩ := step_turns h
  refine ⟨position, fun ⟨hs, ht⟩ => ?_, fun ⟨hs, ht⟩ => ?_, s.drive.bridge.lines.common t.drive.bridge.lines, rfl,
    Bool.and_eq_true_iff, Bool.and_eq_true_iff, Bool.and_eq_true_iff, Bool.and_eq_true_iff,
    BridgeLines.common_legsApart (Bridge.lines_legsApart _), Bridge.lines_legsApart _⟩
  · simp [hs, ht, Bridge.drives] at bridge
  · simp [hs, ht, Bridge.drives] at bridge

end Sys2Proof.Machine
end

section
/-! PROOFS. The encoder (O24) and the index (O27). -/

namespace Sys2Proof.Machine

/-! ### The window test at a count (R53) -/

/-- R53 step 2: a drive toward its target brakes in the target's window. -/
theorem Drive.testWindow_of_window {n c : Nat} {d : Drive} (hdr : d.bridge.drives = true) (hback : d.backingOff = false)
    (hm : d.motion.target = some c) (hw : inWindow n d.position c = true) : d.testWindow n = d.brake .window := by
  simp [Drive.testWindow, Drive.onTarget, hdr, hback, hm, hw]

/-- R53 step 2: nothing comes of the test without a drive, in a back-off or outside the window. -/
theorem Drive.testWindow_of_away {n : Nat} {d : Drive} (h : d.bridge.drives = false ∨ d.backingOff = true ∨
    d.motion.target = none ∨ ∀ c, d.motion.target = some c → inWindow n d.position c = false) : d.testWindow n = d := by
  rcases h with h | h | h | h
  · simp [Drive.testWindow, h]
  · simp [Drive.testWindow, h]
  · simp [Drive.testWindow, Drive.onTarget, h]
  · have off : d.onTarget n = false := by
      unfold Drive.onTarget
      split
      · rfl
      · exact h _ ‹_›
    simp [Drive.testWindow, off]

/-! ### Counts (O24) -/

theorem execEncoderCount_eq {s : State} (h : s.changer.tray ≠ none) : execEncoderCount s =
    .next (s.onDrive fun d => (d.count s.changer.size).testWindow s.changer.size) := if_neg h

/-- R48: forward in a forward drive, and after a forward drive or none. -/
theorem Drive.countDir_of_forward {d : Drive}
    (h : d.bridge = .forward ∨ ¬d.bridge.drives = true ∧ d.lastDrive ≠ some .backward) : d.countDir = .forward := by
  have last (hl : d.lastDrive ≠ some .backward) : d.lastDrive.getD .forward = .forward := by
    rcases hd : d.lastDrive with _ | _ | _
    · rfl
    · rfl
    · exact absurd hd hl
  rcases h with h | ⟨hb, hl⟩
  · simp only [Drive.countDir, h]
  · cases e : d.bridge with
    | off | brake => simpa only [Drive.countDir, e] using last hl
    | forward | backward => simp [e, Bridge.drives] at hb

/-- R48: backward in a backward drive and after one. -/
theorem Drive.countDir_of_backward {d : Drive}
    (h : d.bridge = .backward ∨ ¬d.bridge.drives = true ∧ d.lastDrive = some .backward) : d.countDir = .backward := by
  rcases h with h | ⟨hb, hl⟩
  · simp only [Drive.countDir, h]
  · cases e : d.bridge with
    | off | brake => simp only [Drive.countDir, e, hl, Option.getD_some]
    | forward | backward => simp [e, Bridge.drives] at hb

/-- Settles O24: the count by its direction, and the window test by whether it brakes. -/
theorem encoderCountsMoveTheCounter : Obligations.EncoderCountsMoveTheCounter := by
  unfold Obligations.EncoderCountsMoveTheCounter
  intro s
  let counted := s.drive.count s.changer.size
  refine ⟨fun h => if_pos h, fun h => ⟨s.onDrive fun _ => counted.testWindow s.changer.size, execEncoderCount_eq h, rfl, ?_⟩⟩
  have position : (counted.testWindow s.changer.size).position =
      nextPosition s.changer.size s.drive.position s.drive.countDir := (counted.testWindow_bridge _).1
  have tested := counted.testWindow_cases s.changer.size
  simp only [State.onDrive_drive, position]
  refine ⟨?_, fun hd => ?_, fun hd => ?_, ?_, ?_, fun c hdr hback hm hw => ?_, fun away => ?_⟩
  · rcases tested with e | ⟨-, -, e⟩ <;> rw [e] <;> rfl
  · rw [Drive.countDir_of_forward hd]
    rfl
  · rw [Drive.countDir_of_backward hd]
    rfl
  · rcases tested with e | ⟨-, -, e⟩ <;> rw [e] <;> rfl
  · rcases tested with e | ⟨-, -, e⟩ <;> rw [e] <;> rfl
  · rw [Drive.testWindow_of_window (d := counted) hdr hback hm hw]
    exact ⟨rfl, rfl, rfl, rfl⟩
  · rw [Drive.testWindow_of_away (d := counted)]
    · exact ⟨rfl, rfl, rfl, rfl⟩
    · exact away

/-! ### Index passes (O27) -/

/-- R51: the drive with an index pass counted. -/
def Drive.passed (d : Drive) : Drive := { d with revolutions := min 65535 (d.revolutions + 1) }

/-- R50: the drive with its counter corrected at an index pass. -/
def Drive.corrected (d : Drive) : Drive := { d.passed with position := 0 }

section

variable {s : State} (ht : s.changer.tray ≠ none)
include ht

theorem execIndexPass_of_homed (hh : s.changer.homed = true) :
    execIndexPass s = .next (indexHomed (s.onDrive Drive.passed)) := (if_neg ht).trans (if_pos hh)

/-- R50: a counter off by more than 3 is corrected with SLIP, and the window is tested at 0. -/
theorem execIndexPass_of_slip {slip : Int} (h : slip = signedDistance s.changer.size s.drive.position 0)
    (hh : s.changer.homed = true) (off : ¬(-3 ≤ slip ∧ slip ≤ 3)) : execIndexPass s =
      .next (raise (.slip slip) { s with drive := s.drive.corrected.testWindow s.changer.size }) := by
  subst h
  exact (execIndexPass_of_homed ht hh).trans (congrArg _ (if_neg off))

theorem execIndexPass_of_seen (hh : s.changer.homed = false) (hm : s.drive.motion = .homeSeek)
    (hback : s.drive.backingOff = false) (hb : s.drive.budget < budgetLimit s.changer.size) :
    execIndexPass s = .next (indexSeen (s.onDrive Drive.passed)) := by
  have lost : ¬s.changer.homed = true := by simp [hh]
  exact (if_neg ht).trans ((if_neg lost).trans (if_pos ⟨hm, hback, hb⟩))

/-- R51: outside a seek, in a back-off and past the budget a pass is counted and no more. -/
theorem execIndexPass_of_lost (hh : s.changer.homed = false) (h : s.drive.motion ≠ .homeSeek ∨ s.drive.backingOff = true ∨
    budgetLimit s.changer.size ≤ s.drive.budget) : execIndexPass s = .next (s.onDrive Drive.passed) := by
  have lost : ¬s.changer.homed = true := by simp [hh]
  refine (if_neg ht).trans ((if_neg lost).trans (if_neg ?_))
  rintro ⟨hm, hback, hb⟩
  rcases h with h | h | h
  · exact h hm
  · exact Bool.false_ne_true (hback.symm.trans h)
  · exact absurd hb (not_lt.mpr h)

end

/-- R12, R30: the Changer as the index is seen. -/
def Changer.homedAtOne (c : Changer) : Changer :=
  { c with homed := true, current := some 1, change := c.change.map fun ch => { ch with target := some 1 } }

theorem indexSeen_of_not_brake {s : State} (h : s.drive.bridge ≠ .brake) : indexSeen s =
    { s with
      changer := s.changer.homedAtOne
      drive := Drive.brake .window { s.drive with position := 0, motion := .homeCentre, budget := 0 } } := by
  simp only [indexSeen, State.onDrive, if_neg h]
  rfl

/-- Log 14: the brake of a stall keeps its time, and the window test replaces what was to follow it. -/
theorem indexSeen_of_brake {s : State} (h : s.drive.bridge = .brake) : indexSeen s =
    { s with
      changer := s.changer.homedAtOne
      drive := { s.drive with
        position := 0, motion := .homeCentre, budget := 0, bridge := .brake, afterBrake := .window } } := by
  simp only [indexSeen, State.onDrive, if_pos h]
  rw [← h]
  rfl

/-- Settles O27: homed by the slip and the window test at 0, and in a seek by what the bridge does. -/
theorem indexPassesCountAndCorrect : Obligations.IndexPassesCountAndCorrect := by
  unfold Obligations.IndexPassesCountAndCorrect
  intro s
  refine ⟨fun h => if_pos h, fun ht => ?_⟩
  intro counted slip
  refine ⟨fun hh low high => ?_, fun hh off => ⟨fun away => ?_, fun c hdr hback hm hw => ?_⟩,
    fun hh hm hback hb => ⟨fun hne => ?_, fun hbr => ?_⟩, fun hh h => execIndexPass_of_lost ht hh h⟩
  · exact (execIndexPass_of_homed ht hh).trans (congrArg _ (if_pos ⟨low, high⟩))
  · refine (execIndexPass_of_slip ht (slip := slip) rfl hh off).trans ?_
    rw [Drive.testWindow_of_away]
    · rfl
    · refine away.imp_right (.imp_right (.imp_right fun ⟨c, hc, hw⟩ c' hc' => ?_))
      cases hc.symm.trans hc'
      exact hw
  · refine (execIndexPass_of_slip ht (slip := slip) rfl hh off).trans ?_
    rw [Drive.testWindow_of_window (d := s.drive.corrected) hdr hback hm hw]
    rfl
  · exact (execIndexPass_of_seen ht hh hm hback hb).trans
      (congrArg _ (indexSeen_of_not_brake (s := s.onDrive Drive.passed) hne))
  · refine (execIndexPass_of_seen ht hh hm hback hb).trans ?_
    rw [indexSeen_of_brake (s := s.onDrive Drive.passed) hbr]
    rfl

end Sys2Proof.Machine
end

section
/-! PROOFS. The focus motor (O28). -/

namespace Sys2Proof.Machine

/-! ### Runs of the motor (R62, R63) -/

/-- R62, R63: what a run asked of the motor comes to, by what it does: a claim about the focus state and its timer holds in
each case when it follows from the drive the request leads to. -/
theorem Drive.runFocus_cases (dir : FocusDir) (run : FocusRun) (d : Drive) (P : Focus → Option Nat → Prop)
    (hP : ∀ focus timer, d.runFocus dir run = { d with focus := focus, focusTimer := timer } → P focus timer) :
    (d.focus = .stopped → P (.running dir run) (some run.ms)) ∧
    (∀ old was, d.focus = .running old was →
      (old = dir → P (.running dir run) (some run.ms)) ∧ (old ≠ dir → P (.pausing dir run) (some 40))) ∧
    (∀ old was, d.focus = .pausing old was → P (.pausing dir run) d.focusTimer) := by
  refine ⟨fun h => hP _ _ ?_, fun old was h => ⟨fun hd => hP _ _ ?_, fun hd => hP _ _ ?_⟩, fun old was h => hP _ _ ?_⟩
  · simp only [Drive.runFocus, h]
  · simp only [Drive.runFocus, h, if_pos hd]
  · simp only [Drive.runFocus, h, if_neg hd]
    rfl
  · simp only [Drive.runFocus, h]

theorem Drive.focusHost_of_closed {dir : FocusDir} {ms : Nat} {d : Drive} (h : d.endClosed dir = true) :
    d.focusHost dir ms = d := if_pos h

theorem Drive.focusHost_of_open {dir : FocusDir} {ms : Nat} {d : Drive} (h : d.endClosed dir = false) :
    d.focusHost dir ms = d.runFocus dir (.host ms) := if_neg (by simp [h])

/-! ### FOCUS (R63) -/

theorem focusDirOf_eq (dir : Nat) :
    focusDirOf dir = if 1 < dir then none else some (if dir = 0 then .inward else .outward) := by
  match dir with
  | 0 | 1 => rfl
  | n + 2 => simp [focusDirOf]

theorem execFocus_eq {dir ticks : Nat} {s : State} (ha : s.link.accepts (.focus dir ticks) = true) :
    execFocus dir ticks s = .next (
      if 1 < dir ∨ ticks = 0 ∨ 100 < ticks then respond 14 .badValue [] s
      else if s.drive.trayMotion then respond 14 .notNow [] s
      else respond 14 .done []
        (s.onDrive (Drive.focusHost (if dir = 0 then .inward else .outward) (ticks * 10)))) := by
  unfold execFocus
  rw [hostRequest_of_accepts _ _ _ ha, focusDirOf_eq]
  by_cases hd : 1 < dir
  · simp only [hd, if_true, true_or]
    rfl
  · simp only [hd, if_false, false_or]
    (repeat' split) <;> rfl

/-! ### The end switches (R62) -/

/-- R62: the end switch of a direction, set. -/
def Drive.setEnd (dir : FocusDir) (closed : Bool) (d : Drive) : Drive :=
  match dir with
  | .inward => { d with endIn := closed }
  | .outward => { d with endOut := closed }

theorem Drive.endClosed_setEnd (dir : FocusDir) (closed : Bool) (d : Drive) :
    (d.setEnd dir closed).endClosed dir = closed := by cases dir <;> rfl

theorem Drive.setEnd_frame (dir : FocusDir) (closed : Bool) (d : Drive) :
    d.setEnd dir closed = { d with endIn := (d.setEnd dir closed).endIn, endOut := (d.setEnd dir closed).endOut } := by
  cases dir <;> rfl

/-- R62: a closing ends a run in its direction. -/
theorem Drive.endSwitch_of_run {dir : FocusDir} {run : FocusRun} {d : Drive} (h : d.focus = .running dir run) :
    d.endSwitch dir true = (d.setEnd dir true).stopFocus := by
  cases dir <;> simp [Drive.endSwitch, Drive.setEnd, h]

theorem Drive.endSwitch_of_opening (dir : FocusDir) (d : Drive) : d.endSwitch dir false = d.setEnd dir false := by
  cases dir <;> simp only [Drive.endSwitch, Drive.setEnd] <;> split <;> rfl

theorem Drive.endPause_of_pausing {dir : FocusDir} {run : FocusRun} {d : Drive} (h : d.focus = .pausing dir run) :
    d.endPause = if d.endClosed dir then d.stopFocus
      else { d with focus := .running dir run, focusTimer := some run.ms } := by
  simp only [Drive.endPause, h]

/-- Settles O28: FOCUS by its checks and by what the motor does, the ends of runs and pauses by the focus state. -/
theorem theFocusMotorRuns : Obligations.TheFocusMotorRuns := by
  unfold Obligations.TheFocusMotorRuns
  refine ⟨fun s dir ticks ha => ⟨fun bad => ?_, fun h1 h2 h3 => ?_⟩, fun s dir => ?_⟩
  · exact (execFocus_eq ha).trans (by rw [if_pos bad])
  · have good : ¬(1 < dir ∨ ticks = 0 ∨ 100 < ticks) := by omega
    refine ⟨fun hm => (execFocus_eq ha).trans (by rw [if_neg good, if_pos hm]), fun hm => ?_⟩
    intro d answered
    have run : exec (.focus dir ticks) s = .next (respond 14 .done [] (s.onDrive (Drive.focusHost d (ticks * 10)))) :=
      (execFocus_eq ha).trans (by rw [if_neg good, if_neg (by simp [hm])])
    refine ⟨fun hc => ?_, fun ho =>
      Drive.runFocus_cases d (.host (ticks * 10)) s.drive answered fun focus timer hr => ?_⟩
    · rw [run, State.onDrive, Drive.focusHost_of_closed hc]
    · show exec _ s = _
      rw [run, State.onDrive, Drive.focusHost_of_open ho, hr]
  · refine ⟨fun h => ⟨?_, ?_⟩, fun ms h => ⟨?_, ?_⟩, fun run h => ⟨fun hc => ?_, fun ho => ?_⟩, fun run h => ?_, ?_⟩
    · show execFocusStopTimerExpiry s = _
      simp only [execFocusStopTimerExpiry, h]
      rfl
    · show execFocusDurationEnd s = _
      simp only [execFocusDurationEnd, h]
    · show execFocusDurationEnd s = _
      simp only [execFocusDurationEnd, h]
      rfl
    · show execFocusStopTimerExpiry s = _
      simp only [execFocusStopTimerExpiry, h]
    · show Host.Outcome.next (s.onDrive Drive.endPause) = _
      rw [State.onDrive, Drive.endPause_of_pausing h, if_pos hc]
      rfl
    · show Host.Outcome.next (s.onDrive Drive.endPause) = _
      rw [State.onDrive, Drive.endPause_of_pausing h, if_neg (by simp [ho])]
      cases run <;> rfl
    · refine ⟨s.onDrive fun d => (d.setEnd dir true).stopFocus, ?_, s.drive.endClosed_setEnd dir true, rfl, rfl, ?_⟩
      · show Host.Outcome.next (s.onDrive (Drive.endSwitch dir true)) = _
        rw [State.onDrive, Drive.endSwitch_of_run h]
        rfl
      · rw [State.onDrive, Drive.setEnd_frame]
        rfl
    · refine ⟨s.onDrive (Drive.setEnd dir false), ?_, s.drive.endClosed_setEnd dir false, ?_⟩
      · show Host.Outcome.next (s.onDrive (Drive.endSwitch dir false)) = _
        rw [State.onDrive, Drive.endSwitch_of_opening]
        rfl
      · exact congrArg (fun d => { s with drive := d }) (s.drive.setEnd_frame dir false)

end Sys2Proof.Machine
end

section
/-! PROOFS. The keys and their owners (O47). -/

namespace Sys2Proof.Machine

/-! ### Rights (R162) -/

theorem actHandsetKey_of_allowed {r : Rights} {f : RemoteFrame} {s : State} (hk : f.key ≠ 17) (h : r.allows f.key = true) :
    actHandsetKey r f s = actKey (.handset f.source) f.key f.args s := by
  simp only [actHandsetKey, if_neg hk, if_pos h]

theorem actHandsetKey_of_barred {r : Rights} {f : RemoteFrame} {s : State} (hk : f.key ≠ 17)
    (h : r.allows f.key = false) :
    actHandsetKey r f s = raise (.keyRefused (.handset f.source) f.key .rights) s := by
  simp [actHandsetKey, hk, h]

theorem Rights.allows_iff {r : Rights} {key : Nat} (hk : 1 ≤ key ∧ key ≤ 16) :
    (r.allows key = true ↔ r = .full ∨ r = .showOnly ∧ key ≤ 8 ∨ r = .soundOnly ∧ 9 ≤ key ∧ key ≤ 14) := by
  cases r <;> simp [Rights.allows] <;> omega

/-! ### The tape keys (R113, R114) -/

theorem enterPlaying_of_not_playing {s : State} (h : s.tape.transport ≠ .playing) : enterPlaying s =
    { s with
      cue := { s.cue with rx := .idle, burst := if s.cue.tone then some 0 else none }
      tape := { s.tape with transport := .playing, runDown := none, endTimer := some 1000, reelTimer := none } } := by
  have closed : (s.tape.transport == .playing) = false := by simpa using h
  rw [← CueUnit.gate_opens, ← closed]
  rfl

theorem enterPaused_of_playing {s : State} (h : s.tape.transport = .playing) : enterPaused s =
    { s with
      cue := { s.cue with rx := .idle, holding := none, burst := none }
      tape := { s.tape with transport := .paused, endTimer := none } } := by
  have opened : (s.tape.transport == .playing) = true := by simpa using h
  rw [← CueUnit.gate_closes, ← opened]
  rfl

/-- R113: TAPE PLAY by the transport state. -/
theorem offerTapePlay_starts {s : State}
    (h : s.tape.transport = .paused ∨ s.tape.transport = .stopped ∧ s.tape.runDown = none) :
    offerTapePlay s = (enterPlaying s, .done) := by
  rcases h with h | ⟨h, hr⟩
  · simp only [offerTapePlay, h, taken]
  · simp [offerTapePlay, h, hr, taken]

theorem offerTapePlay_of_runDown {s : State} {d : RunDown} (h : s.tape.transport = .stopped)
    (hr : s.tape.runDown = some d) :
    offerTapePlay s = ({ s with tape := { s.tape with runDown := some { d with next := .playing } } }, .done) := by
  simp [offerTapePlay, h, hr, taken, setPendingMotion, State.onTape]

theorem offerTapePlay_of_moving {s : State} (h : s.tape.transport = .playing ∨ s.tape.transport.winding = true) :
    offerTapePlay s = (s, .notNow) := by
  cases ht : s.tape.transport with
  | playing | windingFwd | windingBack => simp only [offerTapePlay, ht, turnedAway]
  | noTape | stopped | paused => simp [ht, Transport.winding] at h

theorem offerTapePause_of_not_playing {s : State} (hn : s.tape.transport ≠ .noTape) (h : s.tape.transport ≠ .playing) :
    offerTapePause s = (s, .notNow) := by
  cases ht : s.tape.transport with
  | noTape => exact absurd ht hn
  | playing => exact absurd ht h
  | stopped | paused | windingFwd | windingBack => simp only [offerTapePause, ht, turnedAway]

/-! ### The lamp keys (R68, R69) -/

/-- R68, R71, R72: the first strike attempt, which a current already flowing confirms. -/
theorem offerLampOn_of_off {s : State} (h : s.lamp.state = .off) (hc : s.lamp.checkDone = true)
    (hb : s.lamp.bandView ≠ .trip) : offerLampOn s =
    ({ s with
       lamp := if s.lamp.flowing then
           { s.lamp with state := .warming, attempts := 1, window := none, nextStrike := none, warmUp := 45000,
                         lossTimer := none }
         else { s.lamp with state := .striking, attempts := 1, window := some 2000, nextStrike := some 5000 }
       thermal := { s.thermal with duty := max s.thermal.duty s.thermal.profile.floor } }, .done) := by
  simp only [offerLampOn, h, if_pos (And.intro hc hb), taken, strikeAttempt]
  split
  · rename_i hf
    rw [if_pos (show s.lamp.flowing = true from hf)]
    rfl
  · rename_i hf
    rw [if_neg (show ¬s.lamp.flowing = true from hf)]
    rfl

theorem offerLampOn_of_barred {s : State} (h : s.lamp.state = .off)
    (hb : s.lamp.checkDone = false ∨ s.lamp.bandView = .trip) : offerLampOn s = (s, .notNow) := by
  have barred : ¬(s.lamp.checkDone = true ∧ s.lamp.bandView ≠ .trip) := by
    rintro ⟨hc, hv⟩
    rcases hb with hb | hb
    · exact Bool.false_ne_true (hb.symm.trans hc)
    · exact hv hb
  simp only [offerLampOn, h, if_neg barred, turnedAway]

theorem Lamp.active_iff (l : Lamp) :
    l.active = true ↔ l.state = .striking ∨ l.state = .warming ∨ l.state = .run := by
  cases h : l.state <;> simp [Lamp.active, Lamp.lit, h]

theorem offerLampOn_of_active {s : State} (h : s.lamp.active = true) : offerLampOn s = (s, .done) := by
  rcases s.lamp.active_iff.mp h with h | h | h <;> simp only [offerLampOn, h, taken]

theorem lampOff_of_active {s : State} (h : s.lamp.active = true) : lampOff s =
    { s with
      lamp := { s.lamp with
        state := .cooldown, dest := .off, window := none, nextStrike := none, warmUp := 0, lossTimer := none
        coolDown := s.thermal.profile.coolTime * 1000 }
      thermal := { s.thermal with duty := 1000 } } := if_pos h

theorem lampOff_of_inactive {s : State} (h : s.lamp.active = false) : lampOff s = s := if_neg (by simp [h])

/-! ### The other keys (R162, R163) -/

/-- R62: a focus key in a tray motion or at a closed end switch. -/
theorem Drive.focusKey_ignored {dir : FocusDir} {d : Drive} (h : d.trayMotion = true ∨ d.endClosed dir = true) :
    d.focusKey dir = d := if_pos (by simpa using h)

theorem Drive.focusKey_runs {dir : FocusDir} {d : Drive} (hm : d.trayMotion = false) (he : d.endClosed dir = false) :
    d.focusKey dir = d.runFocus dir .key := if_neg (by simp [hm, he])

/-- R163: the two focus keys. -/
theorem offerKey_focus {src : Source} {key : Nat} {dir : FocusDir} {args : List Nat} {s : State}
    (h : key = 7 ∧ dir = .inward ∨ key = 8 ∧ dir = .outward) :
    offerKey src key args s = ({ s with drive := s.drive.focusKey dir }, .done) := by
  rcases h with ⟨rfl, rfl⟩ | ⟨rfl, rfl⟩ <;> rfl

/-- Settles O47: the rights, then each key as its owner's answer. -/
theorem keysReachTheirOwners : Obligations.KeysReachTheirOwners := by
  unfold Obligations.KeysReachTheirOwners
  intro s src args taken refused
  refine ⟨fun key h => if_pos h, fun key h => if_neg h, fun r f low high => ⟨fun h => ?_, fun h => ?_⟩,
    rfl, rfl, rfl, fun h => ?_, fun h => ?_, rfl, rfl, fun key dir hk => ⟨fun h => ?_, fun hm he => ?_⟩,
    rfl, rfl, rfl, ?_, fun h => ⟨?_, ?_⟩,
    fun h => ?_, fun d h hr => ?_, fun h => ?_, fun h => ?_, fun hn h => ?_, fun h => ⟨fun hc hb => ?_, fun hb => ?_⟩,
    fun h => ?_, fun h => ?_, fun h => ⟨?_, ?_⟩, fun h => ?_⟩
  · exact actHandsetKey_of_allowed (by omega) ((Rights.allows_iff ⟨low, high⟩).mpr h)
  · refine actHandsetKey_of_barred (by omega) (eq_false_of_ne_true fun allowed => ?_)
    rcases (Rights.allows_iff ⟨low, high⟩).mp allowed with rfl | ⟨rfl, h8⟩ | ⟨rfl, h9, h14⟩
    · simp at h
    · simp at h
      omega
    · simp at h
      omega
  · show (setHold (!s.changer.held) s, Status.done) = _
    rw [h]
    rfl
  · show (setHold (!s.changer.held) s, Status.done) = _
    rw [h]
    rfl
  · exact (offerKey_focus hk).trans (by rw [Drive.focusKey_ignored h])
  · exact s.drive.runFocus_cases dir .key _ fun focus timer hr =>
      (offerKey_focus hk).trans (by rw [Drive.focusKey_runs hm he, hr])
  · show (s.onTape fun t => t.setDuck (!t.duckOn), Status.done) = _
    simp only [State.onTape, Tape.setDuck]
    cases s.tape.duckOn <;> rfl
  · show offerTapePlay s = _
    simp only [offerTapePlay, h, turnedAway]
  · show offerTapePause s = _
    simp only [offerTapePause, h, turnedAway]
  · have still : s.tape.transport ≠ .playing := by rcases h with h | ⟨h, -⟩ <;> simp [h]
    exact (offerTapePlay_starts h).trans (by rw [enterPlaying_of_not_playing still])
  · exact offerTapePlay_of_runDown h hr
  · exact offerTapePlay_of_moving h
  · show offerTapePause s = _
    simp only [offerTapePause, h, enterPaused_of_playing h]
    rfl
  · exact offerTapePause_of_not_playing hn h
  · exact offerLampOn_of_off h hc hb
  · exact offerLampOn_of_barred h hb
  · show offerLampOn s = _
    simp only [offerLampOn, h, turnedAway]
  · show offerLampOn s = _
    simp only [offerLampOn, h, turnedAway]
  · exact offerLampOn_of_active h
  · exact congrArg (·, Status.done) (lampOff_of_active h)
  · exact congrArg (·, Status.done) (lampOff_of_inactive h)

end Sys2Proof.Machine
end

section
/-! SUPPORT. The period computation stage by stage: what each stage makes of the lamp, of the Thermal Unit and of the notices;
then the state after the estimate, the state after the fan duty, and the period's end. -/

namespace Sys2Proof.Machine

/-! ### The cool-down (R69, R74) -/

/-- R69: the lamp in COOLDOWN with a destination and a loaded timer. -/
def Lamp.cooling (dest : CoolDest) (ms : Nat) (l : Lamp) : Lamp :=
  { l with
    state := .cooldown, dest := dest, window := none, nextStrike := none, warmUp := 0, lossTimer := none
    coolDown := ms }

theorem endCoolDownIfDone_cases (s : State) :
    endCoolDownIfDone s = s ∨
    s.lamp.state = .cooldown ∧ s.lamp.coolDown = 0 ∧ endCoolDownIfDone s = enterLamp s.lamp.dest.state s := by
  unfold endCoolDownIfDone
  split
  · rename_i h
    exact .inr ⟨h.1, h.2.1, rfl⟩
  · exact .inl rfl

/-- R106: a change of lamp state moves the fan duty alone. -/
theorem Thermal.fanOnLamp_eq (old new : LampState) (t : Thermal) :
    t.fanOnLamp old new = { t with duty := (t.fanOnLamp old new).duty } := by
  unfold Thermal.fanOnLamp
  (repeat' split) <;> rfl

/-- R74: the end of a cool-down changes the lamp state and the fan duty alone. -/
theorem endCoolDownIfDone_eq (s : State) : endCoolDownIfDone s =
    { s with lamp := { s.lamp with state := (endCoolDownIfDone s).lamp.state }
             thermal := { s.thermal with duty := (endCoolDownIfDone s).thermal.duty } } := by
  rcases endCoolDownIfDone_cases s with e | ⟨-, -, e⟩
  · rw [e]
  · rw [e]
    exact congrArg (fun t => { s with lamp := { s.lamp with state := s.lamp.dest.state }, thermal := t })
      (Thermal.fanOnLamp_eq _ _ _)

/-- R106: in TRIP and with a faulty sensor the fan goes on at its duty. -/
theorem endCoolDownIfDone_duty {s : State} (h : s.thermal.band = .trip ∨ s.thermal.sensor.isFault = true) :
    (endCoolDownIfDone s).thermal.duty = s.thermal.duty := by
  rcases endCoolDownIfDone_cases s with e | ⟨cool, -, e⟩
  · rw [e]
  · rw [e]
    cases hd : s.lamp.dest with
    | failed => rfl
    | off => simp [enterLamp, CoolDest.state, Thermal.fanOnLamp, cool, h]

/-! ### Notices under a condition -/

/-- A notice raised where a condition holds. -/
def raiseIf (b : Bool) (n : Notice) (s : State) : State := if b then raise n s else s

@[simp] theorem raiseIf_frame (b : Bool) (n : Notice) (s : State) :
    (raiseIf b n s).changer = s.changer ∧ (raiseIf b n s).drive = s.drive ∧ (raiseIf b n s).lamp = s.lamp ∧
    (raiseIf b n s).thermal = s.thermal ∧ (raiseIf b n s).tape = s.tape ∧ (raiseIf b n s).cue = s.cue ∧
    (raiseIf b n s).remote = s.remote ∧ (raiseIf b n s).bus = s.bus ∧ (raiseIf b n s).pending = s.pending := by
  cases b <;> simp [raiseIf]

theorem raiseIf_lamp (b : Bool) (n : Notice) (s : State) : (raiseIf b n s).lamp = s.lamp := by simp

theorem raiseIf_thermal (b : Bool) (n : Notice) (s : State) : (raiseIf b n s).thermal = s.thermal := by simp

theorem raiseIf_notice_same (b : Bool) (n : Notice) (s : State) :
    (raiseIf b n s).link.notices[n.place] =
      if b = true then { arg := some n, mark := true } else s.link.notices[n.place] := by
  cases b
  · rfl
  · exact raise_place_same n s

theorem raiseIf_notice_other (b : Bool) (n : Notice) (s : State) {i : Fin 30} (h : i ≠ n.place) :
    (raiseIf b n s).link.notices[i] = s.link.notices[i] := by
  cases b
  · rfl
  · exact raise_place_other n s h

/-! ### The first four stages -/

/-- R85: the lamp after the start-up check on a code, with profile 0's cool-down time. -/
def Lamp.checked (theta : Int) (ms : Nat) (l : Lamp) : Lamp :=
  if l.checkDone then l
  else if 400 ≤ theta then { l with checkDone := true }.cooling .off ms
  else { l with checkDone := true }

theorem startUpCheck_lamp (theta : Int) (s : State) :
    (startUpCheck theta s).lamp = s.lamp.checked theta (s.thermal.profiles[0].coolTime * 1000) := by
  unfold startUpCheck Lamp.checked
  (repeat' split) <;> rfl

theorem startUpCheck_thermal (theta : Int) (s : State) :
    (startUpCheck theta s).thermal = { s.thermal with duty := (startUpCheck theta s).thermal.duty } := by
  unfold startUpCheck
  (repeat' split) <;> rfl

/-- R89, R85: the code the start-up check takes of a sample. -/
def checkCode (cal : Calibration) (r : Sample) : Int := if sampleBad r then 3200 else tempCode cal (corrected cal r)

theorem sampleStage_eq (r : Sample) (theta : Int) (s : State) : sampleStage r theta s =
    startUpCheck (if sampleBad r then 3200 else theta)
      (raiseIf (s.thermal.sensor == .suspect && sampleBad r) (.sensorFault r.toNat)
        (s.onThermal (Thermal.takeSample (sampleBad r) theta))) := rfl

theorem sampleStage_lamp (r : Sample) (theta : Int) (s : State) :
    (sampleStage r theta s).lamp =
      s.lamp.checked (if sampleBad r then 3200 else theta) (s.thermal.profiles[0].coolTime * 1000) := by
  rw [sampleStage_eq, startUpCheck_lamp]
  simp [Thermal.takeSample]

theorem sampleStage_thermal (r : Sample) (theta : Int) (s : State) :
    (sampleStage r theta s).thermal =
      { s.thermal.takeSample (sampleBad r) theta with duty := (sampleStage r theta s).thermal.duty } := by
  rw [sampleStage_eq, startUpCheck_thermal, raiseIf_thermal]
  rfl

theorem sampleStage_notice (r : Sample) (theta : Int) (s : State) {i : Fin 30} (h : i ≠ 14) :
    (sampleStage r theta s).link.notices[i] = s.link.notices[i] := by
  have link (theta : Int) (u : State) : (startUpCheck theta u).link = u.link := by simp
  rw [sampleStage_eq, link]
  exact raiseIf_notice_other _ (.sensorFault _) _ h

/-- R94, R95: stage 4 with a used sample forms the estimate anew, and otherwise leaves it. -/
theorem estimateStage_cases (used : Bool) (light duty : Nat) (s : State) :
    estimateStage used light duty s = s.onThermal (fun t => { t with saturated := false }) ∨
    ∃ y, estimateStage used light duty s = raiseIf (saturates y) (.saturated s.thermal.count)
      (s.onThermal fun t => { t with est := estimateOf y, saturated := saturates y }) := by
  unfold estimateStage
  split
  · exact .inr ⟨_, rfl⟩
  · exact .inl rfl

theorem estimateStage_thermal (used : Bool) (light duty : Nat) (s : State) :
    (estimateStage used light duty s).thermal =
      { s.thermal with est := (estimateStage used light duty s).thermal.est
                       saturated := (estimateStage used light duty s).thermal.saturated } := by
  rcases estimateStage_cases used light duty s with e | ⟨y, e⟩ <;> rw [e]
  · rfl
  · rw [raiseIf_thermal]
    rfl

theorem estimateStage_notice (used : Bool) (light duty : Nat) (s : State) {i : Fin 30} (h : i ≠ 16) :
    (estimateStage used light duty s).link.notices[i] = s.link.notices[i] := by
  rcases estimateStage_cases used light duty s with e | ⟨y, e⟩ <;> rw [e]
  · rfl
  · exact raiseIf_notice_other _ (.saturated _) _ h

theorem estimateOf_inRange (y : Int) : inTempRange (estimateOf y) = true := by
  unfold inTempRange estimateOf clampInt
  rw [Bool.and_eq_true, decide_eq_true_iff, decide_eq_true_iff]
  (repeat' split) <;> omega

/-- R95: the estimate stands, or is formed anew within the temperature range. -/
theorem estimateStage_est (used : Bool) (light duty : Nat) (s : State) :
    (estimateStage used light duty s).thermal.est = s.thermal.est ∨
    inTempRange (estimateStage used light duty s).thermal.est = true := by
  rcases estimateStage_cases used light duty s with e | ⟨y, e⟩ <;> rw [e]
  · exact .inl rfl
  · rw [raiseIf_thermal]
    exact .inr (estimateOf_inRange y)

/-- R87 to R95: the state after stage 4, with the estimate formed. -/
def estimated (r : Sample) (h : Handover) (s : State) : State :=
  let t := s.onThermal fun t => { t.activate with sample := none, handover := none }
  estimateStage (t.thermal.sensor.uses (sampleBad r)) h.p s.thermal.duty
    (sampleStage r (tempCode t.thermal.cal (corrected t.thermal.cal r)) t)

section

variable (r : Sample) (h : Handover) (s : State)

theorem estimated_lamp : (estimated r h s).lamp =
    s.lamp.checked (checkCode s.thermal.cal r) (s.thermal.profiles[0].coolTime * 1000) := by
  simp [estimated, sampleStage_lamp, Thermal.activate, checkCode]

theorem estimated_thermal : (estimated r h s).thermal =
    { s.thermal.activate with
      sample := none, handover := none, sensor := s.thermal.sensor.move (sampleBad r)
      line := (estimated r h s).thermal.line, est := (estimated r h s).thermal.est
      saturated := (estimated r h s).thermal.saturated, duty := (estimated r h s).thermal.duty } := by
  simp only [estimated]
  rw [estimateStage_thermal, sampleStage_thermal]
  simp [Thermal.takeSample, Thermal.activate]

theorem estimated_notice {i : Fin 30} (h14 : i ≠ 14) (h16 : i ≠ 16) :
    (estimated r h s).link.notices[i] = s.link.notices[i] :=
  (estimateStage_notice _ _ _ _ h16).trans (sampleStage_notice _ _ _ h14)

theorem estimated_est :
    (estimated r h s).thermal.est = s.thermal.est ∨ inTempRange (estimated r h s).thermal.est = true := by
  refine (estimateStage_est _ _ _ _).imp_left fun e => e.trans ?_
  rw [sampleStage_thermal]
  rfl

end

/-! ### The band and the trip (R70, R101, R102) -/

/-- R70: the lamp at a trip, with the active profile's cool-down time. -/
def Lamp.tripped (ms : Nat) (l : Lamp) : Lamp :=
  if l.active then { l with bandView := .trip }.cooling .off ms else { l with bandView := .trip }

theorem Lamp.tripped_inactive (ms : Nat) (l : Lamp) : (l.tripped ms).active = false := by
  unfold Lamp.tripped
  split
  · rfl
  · exact eq_false_of_ne_true ‹_›

theorem lampTrip_eq (s : State) : lampTrip s =
    raiseIf s.lamp.active (.lampTrip s.lamp.state) (lampOff (s.onLamp fun l => { l with bandView := .trip })) := by
  cases ha : s.lamp.active with
  | true => simp only [lampTrip, ha, raiseIf, if_true]
  | false =>
    have off : (s.onLamp fun l => { l with bandView := .trip }).lamp.active = false := ha
    simp [lampTrip, ha, raiseIf, lampOff_of_inactive off]

theorem lampTrip_lamp (s : State) : (lampTrip s).lamp = s.lamp.tripped (coolTimeMs s) := by
  simp only [lampTrip_eq, raiseIf_frame, lampOff_lamp]
  rfl

theorem lampTrip_thermal (s : State) : (lampTrip s).thermal = { s.thermal with duty := (lampTrip s).thermal.duty } := by
  simp only [lampTrip_eq, raiseIf_frame, lampOff_thermal, State.onLamp_thermal]

/-- R101, R102: the entry to TRIP trips the lamp; THERM_WARN comes on NORMAL to WARM, and THERM_HOT on an entry to HOT. -/
theorem bandEntered_eq (before : Band) (s : State) : bandEntered before s =
    if before ≠ .trip ∧ s.thermal.band = .trip then lampTrip s
    else raiseIf (before == .normal && s.thermal.band == .warm) (.thermWarn s.thermal.est)
      (raiseIf (before != .hot && s.thermal.band == .hot) (.thermHot s.thermal.est s.thermal.hotCause) s) := by
  unfold bandEntered
  cases before <;> cases hb : s.thermal.band <;> simp [raiseIf]

/-- R101, R103: the band decided with its cap, before what its entry brings. -/
def banded (coolDone : Bool) (s : State) : State :=
  s.onThermal fun t => { t with band := t.nextBand coolDone, namedCap := (t.nextBand coolDone).cap t.profile }

theorem bandStage_eq (coolDone : Bool) (s : State) : bandStage coolDone s =
    bandEntered s.thermal.band (banded coolDone s) := rfl

theorem bandStage_thermal (coolDone : Bool) (s : State) : (bandStage coolDone s).thermal =
    { (banded coolDone s).thermal with duty := (bandStage coolDone s).thermal.duty } := by
  rw [bandStage_eq, bandEntered_eq]
  split
  · exact lampTrip_thermal _
  · simp only [raiseIf_frame]

theorem bandStage_lamp (coolDone : Bool) (s : State) : (bandStage coolDone s).lamp =
    if s.thermal.band ≠ .trip ∧ s.thermal.nextBand coolDone = .trip then
      s.lamp.tripped (s.thermal.profile.coolTime * 1000)
    else s.lamp := by
  rw [bandStage_eq, bandEntered_eq]
  simp only [show (banded coolDone s).thermal.band = s.thermal.nextBand coolDone from rfl]
  split
  · exact lampTrip_lamp _
  · simp only [raiseIf_frame]
    rfl

/-! ### The tach and the fan duty (R105, R107) -/

theorem tachStage_eq (duty : Nat) (s : State) : tachStage duty s =
    raiseIf (!s.thermal.fan.isFault && (s.thermal.fan.move (s.thermal.driven duty) s.thermal.tachSlow).isFault)
      (.fanFault s.thermal.speed)
      (s.onThermal fun t => { t with fan := t.fan.move (t.driven duty) t.tachSlow }) := rfl

theorem tachStage_thermal (duty : Nat) (s : State) : (tachStage duty s).thermal =
    { s.thermal with fan := s.thermal.fan.move (s.thermal.driven duty) s.thermal.tachSlow } := by
  rw [tachStage_eq, raiseIf_thermal]
  rfl

/-- R101 to R107: the state after stage 6, with the fan duty set. -/
def decided (r : Sample) (h : Handover) (s : State) : State :=
  dutyStage s.thermal.duty (tachStage s.thermal.duty (bandStage h.coolDone (estimated r h s)))

section

variable (r : Sample) (h : Handover) (s : State)

theorem decided_thermal : (decided r h s).thermal =
    { (estimated r h s).thermal with
      band := (estimated r h s).thermal.nextBand h.coolDone
      namedCap := ((estimated r h s).thermal.nextBand h.coolDone).cap (estimated r h s).thermal.profile
      fan := (estimated r h s).thermal.fan.move ((estimated r h s).thermal.driven s.thermal.duty)
        (estimated r h s).thermal.tachSlow
      duty := (decided r h s).thermal.duty } := by
  have tached := tachStage_thermal s.thermal.duty (bandStage h.coolDone (estimated r h s))
  rw [bandStage_thermal] at tached
  simp only [decided, dutyStage, State.onThermal_thermal, tached]
  rfl

theorem decided_duty : (decided r h s).thermal.duty =
    (decided r h s).thermal.newDuty (decided r h s).lamp.state s.thermal.duty := rfl

theorem decided_lamp : (decided r h s).lamp =
    if s.thermal.band ≠ .trip ∧ (decided r h s).thermal.band = .trip then
      (estimated r h s).lamp.tripped ((estimated r h s).thermal.profile.coolTime * 1000)
    else (estimated r h s).lamp := by
  have before : (estimated r h s).thermal.band = s.thermal.band := by
    rw [estimated_thermal]
    rfl
  have after : (decided r h s).thermal.band = (estimated r h s).thermal.nextBand h.coolDone := by
    rw [decided_thermal]
  rw [after, ← before, ← bandStage_lamp]
  simp [decided]

end

/-! ### The end of the period (R79, R103, R108) -/

/-- R79, R103: the report carried to the Lamp Controller, before it may end a cool-down. -/
def reported (s : State) : State :=
  s.onLamp fun l =>
    { l with bandView := s.thermal.band, coolFlag := s.thermal.coolFlag
             appliedCap := nextAppliedCap l.appliedCap s.thermal.namedCap }

section

variable (r : Sample) (h : Handover) (s : State)

theorem periodComputation_eq : periodComputation r h s =
    (endCoolDownIfDone (reported (decided r h s))).onThermal
      (Thermal.snap r (corrected s.thermal.cal r) (tempCode s.thermal.cal (corrected s.thermal.cal r))
        (decided r h s).thermal.duty) := rfl

theorem period_lamp : (periodComputation r h s).lamp =
    { (decided r h s).lamp with
      state := (periodComputation r h s).lamp.state
      bandView := (decided r h s).thermal.band, coolFlag := (decided r h s).thermal.coolFlag
      appliedCap := nextAppliedCap (decided r h s).lamp.appliedCap (decided r h s).thermal.namedCap } := by
  rw [periodComputation_eq, endCoolDownIfDone_eq]
  rfl

theorem period_thermal : (periodComputation r h s).thermal =
    { (decided r h s).thermal with
      duty := (periodComputation r h s).thermal.duty
      count := satAdd Config.periodCountMax (decided r h s).thermal.count 1
      snapshot := (periodComputation r h s).thermal.snapshot } := by
  rw [periodComputation_eq, endCoolDownIfDone_eq]
  rfl

/-- R74, R106: the report leaves the lamp state and the duty, or ends a cool-down that is out. -/
theorem period_end_cases :
    ((periodComputation r h s).lamp.state = (decided r h s).lamp.state ∧
      (periodComputation r h s).thermal.duty = (decided r h s).thermal.duty) ∨
    ((decided r h s).lamp.state = .cooldown ∧ (decided r h s).lamp.coolDown = 0 ∧
      (periodComputation r h s).lamp.state = (decided r h s).lamp.dest.state ∧
      (periodComputation r h s).thermal.duty =
        ((decided r h s).thermal.fanOnLamp .cooldown (decided r h s).lamp.dest.state).duty) := by
  rw [periodComputation_eq]
  rcases endCoolDownIfDone_cases (reported (decided r h s)) with e | ⟨cool, out, e⟩ <;> rw [e]
  · exact .inl ⟨rfl, rfl⟩
  · refine .inr ⟨cool, out, rfl, ?_⟩
    exact congrArg (fun old => ((decided r h s).thermal.fanOnLamp old (decided r h s).lamp.dest.state).duty) cool

end

end Sys2Proof.Machine
end

section
/-! SUPPORT. What a step can do to the lamp and the Thermal Unit (O58): the orders to the light chain, the moves of the
lamp's state with what each takes for granted, and the writes of the Thermal Unit; every step is a chain of these. -/

namespace Sys2Proof.Machine

/-- R76, R77, R80 to R82: an order to the light chain, which leaves the lamp's state and timers. -/
inductive LightOrder : (Lamp → Lamp) → Prop
  | fadeOut (n : Nat) : LightOrder (Lamp.fadeOut n)
  | fadeIn (n : Nat) : LightOrder (Lamp.fadeIn n)
  | dark : LightOrder Lamp.dark
  | clearHold : LightOrder Lamp.clearHold
  | trayRemoved : LightOrder Lamp.trayRemoved
  | clearExposure : LightOrder Lamp.clearExposure
  | override (v : Option Nat) : LightOrder fun l => { l with override := v }
  | stepFade : LightOrder Lamp.stepFade
  | account (p cls : Nat) : LightOrder (Lamp.account p cls)
  | govern (cls : Nat) : LightOrder fun l => { l with govClass := cls }

/-- R71: the lamp at a strike attempt, with its pulse and its window. -/
def Lamp.attempted (l : Lamp) : Lamp :=
  { l with
    attempts := l.attempts + 1
    window := some 2000
    nextStrike := if l.attempts + 1 < 3 then some 5000 else none }

theorem strikeAttempt_eq (s : State) : strikeAttempt s =
    if s.lamp.flowing then confirmStrike (s.onLamp Lamp.attempted) else s.onLamp Lamp.attempted := rfl

/-- The lamp and the Thermal Unit of the second state follow from those of the first. -/
inductive LampMoves : State → State → Prop
  | elsewhere {s t : State} (lamp : t.lamp = s.lamp) (thermal : t.thermal = s.thermal) : LampMoves s t
  | trans {s t u : State} (first : LampMoves s t) (second : LampMoves t u) : LampMoves s u
  | order {s : State} {f : Lamp → Lamp} (hf : LightOrder f) : LampMoves s (s.onLamp f)
  | deliver {s : State} {light : Nat} (chain : light ≤ s.lamp.fade) : LampMoves s (s.onLamp (Lamp.deliver light))
  | limit {s : State} {c e : Nat} (range : e ≤ Config.exposureMax) : LampMoves s (s.onLamp (Lamp.setLimit c e))
  | sense {s : State} (flowing : Bool) : LampMoves s (s.onLamp fun l => { l with flowing := flowing })
  | strike {s : State} (off : s.lamp.state = .off) (view : s.lamp.bandView ≠ .trip) :
      LampMoves s (enterLamp .striking (s.onLamp fun l => { l with attempts := 0 }))
  | attempt {s : State} (striking : s.lamp.state = .striking) (few : s.lamp.attempts < 3) :
      LampMoves s (s.onLamp Lamp.attempted)
  | confirm {s : State} (striking : s.lamp.state = .striking) : LampMoves s (confirmStrike s)
  | windowEnd {s : State} : LampMoves s (s.onLamp fun l => { l with window := none })
  | strikeFailed {s : State} (striking : s.lamp.state = .striking) :
      LampMoves s (enterLamp .failed (s.onLamp fun l => { l with window := none, nextStrike := none }))
  | lossTimer {s : State} (lit : s.lamp.lit = true) (g : Option Nat → Option Nat) :
      LampMoves s (s.onLamp fun l => { l with lossTimer := g l.lossTimer })
  | warm {s : State} (warming : s.lamp.state = .warming) :
      LampMoves s (enterLamp .run (s.onLamp fun l => { l with warmUp := 0 }))
  | cool {s : State} (dest : CoolDest) (ms : Nat) : LampMoves s (startCoolDown dest ms s)
  | acknowledge {s : State} : LampMoves s (s.onLamp fun l => { l with attempts := 0 })
  | dest {s : State} (dest : CoolDest) : LampMoves s (s.onLamp fun l => { l with dest := dest })
  | coolOut {s : State} : LampMoves s (s.onLamp fun l => { l with coolDown := 0 })
  | coolEnd {s : State} : LampMoves s (endCoolDownIfDone s)
  | thermal {s t : State} (lamp : t.lamp = s.lamp) (est : t.thermal.est = s.thermal.est)
      (band : t.thermal.band = s.thermal.band) (active : t.thermal.active = s.thermal.active)
      (duty : t.thermal.duty = s.thermal.duty) (profiles : t.thermal.profiles = s.thermal.profiles) : LampMoves s t
  | profile {s : State} {i : Fin 8} {p : Profile} (passive : i ≠ s.thermal.active) (range : p.floor ≤ 1000) :
      LampMoves s (s.onThermal fun t => { t with profiles := t.profiles.set i.val p i.isLt })
  | period {s : State} (r : Sample) (h : Handover) : LampMoves s (periodComputation r h s)
  | powerOn {s : State} : LampMoves s (powerOn s)
  | passMs {s : State} : LampMoves s (passMs s)

namespace LampMoves

section

variable {s₀ s t : State} (m : LampMoves s₀ s)
include m

/-- A change of the other blocks alone. -/
theorem same (lamp : t.lamp = s.lamp := by simp) (thermal : t.thermal = s.thermal := by simp) : LampMoves s₀ t :=
  m.trans (elsewhere lamp thermal)

/-- An order to the light chain, with any change of the other blocks. -/
theorem ordered {f : Lamp → Lamp} (hf : LightOrder f) (lamp : t.lamp = f s.lamp)
    (thermal : t.thermal = s.thermal := by simp) : LampMoves s₀ t :=
  (m.trans (.order hf)).same lamp thermal

/-! ### The jam and the phases -/

theorem jam (reason : JamReason) : LampMoves s₀ (jam reason s) := m.ordered .clearHold (jam_lamp reason s)

theorem enterRotating : LampMoves s₀ (enterRotating s) := by
  have rotating : LampMoves s₀ (s.onChanger fun c => { c with state := .rotating }) := m.same
  simp only [Machine.enterRotating]
  split
  · exact rotating
  · split
    · exact rotating.same
    · split
      · exact LampMoves.jam rotating.same .lifter
      · exact rotating.same

theorem stall : LampMoves s₀ (stall s) := by
  unfold Machine.stall
  split
  · exact m.same
  · exact LampMoves.jam m.same .stall

theorem windowMiss : LampMoves s₀ (windowMiss s) := by
  unfold Machine.windowMiss
  split
  · exact m.same
  · exact m.stall

theorem windowBrakeEnd : LampMoves s₀ (windowBrakeEnd s) := by
  unfold Machine.windowBrakeEnd
  split
  case h_1 | h_2 =>
    split
    · exact m.same
    · exact m.windowMiss
  all_goals exact m

theorem brakeEnd : LampMoves s₀ (brakeEnd s) := by
  have released : LampMoves s₀ (s.onDrive Drive.release) := m.same
  simp only [Machine.brakeEnd]
  split
  · exact released
  · split
    · exact released.jam .lifter
    · split
      case h_2 => exact released.windowBrakeEnd
      all_goals exact released.same

theorem enterLifting : LampMoves s₀ (enterLifting s) := by
  have lifting : LampMoves s₀ (s.onChanger fun c => { c with state := .lifting }) := m.same
  simp only [Machine.enterLifting]
  split
  · exact lifting.enterRotating
  · exact lifting.same

theorem enterFadingOut : LampMoves s₀ (enterFadingOut s) := by
  simp only [Machine.enterFadingOut]
  split
  · exact (m.trans (.order .dark)).enterLifting
  · have fading (n : Nat) : LampMoves s₀ (s.onLamp (Lamp.fadeOut n)) := m.trans (.order (.fadeOut n))
    cases s.changer.currentSlot with
    | none => exact (fading 0).enterLifting
    | some r =>
      simp only
      split
      · exact (fading r.fadeOut).enterLifting
      · exact (fading r.fadeOut).same

/-! ### The queue and homing -/

theorem takeFrom {q : List Entry} : LampMoves s₀ (takeFrom q s) := by
  induction q generalizing s with
  | nil => exact m
  | cons e rest ih =>
    simp only [Machine.takeFrom]
    split
    · exact ih m.same
    · exact LampMoves.enterFadingOut m.same

theorem pump : LampMoves s₀ (pump s) := by
  unfold Machine.pump
  split
  · exact m.takeFrom
  · exact m

theorem enterShowing : LampMoves s₀ (enterShowing s) := LampMoves.pump m.same

theorem showDark : LampMoves s₀ (showDark s) := LampMoves.pump (m.ordered .clearHold (by simp))

theorem gateEmpty (slot : Nat) (ch : Change) : LampMoves s₀ (gateEmpty slot ch s) := by
  simp only [Machine.gateEmpty]
  split
  · exact LampMoves.enterLifting m.same
  · exact LampMoves.showDark m.same

theorem slideFound (slot : Nat) (isStep : Bool) : LampMoves s₀ (slideFound slot isStep s) := by
  have cleared : LampMoves s₀ (found slot s) := m.ordered .clearExposure (by simp [found]) (by simp [found])
  have arrived (r : SlotRecord) : LampMoves s₀ (arrive slot r isStep (found slot s)) :=
    cleared.ordered (.override none) (by simp [arrive, setOverride])
  have fading (r : SlotRecord) := (arrived r).trans (.order (.fadeIn r.fadeIn))
  simp only [slideFound_eq]
  split
  · exact LampMoves.enterShowing (fading ((found slot s).changer.slot slot)).same
  · exact (fading ((found slot s).changer.slot slot)).same

theorem settleEnd : LampMoves s₀ (settleEnd s) := by
  simp only [Machine.settleEnd]
  split
  · exact m
  · split
    · exact m.slideFound _ _
    · exact m.gateEmpty _ _

theorem startHoming (src : Source) : LampMoves s₀ (startHoming src s) := by
  refine m.ordered .dark ?_
  simp only [Machine.startHoming]
  split <;> simp

theorem offerHome : LampMoves s₀ (offerHome s).1 := by
  unfold Machine.offerHome
  split
  case h_2 | h_3 => exact m.startHoming _
  case h_5 => exact LampMoves.startHoming m.same _
  all_goals exact m

theorem refuseUnhomed (src : Source) : LampMoves s₀ (refuseUnhomed src s).1 := by
  simp only [Machine.refuseUnhomed, turnedAway_state]
  split
  · exact m.startHoming _
  · exact m

theorem enqueue (q : List Entry) : LampMoves s₀ (enqueue q s) := LampMoves.pump m.same

theorem offerStep (src : Source) (k : Int) : LampMoves s₀ (offerStep src k s).1 := by
  unfold Machine.offerStep
  split
  · exact m
  · split
    · exact m
    · split
      · exact m.refuseUnhomed _
      · split
        · exact m
        · exact m.enqueue _

theorem queueGoto (e : Entry) : LampMoves s₀ (queueGoto e s) := by
  unfold Machine.queueGoto
  split
  · exact m.enqueue _
  · split
    · exact m.enqueue _
    · exact LampMoves.enqueue m.same _

theorem offerGoto (src : Source) (lb : Bool) (n : Nat) : LampMoves s₀ (offerGoto src lb n s).1 := by
  unfold Machine.offerGoto
  split
  · exact m
  · split
    · exact m
    · split
      · exact m
      · split
        · exact m.refuseUnhomed _
        · exact m.queueGoto _

theorem autoStep : LampMoves s₀ (autoStep s) := by
  unfold Machine.autoStep
  split
  · exact m.same
  · exact m.offerStep _ _

theorem expireDwell : LampMoves s₀ (expireDwell s) := by
  simp only [Machine.expireDwell]
  split
  · unfold loopBack
    split
    · exact LampMoves.autoStep m.same
    · exact LampMoves.offerGoto m.same _ _ _
  · exact LampMoves.autoStep m.same

theorem upReached : LampMoves s₀ (upReached s) := by
  simp only [Machine.upReached]
  split
  · exact m.same
  · split
    · exact LampMoves.enterRotating m.same
    · exact m.same

/-! ### The lamp -/

theorem strikeAttempt (striking : s.lamp.state = .striking) (few : s.lamp.attempts < 3) :
    LampMoves s₀ (strikeAttempt s) := by
  have attempted := m.trans (.attempt striking few)
  rw [strikeAttempt_eq]
  split
  · exact attempted.trans (.confirm striking)
  · exact attempted

theorem offerLampOn : LampMoves s₀ (offerLampOn s).1 := by
  unfold Machine.offerLampOn
  split
  case h_1 off =>
    split
    · rename_i ready
      exact (m.trans (.strike off ready.2)).strikeAttempt rfl (show 0 < 3 by decide)
    · exact m
  all_goals exact m

theorem lampOff : LampMoves s₀ (lampOff s) := by
  unfold Machine.lampOff
  split
  · exact m.trans (.cool _ _)
  · exact m

theorem setOverride (v : Option Nat) : LampMoves s₀ (setOverride v s) := m.trans (.order (.override v))

theorem offerLampReset : LampMoves s₀ (offerLampReset s).1 := by
  unfold Machine.offerLampReset
  split
  case h_1 => exact (m.trans .acknowledge).trans (.cool _ _)
  case h_2 =>
    split
    · exact m.trans (.dest _)
    · exact m
  all_goals exact m

theorem offerProfile (p : Nat) : LampMoves s₀ (offerProfile p s).1 := by
  unfold Machine.offerProfile
  split
  · exact m
  · split
    · exact m
    · exact m.trans (.thermal rfl rfl rfl rfl rfl rfl)

theorem lampResetRequest : LampMoves s₀ (lampResetRequest s) :=
  ((m.lampOff.trans (.order .trayRemoved)).trans (.order .clearExposure)).trans (.order (.govern 0))

end

theorem readsOnly (s₀ : State) : ReadsOnly (LampMoves s₀) [.lamp, .thermal] := fun _ _ hb m =>
  m.same (hb .lamp (by simp)) (hb .thermal (by simp))

theorem keptByOffers (s₀ : State) : KeptByOffers (LampMoves s₀) where
  raise _ _ m := m.same
  remote _ _ m := m.same
  bus _ _ m := m.same
  cue _ _ _ m := m.same
  hit _ _ _ m := m.same
  legacy _ m := m.offerStep _ _
  key src key args s m := by
    unfold offerKey
    split
    case h_1 | h_2 => exact m.offerStep _ _
    case h_3 => exact m.offerGoto _ _ _
    case h_5 | h_6 => exact m.setOverride _
    case h_15 => exact m.offerLampOn
    case h_16 => exact m.lampOff
    all_goals exact m.same
  action n a s _ m := by
    cases a with
    | step k => exact m.offerStep _ _
    | goto n => exact m.offerGoto _ _ _
    | light v => exact m.setOverride _
    | profile p => exact m.offerProfile p
    | _ => exact m.same (by simp [offerAction]) (by simp [offerAction])

end LampMoves

/-! ### Commands -/

section

variable {s t : State}

theorem LampMoves.refl (s : State) : LampMoves s s := .elsewhere rfl rfl

/-- A host request moves the lamp and the Thermal Unit as its owner does. -/
theorem hostRequest_moves {c : Instr} {owner : State → Reply} (h : hostRequest c owner s = .next t)
    (ho : LampMoves s (owner s).state) : LampMoves s t :=
  (LampMoves.readsOnly s).hostRequest_keeps h (.refl s) ho

theorem execStep_moves {k : Int} (h : execStep k s = .next t) : LampMoves s t :=
  hostRequest_moves h ((LampMoves.refl s).offerStep .host k)

theorem execGoto_moves {n : Nat} (h : execGoto n s = .next t) : LampMoves s t :=
  hostRequest_moves h ((LampMoves.refl s).offerGoto .host false n)

theorem execHome_moves (h : execHome s = .next t) : LampMoves s t :=
  hostRequest_moves h ((LampMoves.refl s).offerHome)

theorem execLampOn_moves (h : execLampOn s = .next t) : LampMoves s t :=
  hostRequest_moves h ((LampMoves.refl s).offerLampOn)

theorem execLampOff_moves (h : execLampOff s = .next t) : LampMoves s t :=
  hostRequest_moves h ((LampMoves.refl s).lampOff)

theorem execLampReset_moves (h : execLampReset s = .next t) : LampMoves s t :=
  hostRequest_moves h ((LampMoves.refl s).offerLampReset)

theorem execSelectProfile_moves {p : Nat} (h : execSelectProfile p s = .next t) : LampMoves s t :=
  hostRequest_moves h ((LampMoves.refl s).offerProfile p)

theorem execSetLight_moves {v : Option Nat} (h : execSetLight v s = .next t) : LampMoves s t := by
  refine hostRequest_moves h ?_
  split
  · exact (LampMoves.refl s).setOverride v
  · exact .refl s

theorem execWriteExposure_moves {c e : Nat} (h : execWriteExposure c e s = .next t) : LampMoves s t := by
  refine hostRequest_moves h ?_
  split
  · exact .refl s
  · split
    · exact .refl s
    · exact .limit (by omega)

theorem execWriteCalibration_moves {o : Int} {g : Nat} {z : Int} (h : execWriteCalibration o g z s = .next t) :
    LampMoves s t := by
  refine hostRequest_moves h ?_
  split
  · exact .thermal rfl rfl rfl rfl rfl rfl
  · exact .refl s

theorem profileValuesInRange_floor {v : ProfileValues} (h : profileValuesInRange v = true) : v.floor ≤ 1000 := by
  simp only [profileValuesInRange, Bool.and_eq_true, decide_eq_true_eq] at h
  tauto

theorem execWriteProfile_moves {p : Nat} {v : ProfileValues} (h : execWriteProfile p v s = .next t) : LampMoves s t := by
  refine hostRequest_moves h ?_
  split
  · exact .refl s
  · split
    · exact .refl s
    · rename_i free
      split
      · rename_i range
        exact .profile (fun e => free (.inl e)) (profileValuesInRange_floor range)
      · exact .refl s

theorem execReset_moves (h : execReset s = .next t) : LampMoves s t := by
  refine hostRequest_moves h ?_
  have reset : LampMoves s ((lampResetRequest s).onThermal Thermal.resetRequest) :=
    (LampMoves.refl s).lampResetRequest.trans (.thermal rfl rfl rfl rfl rfl rfl)
  obtain ⟨lamp, thermal⟩ := resetRequest_lamp_thermal s
  exact reset.same lamp thermal

theorem lightChain_le_fade (s : State) : lightChain s ≤ s.lamp.fade := by
  simp only [lightChain]
  (repeat' split) <;> omega

theorem execFadeTick_moves (h : execFadeTick s = .next t) : LampMoves s t := by
  cases h
  exact (LampMoves.order .stepFade).trans (.deliver (lightChain_le_fade _))

theorem execTrayRemoval_moves (h : execTrayRemoval s = .next t) : LampMoves s t := by
  by_cases absent : s.changer.tray = none
  · simp only [execTrayRemoval, if_pos absent] at h
    cases h
    exact .refl s
  · rw [execTrayRemoval_eq absent] at h
    cases h
    exact (LampMoves.refl s).ordered .trayRemoved (trayGone_lamp s) (by simp [trayGone])

theorem execGateStateChange_moves {occupied : Bool} (h : execGateStateChange occupied s = .next t) :
    LampMoves s t := by
  simp only [execGateStateChange] at h
  split at h
  · cases h
    exact .refl s
  · split at h
    · cases h
      cases occupied
      · exact .elsewhere (by simp [gateInShowing]) (by simp)
      · exact (LampMoves.refl s).ordered .clearExposure (by simp [gateInShowing])
    · cases h
      exact .elsewhere rfl rfl

theorem execLifterSwitchChange_moves {up down : Bool} (h : execLifterSwitchChange up down s = .next t) :
    LampMoves s t := by
  have switched : LampMoves s (s.onDrive fun d => { d with swUp := up, swDown := down }) := .elsewhere rfl rfl
  simp only [execLifterSwitchChange] at h
  (repeat' split at h) <;> cases h
  · exact switched.jam _
  · exact switched.upReached
  · exact switched.same
  · exact switched

theorem execLiftDone_moves (h : execLiftDone s = .next t) : LampMoves s t := by
  cases h
  split
  · exact (LampMoves.refl s).upReached
  · exact .refl s

theorem execStrikeAttemptTimer_moves (h : execStrikeAttemptTimer s = .next t) : LampMoves s t :=
  keeps_of_guarded (P := LampMoves s) h (.refl s) fun ⟨striking, _, _, few⟩ =>
    (LampMoves.refl s).strikeAttempt striking few

theorem execStrikeWindowEnd_moves (h : execStrikeWindowEnd s = .next t) : LampMoves s t := by
  unfold execStrikeWindowEnd at h
  split at h
  · rename_i opened
    simp only at h
    split at h <;> cases h
    · exact .windowEnd
    · exact (LampMoves.strikeFailed opened.1).same rfl rfl
  · cases h
    exact .refl s

/-- R72: current in an open window confirms the strike. -/
theorem execCurrentSenseChange_confirms (striking : s.lamp.state = .striking) (opened : s.lamp.window ≠ none) :
    execCurrentSenseChange true s = .next (confirmStrike (s.onLamp fun l => { l with flowing := true })) := by
  simp [execCurrentSenseChange, striking, Option.isSome_iff_ne_none.mpr opened]

/-- R73: in WARMING and RUN the current-loss timer follows the sense. -/
theorem execCurrentSenseChange_lit (flowing : Bool) (lit : s.lamp.lit = true) : execCurrentSenseChange flowing s =
    .next (s.onLamp fun l =>
      { l with flowing := flowing, lossTimer := if flowing then none else some (l.lossTimer.getD 0) }) := by
  have state : s.lamp.state = .warming ∨ s.lamp.state = .run := by simpa [Lamp.lit] using lit
  rcases state with e | e <;> simp [execCurrentSenseChange, e, State.onLamp]

/-- R71, R73: at all other times the sense is noted alone. -/
theorem execCurrentSenseChange_noted {flowing : Bool}
    (h : s.lamp.active = false ∨ s.lamp.state = .striking ∧ (flowing = false ∨ s.lamp.window = none)) :
    execCurrentSenseChange flowing s = .next (s.onLamp fun l => { l with flowing := flowing }) := by
  cases e : s.lamp.state with
  | off | cooldown | failed => simp [execCurrentSenseChange, e]
  | warming | run => simp [Lamp.active, Lamp.lit, e] at h
  | striking =>
    have unconfirmed : ¬(flowing = true ∧ s.lamp.window.isSome = true) := by
      rintro ⟨rfl, opened⟩
      simp [Lamp.active, e] at h
      simp [h] at opened
    simp [execCurrentSenseChange, e, unconfirmed]

theorem execCurrentSenseChange_moves {flowing : Bool} (h : execCurrentSenseChange flowing s = .next t) :
    LampMoves s t := by
  have sensed (b : Bool) : LampMoves s (s.onLamp fun l => { l with flowing := b }) := .sense b
  by_cases lit : s.lamp.lit = true
  · rw [execCurrentSenseChange_lit flowing lit] at h
    cases h
    refine (sensed flowing).trans (.lossTimer ?_ fun ms => if flowing then none else some (ms.getD 0))
    exact lit
  · by_cases confirmed : flowing = true ∧ s.lamp.state = .striking ∧ s.lamp.window ≠ none
    · obtain ⟨rfl, striking, opened⟩ := confirmed
      rw [execCurrentSenseChange_confirms striking opened] at h
      cases h
      exact (sensed true).trans (.confirm striking)
    · have noted : s.lamp.active = false ∨ s.lamp.state = .striking ∧ (flowing = false ∨ s.lamp.window = none) := by
        by_cases striking : s.lamp.state = .striking
        · exact .inr ⟨striking, by simpa [striking, or_iff_not_imp_left] using confirmed⟩
        · exact .inl (by simp [Lamp.active, lit, striking])
      rw [execCurrentSenseChange_noted noted] at h
      cases h
      exact sensed flowing

theorem execCooldownTimerExpiry_moves (h : execCooldownTimerExpiry s = .next t) : LampMoves s t :=
  keeps_of_guarded (P := LampMoves s) h (.refl s) fun _ => LampMoves.coolOut.trans .coolEnd

/-- R81, R82: the period's average handed over and counted into the account. -/
def counted (s : State) : State :=
  (s.onThermal fun t =>
    { t with handover := some { p := s.lamp.lightSum / 25, coolDone := s.lamp.coolDone } }).onLamp
      (Lamp.account (s.lamp.lightSum / 25) (governingClass s))

/-- R74, R81, R82: a cool-down that is out ends, the average is counted, and the guard's entry raises its notice. -/
theorem execLampPeriodEnd_eq (s : State) : execLampPeriodEnd s =
    let u := endCoolDownIfDone s
    .next (raiseIf (!u.lamp.guard && (counted u).lamp.guard)
      (.exposureGuard u.changer.current (counted u).lamp.govClass) (counted u)) := rfl

theorem execLampPeriodEnd_moves (h : execLampPeriodEnd s = .next t) : LampMoves s t := by
  have handed (v : Option Handover) :
      LampMoves s ((endCoolDownIfDone s).onThermal fun t => { t with handover := v }) :=
    LampMoves.coolEnd.trans (.thermal rfl rfl rfl rfl rfl rfl)
  have handed : LampMoves s (counted (endCoolDownIfDone s)) := (handed _).trans (.order (.account _ _))
  rw [execLampPeriodEnd_eq] at h
  cases h
  exact handed.same

theorem execPeriodComputation_moves (h : execPeriodComputation s = .next t) : LampMoves s t := by
  unfold execPeriodComputation at h
  split at h <;> cases h
  · exact .period _ _
  · exact .refl s

theorem exec_moves {c : Instr} (h : exec c s = .next t) : LampMoves s t := by
  have offers := LampMoves.keptByOffers s
  have still := LampMoves.refl s
  cases c with
  | step k => exact execStep_moves h
  | goto n => exact execGoto_moves h
  | home => exact execHome_moves h
  | lampOn => exact execLampOn_moves h
  | lampOff => exact execLampOff_moves h
  | lampReset => exact execLampReset_moves h
  | setLight v => exact execSetLight_moves h
  | writeExposure c e => exact execWriteExposure_moves h
  | writeCalibration o g z => exact execWriteCalibration_moves h
  | writeProfile p v => exact execWriteProfile_moves h
  | selectProfile p => exact execSelectProfile_moves h
  | reset => exact execReset_moves h
  | powerOnReset =>
    cases h
    exact .powerOn
  | trayRemoval => exact execTrayRemoval_moves h
  | gateStateChange occupied => exact execGateStateChange_moves h
  | noIndexBudgetExhausted => exact keeps_of_guarded (P := LampMoves s) h still fun _ => still.jam _
  | stallWatchdogExpiry => exact keeps_of_guarded (P := LampMoves s) h still fun _ => still.stall
  | brakeEnd => exact keeps_of_guarded (P := LampMoves s) h still fun _ => still.brakeEnd
  | liftDone => exact execLiftDone_moves h
  | lifterTimeout => exact keeps_of_guarded (P := LampMoves s) h still fun _ => LampMoves.jam still.same _
  | lifterSwitchChange up down => exact execLifterSwitchChange_moves h
  | settleEnd => exact keeps_of_guarded (P := LampMoves s) h still fun _ => LampMoves.settleEnd still.same
  | fadeTick => exact execFadeTick_moves h
  | fadeOutEnd => exact keeps_of_guarded (P := LampMoves s) h still fun _ => still.enterLifting
  | fadeInEnd => exact keeps_of_guarded (P := LampMoves s) h still fun _ => still.enterShowing
  | dwellExpiry => exact keeps_of_guarded (P := LampMoves s) h still fun _ => still.expireDwell
  | strikeAttemptTimer => exact execStrikeAttemptTimer_moves h
  | strikeWindowEnd => exact execStrikeWindowEnd_moves h
  | currentSenseChange flowing => exact execCurrentSenseChange_moves h
  | warmUpEnd => exact keeps_of_guarded (P := LampMoves s) h still fun warming => .warm warming
  | currentLoss => exact keeps_of_guarded (P := LampMoves s) h still fun _ => (LampMoves.cool .failed (coolTimeMs s)).same
  | cooldownTimerExpiry => exact execCooldownTimerExpiry_moves h
  | lampPeriodEnd => exact execLampPeriodEnd_moves h
  | thermistorSample r | tachPulse us =>
    cases h
    exact .thermal rfl rfl rfl rfl rfl rfl
  | periodComputation => exact execPeriodComputation_moves h
  | cueWordComplete stop => exact offers.cueWordComplete h still
  | pulseCue => exact offers.pulseCue h still
  | irFrame b => exact offers.irFrame h still
  | irByteComplete b => exact offers.irByteComplete h still
  | busDestinationDecided p b => exact offers.busDestinationDecided h still
  | busFrameEnd p b => exact offers.busFrameEnd h still
  | busByteReceived p b => exact offers.busByteReceived h still
  | _ => exact (LampMoves.readsOnly s).exec_keeps h (by simp [touches]) still

theorem step_moves (h : step s = .next t) : LampMoves s t := by
  rcases step_cases h with rfl | ⟨c, rest, -, he⟩
  · exact .passMs
  · exact LampMoves.trans (t := { s with pending := rest }) (.elsewhere rfl rfl) (exec_moves he)

end

end Sys2Proof.Machine
end

section
/-! PROOFS. The laws of the lamp, the light and the Thermal Unit, each kept by every move, and O58. -/

namespace Sys2Proof.Machine

/-! ### What an order to the light chain and a period leave -/

/-- R67, R70: what the laws of the lamp's state and timers read. -/
def Lamp.electrics (l : Lamp) :
    LampState × Nat × Nat × Option Nat × Option Nat × Option Nat × Nat × Band :=
  (l.state, l.coolDown, l.warmUp, l.window, l.nextStrike, l.lossTimer, l.attempts, l.bandView)

theorem Lamp.stepFade_electrics (l : Lamp) : l.stepFade.electrics = l.electrics := by
  unfold Lamp.stepFade
  split
  · rfl
  · simp only
    split <;> rfl

theorem LightOrder.electrics {f : Lamp → Lamp} (hf : LightOrder f) (l : Lamp) : (f l).electrics = l.electrics := by
  cases hf with
  | fadeOut n =>
    unfold Lamp.fadeOut
    split <;> rfl
  | fadeIn n =>
    unfold Lamp.fadeIn
    split <;> rfl
  | stepFade => exact l.stepFade_electrics
  | _ => rfl

theorem Lamp.deliver_electrics (light : Nat) (l : Lamp) : (l.deliver light).electrics = l.electrics := by
  unfold Lamp.deliver
  split <;> rfl

theorem Lamp.setLimit_electrics (c e : Nat) (l : Lamp) : (l.setLimit c e).electrics = l.electrics := by
  unfold Lamp.setLimit
  split <;> rfl

/-- R76, R81: what the laws of the light and the exposure read. -/
def Lamp.optics (l : Lamp) : Nat × Option Ramp × Nat × Nat × Vector Nat 3 :=
  (l.fade, l.ramp, l.delivered, l.exposure, l.limits)

theorem Lamp.checked_optics (theta : Int) (ms : Nat) (l : Lamp) : (l.checked theta ms).optics = l.optics := by
  unfold Lamp.checked
  (repeat' split) <;> rfl

theorem Lamp.tripped_optics (ms : Nat) (l : Lamp) : (l.tripped ms).optics = l.optics := by
  unfold Lamp.tripped
  split <;> rfl

/-- A period computation leaves the light and the exposure. -/
theorem period_optics (r : Sample) (h : Handover) (s : State) :
    (periodComputation r h s).lamp.optics = s.lamp.optics := by
  have decided_optics : (decided r h s).lamp.optics = s.lamp.optics := by
    rw [decided_lamp]
    split
    · rw [Lamp.tripped_optics, estimated_lamp, Lamp.checked_optics]
    · rw [estimated_lamp, Lamp.checked_optics]
  rw [period_lamp]
  exact decided_optics

/-! ### The timers (R67, R71) -/

/-- R67, R71: the lamp's timers run in their own states alone. -/
structure Lamp.TimersFit (l : Lamp) : Prop where
  coolDown : l.state ≠ .cooldown → l.coolDown = 0
  warmUp : l.state ≠ .warming → l.warmUp = 0
  strike : l.state ≠ .striking → l.window = none ∧ l.nextStrike = none
  loss : l.lit = false → l.lossTimer = none
  attempts : l.attempts ≤ 3

theorem lampTimerLaw_iff (s : State) : LampTimerLaw s ↔ s.lamp.TimersFit :=
  ⟨fun ⟨coolDown, warmUp, strike, loss, attempts⟩ => ⟨coolDown, warmUp, strike, loss, attempts⟩,
    fun ⟨coolDown, warmUp, strike, loss, attempts⟩ => ⟨coolDown, warmUp, strike, loss, attempts⟩⟩

namespace Lamp.TimersFit

variable {l k : Lamp}

theorem of_electrics (h : l.TimersFit) (hv : k.electrics = l.electrics) : k.TimersFit := by
  simp only [Lamp.electrics, Prod.mk.injEq] at hv
  obtain ⟨state, coolDown, warmUp, window, nextStrike, lossTimer, attempts, -⟩ := hv
  have lit : k.lit = l.lit := by simp only [Lamp.lit, state]
  exact ⟨by rw [state, coolDown]; exact h.coolDown, by rw [state, warmUp]; exact h.warmUp,
    by rw [state, window, nextStrike]; exact h.strike, by rw [lit, lossTimer]; exact h.loss, attempts ▸ h.attempts⟩

/-- R69: a cool-down starts with every other timer cancelled. -/
theorem cooling (h : l.TimersFit) (dest : CoolDest) (ms : Nat) : (l.cooling dest ms).TimersFit :=
  ⟨fun out => absurd rfl out, fun _ => rfl, fun _ => ⟨rfl, rfl⟩, fun _ => rfl, h.attempts⟩

/-- R74: a cool-down ends with its timer at 0. -/
theorem cooled (h : l.TimersFit) (cool : l.state = .cooldown) (out : l.coolDown = 0) (dest : CoolDest) :
    ({ l with state := dest.state } : Lamp).TimersFit := by
  have unlit : l.lit = false := by simp [Lamp.lit, cool]
  exact ⟨fun _ => out, fun _ => h.warmUp (by simp [cool]), fun _ => h.strike (by simp [cool]),
    fun _ => h.loss unlit, h.attempts⟩

theorem checked (h : l.TimersFit) (theta : Int) (ms : Nat) : (l.checked theta ms).TimersFit := by
  have marked : ({ l with checkDone := true } : Lamp).TimersFit := h.of_electrics rfl
  unfold Lamp.checked
  split
  · exact h
  · split
    · exact marked.cooling _ _
    · exact marked

theorem tripped (h : l.TimersFit) (ms : Nat) : (l.tripped ms).TimersFit := by
  have viewed : ({ l with bandView := .trip } : Lamp).TimersFit :=
    ⟨h.coolDown, h.warmUp, h.strike, h.loss, h.attempts⟩
  unfold Lamp.tripped
  split
  · exact viewed.cooling _ _
  · exact viewed

/-- R72, R74: out of STRIKING no other timer runs, so that the strike's end clears the window and the wait alone. -/
theorem struck (h : l.TimersFit) (striking : l.state = .striking) :
    l.coolDown = 0 ∧ l.warmUp = 0 ∧ l.lossTimer = none :=
  ⟨h.coolDown (by simp [striking]), h.warmUp (by simp [striking]), h.loss (by simp [Lamp.lit, striking])⟩

end Lamp.TimersFit

theorem endCoolDownIfDone_timersFit {s : State} (hs : s.lamp.TimersFit) : (endCoolDownIfDone s).lamp.TimersFit := by
  rcases endCoolDownIfDone_cases s with e | ⟨cool, out, e⟩ <;> rw [e]
  · exact hs
  · exact hs.cooled cool out _

theorem period_timersFit (r : Sample) (h : Handover) {s : State} (hs : s.lamp.TimersFit) :
    (periodComputation r h s).lamp.TimersFit := by
  have formed : (estimated r h s).lamp.TimersFit := by
    rw [estimated_lamp]
    exact hs.checked _ _
  have judged : (decided r h s).lamp.TimersFit := by
    rw [decided_lamp]
    split
    · exact formed.tripped _
    · exact formed
  have told : (reported (decided r h s)).lamp.TimersFit :=
    ⟨judged.coolDown, judged.warmUp, judged.strike, judged.loss, judged.attempts⟩
  exact endCoolDownIfDone_timersFit told

theorem LampMoves.timersFit {s t : State} (m : LampMoves s t) (hs : s.lamp.TimersFit) : t.lamp.TimersFit := by
  induction m with
  | elsewhere lamp _ => exact lamp ▸ hs
  | trans _ _ first second => exact second (first hs)
  | order hf => exact hs.of_electrics (hf.electrics _)
  | deliver _ => exact hs.of_electrics (Lamp.deliver_electrics _ _)
  | limit _ => exact hs.of_electrics (Lamp.setLimit_electrics _ _ _)
  | sense _ | dest _ => exact hs.of_electrics rfl
  | strike off _ =>
    exact ⟨fun _ => hs.coolDown (by simp [off]), fun _ => hs.warmUp (by simp [off]), fun other => absurd rfl other,
      fun _ => hs.loss (by simp [Lamp.lit, off]), Nat.zero_le 3⟩
  | attempt striking few =>
    obtain ⟨coolDown, warmUp, loss⟩ := hs.struck striking
    exact ⟨fun _ => coolDown, fun _ => warmUp, fun other => absurd striking other, fun _ => loss, few⟩
  | confirm striking =>
    obtain ⟨coolDown, -, -⟩ := hs.struck striking
    exact ⟨fun _ => coolDown, fun other => absurd rfl other, fun _ => ⟨rfl, rfl⟩, fun _ => rfl, hs.attempts⟩
  | windowEnd =>
    exact ⟨hs.coolDown, hs.warmUp, fun other => ⟨rfl, (hs.strike other).2⟩, hs.loss, hs.attempts⟩
  | strikeFailed striking =>
    obtain ⟨coolDown, warmUp, loss⟩ := hs.struck striking
    exact ⟨fun _ => coolDown, fun _ => warmUp, fun _ => ⟨rfl, rfl⟩, fun _ => loss, hs.attempts⟩
  | lossTimer lit _ =>
    exact ⟨hs.coolDown, hs.warmUp, hs.strike, fun unlit => Bool.noConfusion (lit.symm.trans unlit), hs.attempts⟩
  | warm warming =>
    exact ⟨fun _ => hs.coolDown (by simp [warming]), fun _ => rfl, fun _ => hs.strike (by simp [warming]), nofun,
      hs.attempts⟩
  | cool dest ms => exact hs.cooling dest ms
  | acknowledge => exact ⟨hs.coolDown, hs.warmUp, hs.strike, hs.loss, Nat.zero_le 3⟩
  | coolOut => exact ⟨fun _ => rfl, hs.warmUp, hs.strike, hs.loss, hs.attempts⟩
  | coolEnd => exact endCoolDownIfDone_timersFit hs
  | thermal lamp => exact lamp ▸ hs
  | profile => exact hs
  | period r h => exact period_timersFit r h hs
  | powerOn => exact ⟨fun _ => rfl, fun _ => rfl, fun _ => ⟨rfl, rfl⟩, fun _ => rfl, Nat.zero_le 3⟩
  | @passMs s =>
    refine ⟨fun out => ?_, fun out => ?_, fun out => ?_, fun unlit => ?_, hs.attempts⟩
    · exact congrArg (· - 1) (hs.coolDown out)
    · exact congrArg (· - 1) (hs.warmUp out)
    · obtain ⟨window, nextStrike⟩ := hs.strike out
      exact ⟨congrArg countDown window, congrArg countDown nextStrike⟩
    · exact congrArg (Option.map _) (hs.loss unlit)

/-! ### The trip (R70, R71) -/

theorem Lamp.active_of_electrics {l k : Lamp} (h : k.electrics = l.electrics) :
    k.active = l.active ∧ k.bandView = l.bandView := by
  simp only [Lamp.electrics, Prod.mk.injEq] at h
  obtain ⟨state, -, -, -, -, -, -, view⟩ := h
  exact ⟨by simp only [Lamp.active, Lamp.lit, state], view⟩

theorem Lamp.checked_inactive {l : Lamp} (h : l.active = false) (theta : Int) (ms : Nat) :
    (l.checked theta ms).active = false := by
  unfold Lamp.checked
  (repeat' split)
  · exact h
  · rfl
  · exact h

theorem CoolDest.state_inactive (dest : CoolDest) (l : Lamp) :
    ({ l with state := dest.state } : Lamp).active = false := by
  cases dest <;> rfl

theorem endCoolDownIfDone_inactive {s : State} (h : s.lamp.active = false) :
    (endCoolDownIfDone s).lamp.active = false := by
  rcases endCoolDownIfDone_cases s with e | ⟨-, -, e⟩ <;> rw [e]
  · exact h
  · exact s.lamp.dest.state_inactive s.lamp

/-- R102: a period that finds or leaves the band in TRIP leaves the lamp out. -/
theorem period_tripLaw (r : Sample) (h : Handover) {s : State} (hs : TripLaw s) : TripLaw (periodComputation r h s) := by
  obtain ⟨-, out⟩ := hs
  refine ⟨by rw [period_lamp, period_thermal], fun trip => endCoolDownIfDone_inactive (s := reported _) ?_⟩
  rw [period_thermal] at trip
  show (decided r h s).lamp.active = false
  by_cases before : s.thermal.band = .trip
  · rw [decided_lamp, if_neg (by simp [before]), estimated_lamp]
    exact Lamp.checked_inactive (out before) _ _
  · rw [decided_lamp, if_pos ⟨before, trip⟩]
    exact Lamp.tripped_inactive _ _

theorem LampMoves.tripLaw {s t : State} (m : LampMoves s t) (hs : TripLaw s) : TripLaw t := by
  induction m with
  | elsewhere lamp thermal => simpa only [TripLaw, lamp, thermal] using hs
  | trans _ _ first second => exact second (first hs)
  | @order s f hf =>
    obtain ⟨active, view⟩ := Lamp.active_of_electrics (hf.electrics s.lamp)
    simpa only [TripLaw, State.onLamp_lamp, State.onLamp_thermal, active, view] using hs
  | @deliver s light _ =>
    obtain ⟨active, view⟩ := Lamp.active_of_electrics (s.lamp.deliver_electrics light)
    simpa only [TripLaw, State.onLamp_lamp, State.onLamp_thermal, active, view] using hs
  | @limit s c e _ =>
    obtain ⟨active, view⟩ := Lamp.active_of_electrics (s.lamp.setLimit_electrics c e)
    simpa only [TripLaw, State.onLamp_lamp, State.onLamp_thermal, active, view] using hs
  | @strike s off view => exact ⟨hs.1, fun trip => absurd (hs.1.trans trip) view⟩
  | @confirm s striking =>
    refine ⟨hs.1, fun trip => absurd (hs.2 trip) ?_⟩
    simp [Lamp.active, striking]
  | strikeFailed _ => exact ⟨hs.1, fun _ => rfl⟩
  | @warm s warming =>
    refine ⟨hs.1, fun trip => absurd (hs.2 trip) ?_⟩
    simp [Lamp.active, Lamp.lit, warming]
  | cool _ _ => exact ⟨hs.1, fun _ => rfl⟩
  | sense _ | attempt _ _ | windowEnd | lossTimer _ _ | acknowledge | dest _ | coolOut | profile _ _ | passMs => exact hs
  | @coolEnd s =>
    refine ⟨?_, fun trip => endCoolDownIfDone_inactive (hs.2 ?_)⟩
    · rw [endCoolDownIfDone_eq]
      exact hs.1
    · rwa [endCoolDownIfDone_eq] at trip
  | thermal lamp _ band => simpa only [TripLaw, lamp, band] using hs
  | period r h => exact period_tripLaw r h hs
  | powerOn => exact ⟨rfl, nofun⟩

/-! ### The light (R76 to R78) -/

/-- R76 to R78: the fade value, the delivered light and the ends of a ramp in 0..1000. -/
def Lamp.LightFits (l : Lamp) : Prop :=
  l.fade ≤ 1000 ∧ l.delivered ≤ 1000 ∧ ∀ r, l.ramp = some r → r.a ≤ 1000 ∧ r.b ≤ 1000

theorem Lamp.LightFits.of_optics {l k : Lamp} (h : l.LightFits) (hv : k.optics = l.optics) : k.LightFits := by
  simp only [Lamp.optics, Prod.mk.injEq] at hv
  obtain ⟨fade, ramp, delivered, -, -⟩ := hv
  simpa only [Lamp.LightFits, fade, ramp, delivered] using h

theorem Lamp.LightFits.stepFade {l : Lamp} (h : l.LightFits) : l.stepFade.LightFits := by
  obtain ⟨fade, delivered, ramp⟩ := h
  unfold Lamp.stepFade
  split
  · exact ⟨fade, delivered, ramp⟩
  · rename_i r hr
    obtain ⟨ha, hb⟩ := ramp r hr
    simp only
    split
    · exact ⟨hb, delivered, nofun⟩
    · refine ⟨(r.next.value_le_max _).trans (max_le ha hb), delivered, fun r' e => ?_⟩
      cases e
      exact ⟨ha, hb⟩

theorem LightOrder.lightFits {f : Lamp → Lamp} (hf : LightOrder f) {l : Lamp} (h : l.LightFits) : (f l).LightFits := by
  obtain ⟨fade, delivered, ramp⟩ := h
  have zero : 0 ≤ 1000 := Nat.zero_le _
  cases hf with
  | fadeOut n =>
    unfold Lamp.fadeOut
    split
    · exact ⟨zero, delivered, nofun⟩
    · refine ⟨delivered, delivered, fun r e => ?_⟩
      cases e
      exact ⟨delivered, zero⟩
  | fadeIn n =>
    unfold Lamp.fadeIn
    split
    · exact ⟨le_rfl, delivered, nofun⟩
    · refine ⟨zero, delivered, fun r e => ?_⟩
      cases e
      exact ⟨zero, le_rfl⟩
  | stepFade => exact Lamp.LightFits.stepFade ⟨fade, delivered, ramp⟩
  | dark | trayRemoved => exact ⟨zero, delivered, nofun⟩
  | clearHold | clearExposure | override _ | account _ _ | govern _ => exact ⟨fade, delivered, ramp⟩

theorem Lamp.LightFits.deliver {l : Lamp} (h : l.LightFits) {light : Nat} (chain : light ≤ l.fade) :
    (l.deliver light).LightFits := by
  obtain ⟨fade, -, ramp⟩ := h
  unfold Lamp.deliver
  split <;> exact ⟨fade, chain.trans fade, ramp⟩

theorem LampMoves.lightFits {s t : State} (m : LampMoves s t) (hs : s.lamp.LightFits) : t.lamp.LightFits := by
  induction m with
  | elsewhere lamp _ => exact lamp ▸ hs
  | trans _ _ first second => exact second (first hs)
  | order hf => exact hf.lightFits hs
  | deliver chain => exact hs.deliver chain
  | @limit s c e _ =>
    show (s.lamp.setLimit c e).LightFits
    unfold Lamp.setLimit
    split <;> exact hs
  | sense _ | strike _ _ | attempt _ _ | confirm _ | windowEnd | strikeFailed _ | lossTimer _ _ | warm _ | cool _ _
  | acknowledge | dest _ | coolOut | profile _ _ | passMs => exact hs
  | coolEnd =>
    rw [endCoolDownIfDone_eq]
    exact hs
  | thermal lamp => exact lamp ▸ hs
  | period r h => exact hs.of_optics (period_optics r h _)
  | powerOn => exact ⟨Nat.zero_le _, Nat.zero_le _, nofun⟩

/-! ### The exposure (R81) -/

/-- R81, R83: the account and the limits within their outer bound. -/
def Lamp.ExposureFits (l : Lamp) : Prop :=
  l.exposure ≤ Config.exposureMax ∧ ∀ i : Fin 3, l.limits[i] ≤ Config.exposureMax

theorem Lamp.ExposureFits.of_optics {l k : Lamp} (h : l.ExposureFits) (hv : k.optics = l.optics) :
    k.ExposureFits := by
  simp only [Lamp.optics, Prod.mk.injEq] at hv
  obtain ⟨-, -, -, exposure, limits⟩ := hv
  simpa only [Lamp.ExposureFits, exposure, limits] using h

theorem Lamp.ExposureFits.limit {l : Lamp} (h : l.ExposureFits) (cls : Nat) : l.limit cls ≤ Config.exposureMax := by
  unfold Lamp.limit
  split
  · exact h.2 ⟨cls, ‹_›⟩
  · exact Nat.zero_le _

theorem Lamp.ExposureFits.account {l : Lamp} (h : l.ExposureFits) (p cls : Nat) : (l.account p cls).ExposureFits := by
  refine ⟨(min_le_right _ _).trans ?_, h.2⟩
  split
  · exact le_rfl
  · exact h.limit cls

theorem Lamp.stepFade_exposure (l : Lamp) : l.stepFade.exposure = l.exposure ∧ l.stepFade.limits = l.limits := by
  unfold Lamp.stepFade
  split
  · exact ⟨rfl, rfl⟩
  · simp only
    split <;> exact ⟨rfl, rfl⟩

theorem LightOrder.exposureFits {f : Lamp → Lamp} (hf : LightOrder f) {l : Lamp} (h : l.ExposureFits) :
    (f l).ExposureFits := by
  cases hf with
  | fadeOut n =>
    unfold Lamp.fadeOut
    split <;> exact h
  | fadeIn n =>
    unfold Lamp.fadeIn
    split <;> exact h
  | stepFade =>
    obtain ⟨exposure, limits⟩ := l.stepFade_exposure
    simpa only [Lamp.ExposureFits, exposure, limits] using h
  | clearExposure => exact ⟨Nat.zero_le _, h.2⟩
  | account p cls => exact h.account p cls
  | dark | clearHold | trayRemoved | override _ | govern _ => exact h

theorem Lamp.ExposureFits.setLimit {l : Lamp} (h : l.ExposureFits) {c e : Nat} (range : e ≤ Config.exposureMax) :
    (l.setLimit c e).ExposureFits := by
  unfold Lamp.setLimit
  split
  · refine ⟨h.1, fun i => ?_⟩
    simp only [Fin.getElem_fin, Vector.getElem_set]
    split
    · exact range
    · exact h.2 i
  · exact h

theorem LampMoves.exposureFits {s t : State} (m : LampMoves s t) (hs : s.lamp.ExposureFits) : t.lamp.ExposureFits := by
  induction m with
  | elsewhere lamp _ => exact lamp ▸ hs
  | trans _ _ first second => exact second (first hs)
  | order hf => exact hf.exposureFits hs
  | @deliver s light _ =>
    show (s.lamp.deliver light).ExposureFits
    unfold Lamp.deliver
    split <;> exact hs
  | limit range => exact hs.setLimit range
  | sense _ | strike _ _ | attempt _ _ | confirm _ | windowEnd | strikeFailed _ | lossTimer _ _ | warm _ | cool _ _
  | acknowledge | dest _ | coolOut | profile _ _ | passMs => exact hs
  | coolEnd =>
    rw [endCoolDownIfDone_eq]
    exact hs
  | thermal lamp => exact lamp ▸ hs
  | period r h => exact hs.of_optics (period_optics r h _)
  | powerOn => exact show Lamp.reset.ExposureFits from ⟨Nat.zero_le _, by decide⟩

/-! ### The fan (R105) -/

/-- R105, R106: the duty a lamp state asks for at least. -/
def FanFits (state : LampState) (t : Thermal) : Prop :=
  (state ≠ .off → t.profile.floor ≤ t.duty) ∧ t.duty ≤ 1000 ∧ ∀ i : Fin 8, t.profiles[i].floor ≤ 1000

theorem FanFits.of_view {state : LampState} {t u : Thermal} (h : FanFits state t) (active : u.active = t.active)
    (duty : u.duty = t.duty) (profiles : u.profiles = t.profiles) : FanFits state u := by
  simpa only [FanFits, Thermal.profile, active, duty, profiles] using h

/-- R106: the fan's answer to a new lamp state keeps it at the floor where the old state had it there, and STRIKING and
COOLDOWN bring it there. -/
theorem FanFits.fanOnLamp {old new : LampState} {t : Thermal} (h : FanFits old t)
    (lit : old ≠ .off ∨ new = .striking ∨ new = .cooldown ∨ new = .off) : FanFits new (t.fanOnLamp old new) := by
  obtain ⟨least, most, floors⟩ := h
  have floor : t.profile.floor ≤ 1000 := floors t.active
  cases new with
  | off =>
    simp only [Thermal.fanOnLamp]
    (repeat' split)
    · exact ⟨fun out => absurd rfl out, most, floors⟩
    · exact ⟨fun out => absurd rfl out, Nat.zero_le _, floors⟩
    · exact ⟨fun out => absurd rfl out, most, floors⟩
  | striking => exact ⟨fun _ => le_max_right _ _, max_le most floor, floors⟩
  | cooldown => exact ⟨fun _ => floor, le_rfl, floors⟩
  | warming | run | failed => exact ⟨fun _ => least (by simpa using lit), most, floors⟩

/-- R104: the demand lies between the floor and 1000. -/
theorem Thermal.demand_range (t : Thermal) (floor : t.profile.floor ≤ 1000) :
    t.profile.floor ≤ t.demand ∧ t.demand ≤ 1000 := by
  simp only [Thermal.demand, clampInt]
  (repeat' split) <;> omega

/-- R105: the new duty lies in 0..1000, and at the floor at least with the lamp not OFF. -/
theorem Thermal.newDuty_range (lamp : LampState) {duty : Nat} (t : Thermal) (floor : t.profile.floor ≤ 1000)
    (most : duty ≤ 1000) : (lamp ≠ .off → t.profile.floor ≤ t.newDuty lamp duty) ∧ t.newDuty lamp duty ≤ 1000 := by
  obtain ⟨-, demand⟩ := t.demand_range floor
  have slewed : slewedDuty t.profile.slew duty t.demand ≤ 1000 := by
    unfold slewedDuty
    (repeat' split) <;> omega
  unfold Thermal.newDuty
  split
  · exact ⟨fun _ => floor, le_rfl⟩
  · split
    · exact ⟨fun _ => floor, le_rfl⟩
    · cases lamp with
      | cooldown => exact ⟨fun _ => floor, le_rfl⟩
      | off => exact ⟨fun out => absurd rfl out, Nat.zero_le _⟩
      | striking | warming | run | failed => exact ⟨fun _ => le_max_left _ _, max_le floor slewed⟩

theorem endCoolDownIfDone_fanFits {s : State} (hs : FanFits s.lamp.state s.thermal) :
    FanFits (endCoolDownIfDone s).lamp.state (endCoolDownIfDone s).thermal := by
  rcases endCoolDownIfDone_cases s with e | ⟨cool, -, e⟩ <;> rw [e]
  · exact hs
  · exact hs.fanOnLamp (.inl (by simp [cool]))

/-- R105: a period sets the duty anew, whatever the profile that has become active. -/
theorem period_fanFits (r : Sample) (h : Handover) {s : State} (hs : FanFits s.lamp.state s.thermal) :
    FanFits (periodComputation r h s).lamp.state (periodComputation r h s).thermal := by
  obtain ⟨-, most, floors⟩ := hs
  have profiles : (decided r h s).thermal.profiles = s.thermal.profiles := by
    rw [decided_thermal, estimated_thermal]
    rfl
  have floors : ∀ i : Fin 8, (decided r h s).thermal.profiles[i].floor ≤ 1000 := by rwa [profiles]
  obtain ⟨least, most⟩ := (decided r h s).thermal.newDuty_range (decided r h s).lamp.state (floors _) most
  have told : FanFits (reported (decided r h s)).lamp.state (reported (decided r h s)).thermal :=
    ⟨fun out => decided_duty r h s ▸ least out, decided_duty r h s ▸ most, floors⟩
  exact (endCoolDownIfDone_fanFits told).of_view rfl rfl rfl

theorem LampMoves.fanFits {s t : State} (m : LampMoves s t) (hs : FanFits s.lamp.state s.thermal) :
    FanFits t.lamp.state t.thermal := by
  induction m with
  | elsewhere lamp thermal => rwa [lamp, thermal]
  | trans _ _ first second => exact second (first hs)
  | @order s f hf =>
    have state : (f s.lamp).state = s.lamp.state := congrArg Prod.fst (hf.electrics s.lamp)
    exact (congrArg (FanFits · s.thermal) state).mpr hs
  | @deliver s light _ =>
    have state : (s.lamp.deliver light).state = s.lamp.state := congrArg Prod.fst (s.lamp.deliver_electrics light)
    exact (congrArg (FanFits · s.thermal) state).mpr hs
  | @limit s c e _ =>
    have state : (s.lamp.setLimit c e).state = s.lamp.state := congrArg Prod.fst (s.lamp.setLimit_electrics c e)
    exact (congrArg (FanFits · s.thermal) state).mpr hs
  | sense _ | attempt _ _ | windowEnd | lossTimer _ _ | acknowledge | dest _ | coolOut => exact hs
  | strike _ _ => exact hs.fanOnLamp (.inr (.inl rfl))
  | confirm striking => exact hs.fanOnLamp (.inl (by simp [striking]))
  | strikeFailed striking => exact hs.fanOnLamp (.inl (by simp [striking]))
  | warm warming => exact hs.fanOnLamp (.inl (by simp [warming]))
  | cool _ _ => exact hs.fanOnLamp (.inr (.inr (.inl rfl)))
  | coolEnd => exact endCoolDownIfDone_fanFits hs
  | thermal lamp _ _ active duty profiles => exact lamp ▸ hs.of_view active duty profiles
  | @profile s i p passive range =>
    obtain ⟨least, most, floors⟩ := hs
    have active : (s.thermal.profiles.set i.val p i.isLt)[s.thermal.active] = s.thermal.profile :=
      Vector.getElem_set_ne _ _ (Fin.val_ne_of_ne passive)
    refine ⟨fun out => (congrArg (Profile.floor · ≤ s.thermal.duty) active).mpr (least out), most, fun j => ?_⟩
    simp only [State.onThermal_thermal, Fin.getElem_fin, Vector.getElem_set]
    split
    · exact range
    · exact floors j
  | period r h => exact period_fanFits r h hs
  | powerOn => exact show FanFits Lamp.reset.state Thermal.reset from ⟨by decide, by decide, by decide⟩
  | passMs => exact hs.of_view rfl rfl rfl

/-! ### The estimate (R95) -/

theorem LampMoves.estimateLaw {s t : State} (m : LampMoves s t) (hs : EstimateLaw s) : EstimateLaw t := by
  induction m with
  | elsewhere _ thermal => simpa only [EstimateLaw, thermal] using hs
  | trans _ _ first second => exact second (first hs)
  | order _ | deliver _ | limit _ | sense _ | attempt _ _ | windowEnd | lossTimer _ _ | acknowledge | dest _ | coolOut
  | strike _ _ | confirm _ | strikeFailed _ | warm _ | cool _ _ | profile _ _ | passMs => exact hs
  | coolEnd =>
    rw [endCoolDownIfDone_eq]
    exact hs
  | thermal _ est => simpa only [EstimateLaw, est] using hs
  | @period s r h =>
    have est : (periodComputation r h s).thermal.est = (estimated r h s).thermal.est := by
      rw [period_thermal, decided_thermal]
    unfold EstimateLaw
    rw [est]
    rcases estimated_est r h s with e | range
    · rw [e]
      exact hs
    · exact range
  | powerOn => rfl

/-- Settles O58: a step is a chain of moves of the lamp and the Thermal Unit, and every move keeps each law. -/
theorem lampAndThermalLawsAreKept : Obligations.LampAndThermalLawsAreKept := by
  unfold Obligations.LampAndThermalLawsAreKept
  intro s t h
  have m := step_moves h
  exact ⟨fun hs => (lampTimerLaw_iff t).mpr (m.timersFit ((lampTimerLaw_iff s).mp hs)), m.tripLaw, m.lightFits,
    m.exposureFits, m.fanFits, m.estimateLaw⟩

end Sys2Proof.Machine
end

section
/-! PROOFS. The lamp is struck (O29) and cools down (O30). -/

namespace Sys2Proof.Machine

/-! ### Striking (O29) -/

/-- R71, R72: a strike attempt, which a current already flowing confirms. -/
def Lamp.struck (l : Lamp) : Lamp :=
  if l.flowing then
    { l with state := .warming, attempts := l.attempts + 1, window := none, nextStrike := none, warmUp := 45000
             lossTimer := none }
  else
    { l with state := .striking, attempts := l.attempts + 1, window := some 2000
             nextStrike := if l.attempts + 1 < 3 then some 5000 else none }

theorem strikeAttempt_of_striking {s : State} (h : s.lamp.state = .striking) :
    strikeAttempt s = { s with lamp := s.lamp.struck } := by
  rw [strikeAttempt_eq]
  unfold Lamp.struck
  split
  · rfl
  · rw [← h]
    rfl

/-- R68, R106: LAMP ON strikes an OFF lamp and brings the fan to the floor at least. -/
theorem offerLampOn_strikes {s : State} (h : s.lamp.state = .off) (hc : s.lamp.checkDone = true)
    (hb : s.lamp.bandView ≠ .trip) : offerLampOn s =
    ({ s with lamp := ({ s.lamp with attempts := 0 } : Lamp).struck
              thermal := { s.thermal with duty := max s.thermal.duty s.thermal.profile.floor } }, .done) := by
  rw [offerLampOn_of_off h hc hb]
  rfl

theorem execLampOn_eq {s : State} (ha : s.link.accepts .lampOn = true) {t : State} {st : Status}
    (h : offerLampOn s = (t, st)) : execLampOn s = .next (respond 15 st [] t) := by
  rw [execLampOn, hostRequest_of_accepts _ _ _ ha, ofOffer_state, ofOffer_status, h]
  rfl

/-- R71: the window that ends without current, before the last attempt and at it. -/
theorem execStrikeWindowEnd_waits {s : State} (h : s.lamp.state = .striking) (hw : s.lamp.window ≠ none)
    (few : s.lamp.attempts < 3) :
    execStrikeWindowEnd s = .next { s with lamp := { s.lamp with window := none } } := by
  simp [execStrikeWindowEnd, h, Option.isSome_iff_ne_none.mpr hw, few, State.onLamp]

theorem execStrikeWindowEnd_fails {s : State} (h : s.lamp.state = .striking) (hw : s.lamp.window ≠ none)
    (last : 3 ≤ s.lamp.attempts) : execStrikeWindowEnd s = .next (raise (.lampFail .strike)
      { s with lamp := { s.lamp with window := none, nextStrike := none, state := .failed } }) := by
  simp only [execStrikeWindowEnd, if_pos (And.intro h (Option.isSome_iff_ne_none.mpr hw)), 
    if_neg (show ¬s.lamp.attempts < 3 by omega)]
  rfl

/-- Settles O29: LAMP ON by the lamp state, and the events of the strike and the warm-up. -/
theorem theLampIsStruck : Obligations.TheLampIsStruck := by
  unfold Obligations.TheLampIsStruck
  refine ⟨fun s => ?_, fun s => ⟨fun h hw => ⟨execStrikeWindowEnd_waits h hw, execStrikeWindowEnd_fails h hw,
    execCurrentSenseChange_confirms h hw⟩, fun h => ?_, fun h => ?_, fun flowing =>
    ⟨execCurrentSenseChange_lit flowing, execCurrentSenseChange_noted⟩⟩⟩
  · intro attempt
    refine ⟨fun ha => ⟨fun off hc hb => ?_, fun off hb => ?_, fun cool => ?_, fun active => ?_, fun failed => ?_⟩,
      fun striking closed due few => ?_⟩
    · exact execLampOn_eq ha (offerLampOn_strikes off hc hb)
    · exact execLampOn_eq ha (offerLampOn_of_barred off hb)
    · exact execLampOn_eq ha (by simp only [offerLampOn, cool, turnedAway])
    · exact execLampOn_eq ha (offerLampOn_of_active (by simpa [Lamp.active, or_comm] using active))
    · exact execLampOn_eq ha (by simp only [offerLampOn, failed, turnedAway])
    · show execStrikeAttemptTimer s = _
      rw [execStrikeAttemptTimer, if_pos ⟨striking, Option.isSome_iff_ne_none.mpr due, closed, few⟩,
        strikeAttempt_of_striking striking]
      rfl
  · show execWarmUpEnd s = _
    rw [execWarmUpEnd, if_pos h]
    rfl
  · show execWarmUpEnd s = _
    rw [execWarmUpEnd, if_neg h]

/-! ### Cooling down (O30) -/

/-- R75: LAMP RESET by the lamp state. -/
theorem execLampReset_eq {s : State} (ha : s.link.accepts .lampReset = true) {t : State} {st : Status}
    (h : offerLampReset s = (t, st)) : execLampReset s = .next (respond 17 st [] t) := by
  rw [execLampReset, hostRequest_of_accepts _ _ _ ha, ofOffer_state, ofOffer_status, h]
  rfl

theorem execLampOff_eq {s : State} (ha : s.link.accepts .lampOff = true) :
    execLampOff s = .next (respond 16 .done [] (lampOff s)) := by
  rw [execLampOff, hostRequest_of_accepts _ _ _ ha]
  rfl

theorem offerLampReset_of_active_or_off {s : State} (h : s.lamp.active = true ∨ s.lamp.state = .off) :
    offerLampReset s = (s, .notNow) := by
  have state : s.lamp.state = .striking ∨ s.lamp.state = .warming ∨ s.lamp.state = .run ∨ s.lamp.state = .off := by
    simpa only [Lamp.active_iff, or_assoc] using h
  rcases state with e | e | e | e <;> simp only [offerLampReset, e, turnedAway]

/-- R74: the cool-down timer runs out: the cool-down ends if the cool-limit flag is set. -/
theorem execCooldownTimerExpiry_eq {s : State} (h : s.lamp.state = .cooldown) : execCooldownTimerExpiry s =
    .next (if s.lamp.coolFlag = true then enterLamp s.lamp.dest.state (s.onLamp fun l => { l with coolDown := 0 })
      else s.onLamp fun l => { l with coolDown := 0 }) := by
  simp [execCooldownTimerExpiry, endCoolDownIfDone, h]

/-- Settles O30: the three ways into the cool-down, and its end by the flag and the destination. -/
theorem theLampCoolsDown : Obligations.TheLampCoolsDown := by
  unfold Obligations.TheLampCoolsDown
  intro s cooling
  refine ⟨fun ha => ⟨fun active => ?_, fun out => ?_⟩, fun lit lost => ?_,
    fun ha => ⟨fun failed => ?_, fun cool dest => ?_, fun cool dest => ?_, fun other => ?_⟩,
    fun cool => ⟨fun flag => ?_, fun flag dest => ?_, fun flag dest => ?_⟩⟩
  · exact (execLampOff_eq ha).trans (by rw [lampOff_of_active active])
  · exact (execLampOff_eq ha).trans (by rw [lampOff_of_inactive out])
  · show execCurrentLoss s = _
    rw [execCurrentLoss, if_pos ⟨lit, Option.isSome_iff_ne_none.mpr lost⟩]
    rfl
  · exact execLampReset_eq ha (by simp only [offerLampReset, failed]; rfl)
  · exact execLampReset_eq ha (by simp only [offerLampReset, cool, dest, taken, State.onLamp])
  · exact execLampReset_eq ha (by simp only [offerLampReset, cool, dest, turnedAway])
  · exact execLampReset_eq ha (offerLampReset_of_active_or_off other)
  · refine (execCooldownTimerExpiry_eq cool).trans ?_
    rw [if_neg (by simp [flag])]
    rfl
  · refine (execCooldownTimerExpiry_eq cool).trans ?_
    rw [if_pos flag, dest]
    rfl
  · refine (execCooldownTimerExpiry_eq cool).trans ?_
    rw [if_pos flag, dest]
    simp only [enterLamp, State.onLamp_lamp, cool]
    rfl

end Sys2Proof.Machine
end

section
/-! PROOFS. The fade tick and SET LIGHT (O31), and the exposure account (O32). -/

namespace Sys2Proof.Machine

/-! ### The fade tick (O31) -/

/-- R76: the state after a fade tick. -/
def ticked (s : State) : State :=
  (s.onLamp Lamp.stepFade).onLamp (Lamp.deliver (lightChain (s.onLamp Lamp.stepFade)))

/-- R77, R78: a step of the ramp touches the fade value, the ramp and the dark hold. -/
theorem Lamp.stepFade_eq (l : Lamp) : l.stepFade =
    { l with fade := l.stepFade.fade, ramp := l.stepFade.ramp, darkHold := l.stepFade.darkHold } := by
  unfold Lamp.stepFade
  split
  · rfl
  · simp only
    split <;> rfl

theorem Lamp.deliver_eq (light : Nat) (l : Lamp) : l.deliver light =
    { l with delivered := light, lightSum := (l.deliver light).lightSum, ticks := (l.deliver light).ticks } := by
  unfold Lamp.deliver
  split <;> rfl

theorem Lamp.stepFade_deliver_eq (light : Nat) (l : Lamp) : l.stepFade.deliver light =
    let k := l.stepFade.deliver light
    { l with fade := k.fade, ramp := k.ramp, darkHold := k.darkHold, delivered := k.delivered
             lightSum := k.lightSum, ticks := k.ticks } := by
  rw [Lamp.stepFade_eq]
  unfold Lamp.deliver
  split <;> rfl

/-- R81: the period's sum takes its first 25 ticks. -/
theorem Lamp.deliver_counts {light : Nat} {l : Lamp} (h : l.ticks < 25) :
    (l.deliver light).lightSum = l.lightSum + light ∧ (l.deliver light).ticks = l.ticks + 1 := by
  rw [Lamp.deliver, if_pos (show l.ticks < Config.ticksPerPeriod from h)]
  exact ⟨rfl, rfl⟩

theorem Lamp.deliver_full {light : Nat} {l : Lamp} (h : 25 ≤ l.ticks) :
    (l.deliver light).lightSum = l.lightSum ∧ (l.deliver light).ticks = l.ticks := by
  rw [Lamp.deliver, if_neg (show ¬l.ticks < Config.ticksPerPeriod from Nat.not_lt.mpr h)]
  exact ⟨rfl, rfl⟩

theorem Lamp.stepFade_none {l : Lamp} (h : l.ramp = none) : l.stepFade = l := by
  simp only [Lamp.stepFade, h]

/-- R78: a step before the last. -/
theorem Lamp.stepFade_inside {l : Lamp} {r : Ramp} (h : l.ramp = some r) (hk : r.k + 1 < r.n) : l.stepFade =
    { l with
      fade := ((r.a : Int) + (((r.b : Int) - r.a) * (r.k + 1)).tdiv r.n).toNat
      ramp := some { r with k := r.k + 1 } } := by
  have next : r.next = { r with k := r.k + 1 } := by simp [Ramp.next, Nat.min_eq_right hk.le]
  simp only [Lamp.stepFade, h, next]
  rw [if_neg (by simp [Ramp.done, hk])]
  simp [Ramp.value, hk]

/-- R77, R78: the last step is exact, and a fade to 0 sets the dark hold. -/
theorem Lamp.stepFade_last {l : Lamp} {r : Ramp} (h : l.ramp = some r) (hk : r.n ≤ r.k + 1) : l.stepFade =
    { l with fade := r.b, ramp := none, darkHold := if r.b = 0 then true else l.darkHold } := by
  have done : r.next.done = true := by simp [Ramp.next, Ramp.done, hk]
  simp only [Lamp.stepFade, h]
  rw [if_pos done]

/-- R76: the light chain is dark without a lit lamp, a slide in the gate, the lifter DOWN, and with the hold. -/
theorem lightChain_dark {s : State}
    (h : s.lamp.lit = false ∨ s.drive.gate = false ∨ s.drive.lifter ≠ .down ∨ s.lamp.darkHold = true) :
    lightChain s = 0 := by
  unfold lightChain
  rw [if_pos]
  simpa [or_assoc] using h

/-- R76: and else the least term of the chain. -/
theorem lightChain_lit {s : State} (lit : s.lamp.lit = true) (gate : s.drive.gate = true)
    (down : s.drive.lifter = .down) (hold : s.lamp.darkHold = false) : lightChain s =
    let chain := min (min (min s.lamp.fade (baseLevel s)) s.lamp.warmCap) s.lamp.appliedCap
    if s.lamp.guard then min chain s.thermal.profile.guardLevel else chain := by
  simp [lightChain, lit, gate, down, hold]

theorem lightChain_bound (s : State) : LightBound (lightChain s) s := by
  refine ⟨lightChain_dark, ?_⟩
  unfold lightChain
  split
  · simp
  · simp only
    split
    · omega
    · rename_i guard
      exact ⟨by omega, by omega, by omega, by omega, fun on => absurd on guard⟩

/-- R76: what the light chain reads, a tick's delivery leaves. -/
theorem LightBound.deliver {light n : Nat} {s : State} (h : LightBound light s) :
    LightBound light (s.onLamp (Lamp.deliver n)) := by
  rw [State.onLamp, Lamp.deliver_eq]
  exact h

theorem ticked_lamp (s : State) : (ticked s).lamp = s.lamp.stepFade.deliver (lightChain (s.onLamp Lamp.stepFade)) := rfl

theorem ticked_light (s : State) :
    (ticked s).lamp.fade = s.lamp.stepFade.fade ∧ (ticked s).lamp.ramp = s.lamp.stepFade.ramp ∧
    (ticked s).lamp.darkHold = s.lamp.stepFade.darkHold ∧
    (ticked s).lamp.delivered = lightChain (s.onLamp Lamp.stepFade) := by
  rw [ticked_lamp, Lamp.deliver_eq]
  exact ⟨rfl, rfl, rfl, rfl⟩

theorem ticked_eq (s : State) : ticked s = { s with lamp := { s.lamp with
    fade := (ticked s).lamp.fade, ramp := (ticked s).lamp.ramp, darkHold := (ticked s).lamp.darkHold
    delivered := (ticked s).lamp.delivered, lightSum := (ticked s).lamp.lightSum, ticks := (ticked s).lamp.ticks } } := by
  exact congrArg (fun l => { s with lamp := l }) (s.lamp.stepFade_deliver_eq (lightChain (s.onLamp Lamp.stepFade)))

/-- R76: the light a tick delivers, as the least term of the chain. -/
theorem ticked_delivered {s : State} (lit : s.lamp.lit = true) (gate : s.drive.gate = true)
    (down : s.drive.lifter = .down) (hold : (ticked s).lamp.darkHold = false) : (ticked s).lamp.delivered =
    let chain := min (min (min (ticked s).lamp.fade (baseLevel s)) s.lamp.warmCap) s.lamp.appliedCap
    if s.lamp.guard then min chain s.thermal.profile.guardLevel else chain := by
  obtain ⟨fade, -, darkHold, delivered⟩ := ticked_light s
  rw [darkHold] at hold
  have lit' : (s.onLamp Lamp.stepFade).lamp.lit = true := by
    rw [State.onLamp_lamp, Lamp.stepFade_eq]
    exact lit
  rw [delivered, fade, lightChain_lit lit' gate down hold, State.onLamp, Lamp.stepFade_eq]
  rfl

theorem execSetLight_eq {v : Option Nat} {s : State} (ha : s.link.accepts (.setLight v) = true) :
    execSetLight v s = .next (respond 18 (if v.getD 0 ≤ 1000 then .done else .badValue) []
      (if v.getD 0 ≤ 1000 then { s with lamp := { s.lamp with override := v } } else s)) := by
  rw [execSetLight, hostRequest_of_accepts _ _ _ ha]
  split <;> rfl

/-- Settles O31: the tick by the ramp's step and the light chain, and SET LIGHT by its range. -/
theorem fadeTicksDeliverTheLight : Obligations.FadeTicksDeliverTheLight := by
  unfold Obligations.FadeTicksDeliverTheLight
  intro s
  obtain ⟨fade, ramp, darkHold, delivered⟩ := ticked_light s
  refine ⟨⟨ticked s, rfl, ticked_eq s, fun h => ?_, fun r h => ⟨fun hk => ?_, fun hk => ?_⟩, ?_, ticked_delivered,
    fun h => ?_, fun h => ?_⟩, fun v ha => ⟨fun h => ?_, fun h => ?_⟩⟩
  · rw [fade, ramp, darkHold, Lamp.stepFade_none h]
    exact ⟨rfl, h, rfl⟩
  · rw [fade, ramp, darkHold, Lamp.stepFade_inside h hk]
    exact ⟨rfl, rfl, rfl⟩
  · rw [fade, ramp, darkHold, Lamp.stepFade_last h hk]
    exact ⟨rfl, rfl, rfl⟩
  · rw [delivered]
    exact (lightChain_bound _).deliver
  · rw [delivered, ticked_lamp]
    have few : s.lamp.stepFade.ticks < 25 := by rwa [Lamp.stepFade_eq]
    obtain ⟨sum, ticks⟩ := Lamp.deliver_counts (light := lightChain (s.onLamp Lamp.stepFade)) few
    rw [sum, ticks, Lamp.stepFade_eq]
    exact ⟨rfl, rfl⟩
  · rw [ticked_lamp]
    have full : 25 ≤ s.lamp.stepFade.ticks := by rwa [Lamp.stepFade_eq]
    obtain ⟨sum, ticks⟩ := Lamp.deliver_full (light := lightChain (s.onLamp Lamp.stepFade)) full
    rw [sum, ticks, Lamp.stepFade_eq]
    exact ⟨rfl, rfl⟩
  · exact (execSetLight_eq ha).trans (by rw [if_pos h, if_pos h])
  · have beyond : ¬v.getD 0 ≤ 1000 := by omega
    exact (execSetLight_eq ha).trans (by rw [if_neg beyond, if_neg beyond])

/-! ### The exposure account (O32) -/

theorem governingClass_eq (s : State) :
    governingClass s = (s.changer.currentSlot.map SlotRecord.cls).getD s.lamp.govClass := by
  unfold governingClass
  cases s.changer.currentSlot <;> rfl

theorem Lamp.coolDone_eq (l : Lamp) : l.coolDone = decide (l.state ≠ .cooldown ∨ l.coolDown = 0) := by
  rw [Bool.decide_or, decide_not]
  rfl

/-- R81, R82: the account and the guard as numbers. -/
theorem Lamp.account_eq (p cls : Nat) (l : Lamp) :
    let limit := l.limit cls
    let account := min (l.exposure + p) (if limit = 0 then 4000000 else limit)
    l.account p cls = { l with
      exposure := account, govClass := cls, guard := decide (limit ≠ 0 ∧ account = limit), lightSum := 0, ticks := 0 } := by
  simp [Lamp.account, boundExposure, Config.exposureMax, bne, Bool.beq_eq_decide_eq]

/-- R81: what a period's end counts, in the statement's terms. -/
theorem counted_eq (s : State) : counted s = { s with
    lamp := s.lamp.account (s.lamp.lightSum / 25) ((s.changer.currentSlot.map SlotRecord.cls).getD s.lamp.govClass)
    thermal := { s.thermal with
      handover := some { p := s.lamp.lightSum / 25
                         coolDone := decide (s.lamp.state ≠ .cooldown ∨ s.lamp.coolDown = 0) } } } := by
  rw [← governingClass_eq, ← Lamp.coolDone_eq]
  rfl

/-- R74, R81: at a period's end that ends a cool-down, the lamp is in its destination as the average is handed over. -/
theorem counted_cooled {s : State} (cool : s.lamp.state = .cooldown) (out : s.lamp.coolDown = 0)
    (flag : s.lamp.coolFlag = true) :
    (counted (endCoolDownIfDone s)).lamp = ({ s.lamp with state := s.lamp.dest.state } : Lamp).account
      (s.lamp.lightSum / 25) ((s.changer.currentSlot.map SlotRecord.cls).getD s.lamp.govClass) ∧
    (counted (endCoolDownIfDone s)).thermal.handover = some { p := s.lamp.lightSum / 25, coolDone := true } := by
  have ended : endCoolDownIfDone s = enterLamp s.lamp.dest.state s := if_pos ⟨cool, out, flag⟩
  have done : (enterLamp s.lamp.dest.state s).lamp.coolDone = true := by
    unfold enterLamp
    cases s.lamp.dest <;> rfl
  rw [ended, counted]
  simp only [State.onLamp_thermal, State.onThermal_thermal, done]
  rw [governingClass_eq]
  exact ⟨rfl, rfl⟩

/-- R83: the limits written at one class. -/
theorem Lamp.limit_setLimit_same {l : Lamp} {c : Nat} (e : Nat) (h : c < 3) : (l.setLimit c e).limit c = e := by
  simp [Lamp.limit, Lamp.setLimit, h]

theorem Lamp.limit_setLimit_other {l : Lamp} {c d : Nat} (e : Nat) (h : d ≠ c) :
    (l.setLimit c e).limit d = l.limit d := by
  unfold Lamp.limit Lamp.setLimit
  split
  · split
    · simp only [Vector.getElem_set, if_neg h.symm]
    · rfl
  · rfl

theorem execWriteExposure_badIndex {c e : Nat} {s : State} (ha : s.link.accepts (.writeExposure c e) = true)
    (h : 3 ≤ c) : execWriteExposure c e s = .next (respond 19 .badIndex [] s) := by
  rw [execWriteExposure, hostRequest_of_accepts _ _ _ ha, if_pos h]
  rfl

theorem execWriteExposure_badValue {c e : Nat} {s : State} (ha : s.link.accepts (.writeExposure c e) = true)
    (h : c < 3) (he : 4000000 < e) : execWriteExposure c e s = .next (respond 19 .badValue [] s) := by
  rw [execWriteExposure, hostRequest_of_accepts _ _ _ ha, if_neg (Nat.not_le.mpr h),
    if_pos (show Config.exposureMax < e from he)]
  rfl

theorem execWriteExposure_done {c e : Nat} {s : State} (ha : s.link.accepts (.writeExposure c e) = true)
    (h : c < 3) (he : e ≤ 4000000) : execWriteExposure c e s =
    .next (respond 19 .done (limitBytes (s.lamp.setLimit c e)) (s.onLamp (Lamp.setLimit c e))) := by
  rw [execWriteExposure, hostRequest_of_accepts _ _ _ ha, if_neg (Nat.not_le.mpr h),
    if_neg (show ¬Config.exposureMax < e from Nat.not_lt.mpr he)]
  rfl

theorem Lamp.setLimit_eq (c e : Nat) (l : Lamp) : l.setLimit c e = { l with limits := (l.setLimit c e).limits } := by
  unfold Lamp.setLimit
  split <;> rfl

/-- Settles O32: the period's end without and with the end of a cool-down, and WRITE EXPOSURE. -/
theorem theExposureIsCounted : Obligations.TheExposureIsCounted := by
  unfold Obligations.TheExposureIsCounted
  intro s p cls limit account guard
  refine ⟨fun goesOn => ?_, fun cool out flag => ?_, fun c e ha h => execWriteExposure_badIndex ha h,
    fun c e ha h => ⟨execWriteExposure_badValue ha h, fun he => ⟨s.onLamp (Lamp.setLimit c e),
      execWriteExposure_done ha h he, ?_, Lamp.limit_setLimit_same e h, fun d hd => Lamp.limit_setLimit_other e hd⟩⟩⟩
  · refine (execLampPeriodEnd_eq s).trans ?_
    rw [show endCoolDownIfDone s = s from if_neg goesOn]
    simp only [counted_eq, Lamp.account_eq, raiseIf, Bool.and_eq_true, Bool.not_eq_true']
    rfl
  · obtain ⟨lamp, handover⟩ := counted_cooled cool out flag
    refine ⟨_, execLampPeriodEnd_eq s, ?_, ?_, ?_, ?_, ?_⟩
    · rw [raiseIf_lamp, lamp]
      rfl
    · rw [raiseIf_lamp, lamp, Lamp.account_eq]
      rfl
    · rw [raiseIf_lamp, lamp, Lamp.account_eq]
      rfl
    · rw [raiseIf_thermal, handover]
    · apply State.eq_of_blocks <;> simp [counted]
  · exact congrArg (fun l => { s with lamp := l }) (s.lamp.setLimit_eq c e)

end Sys2Proof.Machine
end

section
/-! PROOFS. What a period computation decides (O35): the band, the notices, the fan, the start-up check and the report. -/

namespace Sys2Proof.Machine

/-! ### The band of stage 5 (R101, R102) -/

namespace Thermal

variable {t : Thermal}

theorem tripCause_iff : t.tripCause = true ↔
    t.profile.x ≤ t.est ∨ (∃ run, t.sensor = .fault 80 run) ∨ ∃ run, t.fan = .fault 40 run := by
  simp only [tripCause, Bool.or_eq_true, decide_eq_true_eq, or_assoc]
  refine or_congr Iff.rfl (or_congr ?_ ?_)
  · cases t.sensor <;> simp
  · cases t.fan <;> simp

theorem nextBand_of_cause {cd : Bool} (h : t.tripCause = true) : t.nextBand cd = .trip := if_pos h

theorem nextBand_of_normal {cd : Bool} (h : ¬t.tripCause = true) (hb : t.band = .normal) : t.nextBand cd =
    if t.sensor.isFault || t.fan.isFault then .hot else if t.profile.w ≤ t.est then .warm else .normal := by
  simp only [nextBand, if_neg h, hb]

theorem nextBand_of_warm {cd : Bool} (h : ¬t.tripCause = true) (hb : t.band = .warm) : t.nextBand cd =
    if t.sensor.isFault || t.fan.isFault then .hot
    else if t.profile.h ≤ t.est then .hot else if t.est < t.profile.w - 40 then .normal else .warm := by
  simp only [nextBand, if_neg h, hb]

theorem nextBand_of_hot {cd : Bool} (h : ¬t.tripCause = true) (hb : t.band = .hot) : t.nextBand cd =
    if t.sensor.isFault || t.fan.isFault then .hot else if t.est < t.profile.h - 40 then .warm else .hot := by
  simp only [nextBand, if_neg h, hb]
  cases t.sensor.isFault || t.fan.isFault <;> simp

theorem nextBand_of_trip {cd : Bool} (h : ¬t.tripCause = true) (hb : t.band = .trip) : t.nextBand cd =
    if t.est < t.profile.coolLimit ∧ t.sensor.isFault = false ∧ cd = true then
      (if t.fan.isFault then .hot else .normal)
    else .trip := by
  simp only [nextBand, if_neg h, hb, coolFlag, Bool.and_eq_true, decide_eq_true_eq, Bool.not_eq_true', and_assoc]

/-- R101: the cause that THERM_HOT names. -/
theorem hotCause_spec :
    (t.sensor.isFault = false → t.fan.isFault = false → t.hotCause = .temp) ∧
    (t.sensor.isFault = true → t.fan.isFault = false → t.hotCause = .sensor) ∧
    (t.sensor.isFault = false → t.fan.isFault = true → t.hotCause = .fan) ∧
    (t.sensor.isFault = true → t.fan.isFault = true → t.hotCause = .sensor ∨ t.hotCause = .fan) := by
  refine ⟨fun hs hf => ?_, fun hs hf => ?_, fun hs hf => ?_, fun hs hf => ?_⟩
  · simp [hotCause, hs, hf]
  · simp [hotCause, hs, hf]
  · simp [hotCause, hs, hf]
  · simp only [hotCause, hs, hf, Bool.and_self, if_true]
    cases Config.bothFaultsSayFan
    · exact .inl rfl
    · exact .inr rfl

end Thermal

/-! ### The fan state and the duty of stage 6 (R105, R107) -/

theorem Thermal.driven_iff (duty : Nat) (t : Thermal) :
    t.driven duty = true ↔ t.profile.floor ≤ duty ∧ duty ≠ 0 := by
  simp [Thermal.driven]

theorem Thermal.tachSlow_iff (t : Thermal) :
    t.tachSlow = true ↔ 100 < t.tachSilence ∨ ∃ us, t.tachInterval = some us ∧ 100000 < us := by
  simp only [Thermal.tachSlow, Bool.or_eq_true, decide_eq_true_eq]
  refine or_congr Iff.rfl ?_
  cases t.tachInterval <;> simp [Config.tachSlowMs]

/-- R105: the duty in TRIP and with a faulty sensor. -/
theorem Thermal.newDuty_full {lamp : LampState} {duty : Nat} {t : Thermal}
    (h : t.band = .trip ∨ t.sensor.isFault = true) : t.newDuty lamp duty = 1000 := by
  unfold Thermal.newDuty
  split
  · rfl
  · exact if_pos (h.resolve_left ‹_›)

/-- R105: the duty in COOLDOWN, whatever the band and the sensor. -/
theorem Thermal.newDuty_cooldown {duty : Nat} {t : Thermal} : t.newDuty .cooldown duty = 1000 := by
  simp [Thermal.newDuty]

/-- R105: the duty by the lamp state. -/
theorem Thermal.newDuty_of_lamp {lamp : LampState} {duty : Nat} {t : Thermal} (hb : t.band ≠ .trip)
    (hs : t.sensor.isFault = false) :
    (lamp = .off → t.newDuty lamp duty = 0) ∧ (lamp = .cooldown → t.newDuty lamp duty = 1000) ∧
    (lamp ≠ .off → lamp ≠ .cooldown →
      t.newDuty lamp duty = max t.profile.floor (slewedDuty t.profile.slew duty t.demand)) := by
  unfold Thermal.newDuty
  rw [if_neg hb, if_neg (by simp [hs])]
  cases lamp <;> simp

/-! ### The notices of a period -/

theorem lampTrip_notice_other (s : State) {i : Fin 30} (h : i ≠ 10) :
    (lampTrip s).link.notices[i] = s.link.notices[i] := by
  rw [lampTrip_eq]
  refine (raiseIf_notice_other _ (.lampTrip _) _ h).trans ?_
  simp

section

variable (cd : Bool) (s : State)

/-- R101: leaving TRIP apart, NORMAL to WARM raises THERM_WARN and an entry to HOT raises THERM_HOT. -/
theorem bandStage_notice_warn : (bandStage cd s).link.notices[(12 : Fin 30)] =
    if s.thermal.band = .normal ∧ s.thermal.nextBand cd = .warm then
      { arg := some (.thermWarn s.thermal.est), mark := true }
    else s.link.notices[(12 : Fin 30)] := by
  have band : (banded cd s).thermal.band = s.thermal.nextBand cd := rfl
  rw [bandStage_eq, bandEntered_eq, band]
  split
  · rename_i trip
    exact (lampTrip_notice_other _ (by decide)).trans (if_neg fun ⟨_, other⟩ => nomatch trip.2.symm.trans other).symm
  · refine (raiseIf_notice_same _ (.thermWarn _) _).trans ?_
    simp only [Bool.and_eq_true, beq_iff_eq]
    split
    · rfl
    · exact raiseIf_notice_other _ (.thermHot _ _) _ (show (12 : Fin 30) ≠ 13 by decide)

theorem bandStage_notice_hot : (bandStage cd s).link.notices[(13 : Fin 30)] =
    if s.thermal.band ≠ .hot ∧ s.thermal.nextBand cd = .hot then
      { arg := some (.thermHot s.thermal.est s.thermal.hotCause), mark := true }
    else s.link.notices[(13 : Fin 30)] := by
  have band : (banded cd s).thermal.band = s.thermal.nextBand cd := rfl
  rw [bandStage_eq, bandEntered_eq, band]
  split
  · rename_i trip
    exact (lampTrip_notice_other _ (by decide)).trans (if_neg fun ⟨_, other⟩ => nomatch trip.2.symm.trans other).symm
  · refine (raiseIf_notice_other _ (.thermWarn _) _ (show (13 : Fin 30) ≠ 12 by decide)).trans
      ((raiseIf_notice_same _ (.thermHot _ _) _).trans ?_)
    simp only [Bool.and_eq_true, beq_iff_eq, bne_iff_ne]
    rfl

/-- R70: a trip of a lamp that is struck or lit raises LAMP_TRIP. -/
theorem bandStage_notice_trip (before : s.thermal.band ≠ .trip) (after : s.thermal.nextBand cd = .trip)
    (active : s.lamp.active = true) : (bandStage cd s).link.notices[(10 : Fin 30)] =
    { arg := some (.lampTrip s.lamp.state), mark := true } := by
  have tripped : (banded cd s).thermal.band = .trip := after
  rw [bandStage_eq, bandEntered_eq, if_pos ⟨before, tripped⟩, lampTrip_eq]
  refine (raiseIf_notice_same _ (.lampTrip _) _).trans ?_
  rw [if_pos (show (banded cd s).lamp.active = true from active)]
  rfl

theorem bandStage_notice_fan : (bandStage cd s).link.notices[(15 : Fin 30)] = s.link.notices[(15 : Fin 30)] := by
  rw [bandStage_eq, bandEntered_eq]
  split
  · exact lampTrip_notice_other _ (by decide)
  · refine (raiseIf_notice_other _ (.thermWarn _) _ (show (15 : Fin 30) ≠ 12 by decide)).trans ?_
    exact raiseIf_notice_other _ (.thermHot _ _) _ (show (15 : Fin 30) ≠ 13 by decide)

end

section

variable (r : Sample) (h : Handover) (s : State)

theorem period_link : (periodComputation r h s).link =
    (tachStage s.thermal.duty (bandStage h.coolDone (estimated r h s))).link := by
  simp [periodComputation_eq, reported, decided]

theorem period_notice_of_band {i : Fin 30} (hi : i ≠ 15) : (periodComputation r h s).link.notices[i] =
    (bandStage h.coolDone (estimated r h s)).link.notices[i] := by
  rw [period_link, tachStage_eq]
  exact raiseIf_notice_other _ (.fanFault _) _ hi

end

/-! ### The Thermal Unit after a period, from the estimate on -/

section

variable (r : Sample) (h : Handover) (s : State)

/-- What stage 5 reads of the Thermal Unit: the estimate and the sensor just formed, the fan and the band as they were. -/
theorem estimated_kept : (estimated r h s).thermal.fan = s.thermal.fan ∧ (estimated r h s).thermal.band = s.thermal.band ∧
    (estimated r h s).thermal.tachSilence = s.thermal.tachSilence ∧
    (estimated r h s).thermal.tachInterval = s.thermal.tachInterval := by
  rw [estimated_thermal]
  exact ⟨rfl, rfl, rfl, rfl⟩

/-- The stages after the estimate leave the profile, the estimate and the sensor. -/
theorem period_kept : (periodComputation r h s).thermal.profile = (estimated r h s).thermal.profile ∧
    (periodComputation r h s).thermal.est = (estimated r h s).thermal.est ∧
    (periodComputation r h s).thermal.sensor = (estimated r h s).thermal.sensor := by
  rw [period_thermal, decided_thermal]
  exact ⟨rfl, rfl, rfl⟩

theorem period_band :
    (periodComputation r h s).thermal.band = (estimated r h s).thermal.nextBand h.coolDone := by
  rw [period_thermal, decided_thermal]

theorem period_namedCap : (periodComputation r h s).thermal.namedCap =
    (periodComputation r h s).thermal.band.cap (periodComputation r h s).thermal.profile := by
  rw [period_thermal, decided_thermal]
  rfl

/-- R107: the tach is judged against the profile in force after the activation and the duty before it. -/
theorem period_fan : (periodComputation r h s).thermal.fan =
    s.thermal.fan.move ((periodComputation r h s).thermal.driven s.thermal.duty) s.thermal.tachSlow := by
  obtain ⟨fan, -, silence, interval⟩ := estimated_kept r h s
  have slow : (estimated r h s).thermal.tachSlow = s.thermal.tachSlow := by
    simp only [Thermal.tachSlow, silence, interval]
  rw [period_thermal, decided_thermal, fan, slow]
  rfl

/-- R107: the entry to FAULT raises FAN_FAULT with the speed. -/
theorem period_notice_fan : (periodComputation r h s).link.notices[(15 : Fin 30)] =
    if s.thermal.fan.isFault = false ∧ (periodComputation r h s).thermal.fan.isFault = true then
      { arg := some (.fanFault s.thermal.speed), mark := true }
    else s.link.notices[(15 : Fin 30)] := by
  obtain ⟨fan, -, silence, interval⟩ := estimated_kept r h s
  have speed : (bandStage h.coolDone (estimated r h s)).thermal.speed = s.thermal.speed := by
    rw [bandStage_thermal]
    show (estimated r h s).thermal.speed = _
    simp only [Thermal.speed, silence, interval]
  have before : (bandStage h.coolDone (estimated r h s)).thermal.fan = s.thermal.fan := by
    rw [bandStage_thermal]
    exact fan
  have after : (tachStage s.thermal.duty (bandStage h.coolDone (estimated r h s))).thermal.fan =
      (periodComputation r h s).thermal.fan := by
    rw [period_thermal]
    rfl
  have moved : (tachStage s.thermal.duty (bandStage h.coolDone (estimated r h s))).thermal.fan = _ :=
    congrArg Thermal.fan (tachStage_thermal _ _)
  rw [period_link, tachStage_eq, ← moved.symm.trans after]
  refine (raiseIf_notice_same _ (.fanFault _) _).trans ?_
  simp only [before, speed, Bool.and_eq_true, Bool.not_eq_true']
  split
  · rfl
  · exact (bandStage_notice_fan _ _).trans (estimated_notice r h s (by decide) (by decide))

theorem period_notice_warn : (periodComputation r h s).link.notices[(12 : Fin 30)] =
    if s.thermal.band = .normal ∧ (periodComputation r h s).thermal.band = .warm then
      { arg := some (.thermWarn (periodComputation r h s).thermal.est), mark := true }
    else s.link.notices[(12 : Fin 30)] := by
  obtain ⟨-, band, -⟩ := estimated_kept r h s
  obtain ⟨-, est, -⟩ := period_kept r h s
  rw [period_notice_of_band r h s (by decide), bandStage_notice_warn, period_band, band, est,
    estimated_notice r h s (by decide) (by decide)]

/-- R101: the entry to HOT raises THERM_HOT, whose cause is by the faults in force. -/
theorem period_notice_hot : (periodComputation r h s).link.notices[(13 : Fin 30)] =
    if s.thermal.band ≠ .hot ∧ (periodComputation r h s).thermal.band = .hot then
      { arg := some (.thermHot (periodComputation r h s).thermal.est (estimated r h s).thermal.hotCause), mark := true }
    else s.link.notices[(13 : Fin 30)] := by
  obtain ⟨-, band, -⟩ := estimated_kept r h s
  obtain ⟨-, est, -⟩ := period_kept r h s
  rw [period_notice_of_band r h s (by decide), bandStage_notice_hot, period_band, band, est,
    estimated_notice r h s (by decide) (by decide)]

/-! ### The lamp after a period -/

theorem period_duty_full (full : (periodComputation r h s).thermal.band = .trip ∨
    (periodComputation r h s).thermal.sensor.isFault = true) : (periodComputation r h s).thermal.duty = 1000 := by
  rw [period_thermal] at full
  exact (endCoolDownIfDone_duty (s := reported (decided r h s)) full).trans (Thermal.newDuty_full full)

/-- R74: the report leaves a lamp out of COOLDOWN, or with time left, in its state. -/
theorem period_end_of_not (going : (decided r h s).lamp.state ≠ .cooldown ∨ (decided r h s).lamp.coolDown ≠ 0) :
    (periodComputation r h s).lamp.state = (decided r h s).lamp.state ∧
    (periodComputation r h s).thermal.duty = (decided r h s).thermal.duty := by
  rcases period_end_cases r h s with kept | ⟨cool, out, -⟩
  · exact kept
  · exact absurd going (by simp [cool, out])

theorem Lamp.checked_kept (theta : Int) (ms : Nat) (l : Lamp) :
    (l.checked theta ms).checkDone = true ∧ (l.checked theta ms).appliedCap = l.appliedCap := by
  unfold Lamp.checked
  (repeat' split)
  · exact ⟨‹_›, rfl⟩
  · exact ⟨rfl, rfl⟩
  · exact ⟨rfl, rfl⟩

theorem Lamp.tripped_kept (ms : Nat) (l : Lamp) :
    (l.tripped ms).checkDone = l.checkDone ∧ (l.tripped ms).appliedCap = l.appliedCap := by
  unfold Lamp.tripped
  split <;> exact ⟨rfl, rfl⟩

theorem decided_kept :
    (decided r h s).lamp.checkDone = true ∧ (decided r h s).lamp.appliedCap = s.lamp.appliedCap := by
  have formed : (estimated r h s).lamp.checkDone = true ∧ (estimated r h s).lamp.appliedCap = s.lamp.appliedCap := by
    rw [estimated_lamp]
    exact Lamp.checked_kept _ _ _
  rw [decided_lamp]
  split
  · obtain ⟨check, cap⟩ := (estimated r h s).lamp.tripped_kept ((estimated r h s).thermal.profile.coolTime * 1000)
    rwa [check, cap]
  · exact formed

/-- R70: a trip finds an inactive lamp as it is, but for its view of the band. -/
theorem decided_lamp_of_inactive (out : (estimated r h s).lamp.active = false) :
    (decided r h s).lamp = { (estimated r h s).lamp with bandView := (decided r h s).lamp.bandView } := by
  rw [decided_lamp]
  split
  · simp [Lamp.tripped, out]
  · rfl

variable {s}

theorem estimated_lamp_of_done (done : s.lamp.checkDone = true) : (estimated r h s).lamp = s.lamp := by
  rw [estimated_lamp, Lamp.checked, if_pos done]

/-- R70, R102: a trip puts a lamp that is struck or lit into COOLDOWN. -/
theorem period_trips (done : s.lamp.checkDone = true) (before : s.thermal.band ≠ .trip)
    (after : (periodComputation r h s).thermal.band = .trip) (active : s.lamp.active = true)
    (time : (periodComputation r h s).thermal.profile.coolTime ≠ 0) :
    (periodComputation r h s).lamp.state = .cooldown ∧
    (periodComputation r h s).link.notices[(10 : Fin 30)] = { arg := some (.lampTrip s.lamp.state), mark := true } := by
  obtain ⟨profile, -, -⟩ := period_kept r h s
  obtain ⟨-, band, -⟩ := estimated_kept r h s
  have lamp := estimated_lamp_of_done r h done
  have cooling : (decided r h s).lamp =
      { s.lamp with bandView := .trip }.cooling .off ((periodComputation r h s).thermal.profile.coolTime * 1000) := by
    rw [period_thermal] at after
    rw [decided_lamp, if_pos ⟨before, after⟩, lamp, Lamp.tripped, if_pos active, profile]
  have going : (decided r h s).lamp.coolDown ≠ 0 := by
    rw [cooling]
    exact Nat.mul_ne_zero time (by decide)
  obtain ⟨state, -⟩ := period_end_of_not r h s (.inr going)
  refine ⟨by rw [state, cooling]; rfl, ?_⟩
  rw [period_notice_of_band r h s (by decide), ← lamp]
  exact bandStage_notice_trip _ _ (band ▸ before) (period_band r h s ▸ after) (lamp ▸ active)

/-- R85: a hot first sample puts an OFF lamp into COOLDOWN for profile 0's time. -/
theorem period_checks_hot (first : s.lamp.checkDone = false) (hot : 400 ≤ checkCode s.thermal.cal r)
    (time : s.thermal.profiles[0].coolTime ≠ 0) :
    (periodComputation r h s).lamp.state = .cooldown ∧ (periodComputation r h s).lamp.dest = .off ∧
    (periodComputation r h s).lamp.coolDown = s.thermal.profiles[0].coolTime * 1000 ∧
    (periodComputation r h s).thermal.duty = 1000 := by
  have cooling : (estimated r h s).lamp =
      { s.lamp with checkDone := true }.cooling .off (s.thermal.profiles[0].coolTime * 1000) := by
    rw [estimated_lamp, Lamp.checked, if_neg (by simp [first]), if_pos hot]
  have lamp := decided_lamp_of_inactive r h s (by rw [cooling]; rfl)
  have cool : (decided r h s).lamp.state = .cooldown := by
    rw [lamp, cooling]
    rfl
  have dest : (decided r h s).lamp.dest = .off := by
    rw [lamp, cooling]
    rfl
  have coolDown : (decided r h s).lamp.coolDown = s.thermal.profiles[0].coolTime * 1000 := by
    rw [lamp, cooling]
    rfl
  obtain ⟨state, duty⟩ := period_end_of_not r h s (.inr (coolDown ▸ Nat.mul_ne_zero time (by decide)))
  refine ⟨state.trans cool, by rw [period_lamp]; exact dest, by rw [period_lamp]; exact coolDown, ?_⟩
  rw [duty, decided_duty, cool, Thermal.newDuty_cooldown]

/-- R85: a cold first sample leaves an OFF lamp OFF. -/
theorem period_checks_cold (first : s.lamp.checkDone = false) (off : s.lamp.state = .off)
    (cold : ¬400 ≤ checkCode s.thermal.cal r) : (periodComputation r h s).lamp.state = .off := by
  have checked : (estimated r h s).lamp = { s.lamp with checkDone := true } := by
    rw [estimated_lamp, Lamp.checked, if_neg (by simp [first]), if_neg cold]
  have lamp := decided_lamp_of_inactive r h s (by rw [checked]; simp [Lamp.active, Lamp.lit, off])
  have stays : (decided r h s).lamp.state = .off := by
    rw [lamp, checked]
    exact off
  obtain ⟨state, -⟩ := period_end_of_not r h s (.inl (by simp [stays]))
  exact state.trans stays

/-- R105: without a trip or a faulty sensor, a lamp out of COOLDOWN keeps its state, and its duty is by that state. -/
theorem period_duty (done : s.lamp.checkDone = true) (band : (periodComputation r h s).thermal.band ≠ .trip)
    (state : s.lamp.state ≠ .cooldown) : (periodComputation r h s).lamp.state = s.lamp.state ∧
    (periodComputation r h s).thermal.duty =
      (periodComputation r h s).thermal.newDuty s.lamp.state s.thermal.duty := by
  rw [period_thermal] at band
  have lamp : (decided r h s).lamp = s.lamp := by
    rw [decided_lamp, if_neg (fun ⟨_, trip⟩ => band trip), estimated_lamp_of_done r h done]
  obtain ⟨kept, duty⟩ := period_end_of_not r h s (.inl (lamp ▸ state))
  refine ⟨by rw [kept, lamp], ?_⟩
  rw [duty, decided_duty, lamp, period_thermal]
  rfl

end

end Sys2Proof.Machine
end

section
/-! PROOFS. What a period computation decides, clause by clause of O35, and its settlement. -/

namespace Sys2Proof.Machine

/-! ### Facts about the rules a period uses -/

/-- R107: the fan state over a period, by the state before it. -/
theorem FanState.move_good (driven slow : Bool) (run : Nat) : (FanState.good run).move driven slow =
    if driven = true ∧ slow = true then (if run + 1 < 8 then .good (run + 1) else .fault 0 0) else .good 0 := by
  simp [FanState.move]

theorem FanState.move_fault (driven slow : Bool) (time run : Nat) : (FanState.fault time run).move driven slow =
    if driven = false then .fault time run
    else if slow = true then .fault (min 40 (time + 1)) 0
    else if run + 1 < 8 then .fault time (run + 1) else .good 0 := by
  simp [FanState.move]

/-- R85: a bad sample counts as the hottest code. -/
theorem checkCode_hot_iff (cal : Calibration) (r : Sample) : 400 ≤ checkCode cal r ↔
    (r.toNat ≤ 15 ∨ 4080 ≤ r.toNat) ∨ 400 ≤ tempCode cal (corrected cal r) := by
  have bad : sampleBad r = true ↔ r.toNat ≤ 15 ∨ 4080 ≤ r.toNat := by simp [sampleBad]
  rw [← bad, checkCode]
  split <;> simp [*]

/-- R79: the applied cap falls at once and rises by 100 at most. -/
theorem nextAppliedCap_eq (applied named : Nat) : nextAppliedCap applied named =
    if named ≤ applied then named else min named (applied + 100) := by
  unfold nextAppliedCap
  split <;> omega

theorem Thermal.coolFlag_eq (t : Thermal) :
    t.coolFlag = decide (t.est < t.profile.coolLimit ∧ t.sensor.isFault = false) := by
  simp [Thermal.coolFlag]

theorem not_off_or_cooldown {l : Lamp} (state : l.active = true ∨ l.state = .failed) :
    l.state ≠ .off ∧ l.state ≠ .cooldown := by
  rcases state with active | failed
  · rw [Lamp.active_iff] at active
    rcases active with st | st | st <;> simp [st]
  · simp [failed]

/-! ### The band (R101, R102) -/

variable (r : Sample) (h : Handover) (s : State)

theorem period_tripCause_iff : (estimated r h s).thermal.tripCause = true ↔
    (periodComputation r h s).thermal.profile.x ≤ (periodComputation r h s).thermal.est ∨
    (∃ run, (periodComputation r h s).thermal.sensor = .fault 80 run) ∨ ∃ run, s.thermal.fan = .fault 40 run := by
  obtain ⟨profile, est, sensor⟩ := period_kept r h s
  obtain ⟨fan, -⟩ := estimated_kept r h s
  rw [Thermal.tripCause_iff, profile, est, sensor, fan]

theorem period_band_of_cause (cause : (estimated r h s).thermal.tripCause = true) :
    (periodComputation r h s).thermal.band = .trip :=
  (period_band r h s).trans (Thermal.nextBand_of_cause cause)

section

variable {r h s} (noCause : ¬(estimated r h s).thermal.tripCause = true)

include noCause

theorem period_band_of_normal (band : s.thermal.band = .normal) : (periodComputation r h s).thermal.band =
    if (periodComputation r h s).thermal.sensor.isFault || s.thermal.fan.isFault then .hot
    else if (periodComputation r h s).thermal.profile.w ≤ (periodComputation r h s).thermal.est then .warm
    else .normal := by
  obtain ⟨profile, est, sensor⟩ := period_kept r h s
  obtain ⟨fan, same, -⟩ := estimated_kept r h s
  rw [period_band, Thermal.nextBand_of_normal noCause (same.trans band), profile, est, sensor, fan]

theorem period_band_of_warm (band : s.thermal.band = .warm) : (periodComputation r h s).thermal.band =
    if (periodComputation r h s).thermal.sensor.isFault || s.thermal.fan.isFault then .hot
    else if (periodComputation r h s).thermal.profile.h ≤ (periodComputation r h s).thermal.est then .hot
    else if (periodComputation r h s).thermal.est < (periodComputation r h s).thermal.profile.w - 40 then .normal
    else .warm := by
  obtain ⟨profile, est, sensor⟩ := period_kept r h s
  obtain ⟨fan, same, -⟩ := estimated_kept r h s
  rw [period_band, Thermal.nextBand_of_warm noCause (same.trans band), profile, est, sensor, fan]

theorem period_band_of_hot (band : s.thermal.band = .hot) : (periodComputation r h s).thermal.band =
    if (periodComputation r h s).thermal.sensor.isFault || s.thermal.fan.isFault then .hot
    else if (periodComputation r h s).thermal.est < (periodComputation r h s).thermal.profile.h - 40 then .warm
    else .hot := by
  obtain ⟨profile, est, sensor⟩ := period_kept r h s
  obtain ⟨fan, same, -⟩ := estimated_kept r h s
  rw [period_band, Thermal.nextBand_of_hot noCause (same.trans band), profile, est, sensor, fan]

theorem period_band_of_trip (band : s.thermal.band = .trip) : (periodComputation r h s).thermal.band =
    if (periodComputation r h s).thermal.est < (periodComputation r h s).thermal.profile.coolLimit ∧
      (periodComputation r h s).thermal.sensor.isFault = false ∧ h.coolDone = true then
      (if s.thermal.fan.isFault then .hot else .normal)
    else .trip := by
  obtain ⟨profile, est, sensor⟩ := period_kept r h s
  obtain ⟨fan, same, -⟩ := estimated_kept r h s
  rw [period_band, Thermal.nextBand_of_trip noCause (same.trans band), profile, est, sensor, fan]

end

/-! ### The cause of THERM_HOT (R101) -/

theorem period_hotCause_spec :
    ((periodComputation r h s).thermal.sensor.isFault = false → s.thermal.fan.isFault = false →
      (estimated r h s).thermal.hotCause = .temp) ∧
    ((periodComputation r h s).thermal.sensor.isFault = true → s.thermal.fan.isFault = false →
      (estimated r h s).thermal.hotCause = .sensor) ∧
    ((periodComputation r h s).thermal.sensor.isFault = false → s.thermal.fan.isFault = true →
      (estimated r h s).thermal.hotCause = .fan) ∧
    ((periodComputation r h s).thermal.sensor.isFault = true → s.thermal.fan.isFault = true →
      (estimated r h s).thermal.hotCause = .sensor ∨ (estimated r h s).thermal.hotCause = .fan) := by
  obtain ⟨-, -, sensor⟩ := period_kept r h s
  obtain ⟨fan, -⟩ := estimated_kept r h s
  rw [sensor, ← fan]
  exact Thermal.hotCause_spec

/-! ### The fan (R107) -/

section

variable {s}

theorem period_fan_of_good {run : Nat} (fan : s.thermal.fan = .good run) : (periodComputation r h s).thermal.fan =
    if ((periodComputation r h s).thermal.profile.floor ≤ s.thermal.duty ∧ s.thermal.duty ≠ 0) ∧
      (100 < s.thermal.tachSilence ∨ ∃ us, s.thermal.tachInterval = some us ∧ 100000 < us) then
      (if run + 1 < 8 then .good (run + 1) else .fault 0 0)
    else .good 0 := by
  rw [period_fan, fan, FanState.move_good]
  simp only [Thermal.driven_iff, Thermal.tachSlow_iff]

theorem period_fan_of_fault {time run : Nat} (fan : s.thermal.fan = .fault time run) :
    (periodComputation r h s).thermal.fan =
    if ¬((periodComputation r h s).thermal.profile.floor ≤ s.thermal.duty ∧ s.thermal.duty ≠ 0) then .fault time run
    else if 100 < s.thermal.tachSilence ∨ ∃ us, s.thermal.tachInterval = some us ∧ 100000 < us then
      .fault (min 40 (time + 1)) 0
    else if run + 1 < 8 then .fault time (run + 1) else .good 0 := by
  rw [period_fan, fan, FanState.move_fault]
  simp only [← Bool.not_eq_true, Thermal.driven_iff, Thermal.tachSlow_iff]

/-- R107: a fan that was good and is in FAULT has raised FAN_FAULT. -/
theorem period_fan_fault_noticed {run time good : Nat} (before : s.thermal.fan = .good run)
    (after : (periodComputation r h s).thermal.fan = .fault time good) :
    (periodComputation r h s).link.notices[(15 : Fin 30)] =
      { arg := some (.fanFault s.thermal.speed), mark := true } := by
  rw [period_notice_fan, if_pos]
  rw [before, after]
  exact ⟨rfl, rfl⟩

end

/-! ### The report and the duty (R79, R103 to R105) -/

theorem period_report : (periodComputation r h s).lamp.checkDone = true ∧
    (periodComputation r h s).lamp.bandView = (periodComputation r h s).thermal.band ∧
    (periodComputation r h s).lamp.coolFlag = (periodComputation r h s).thermal.coolFlag ∧
    (periodComputation r h s).lamp.appliedCap =
      nextAppliedCap s.lamp.appliedCap (periodComputation r h s).thermal.namedCap := by
  obtain ⟨check, cap⟩ := decided_kept r h s
  rw [period_lamp, period_thermal, ← cap]
  exact ⟨check, rfl, rfl, rfl⟩

theorem period_snapshot : (periodComputation r h s).thermal.snapshot.est = (periodComputation r h s).thermal.est ∧
    (periodComputation r h s).thermal.snapshot.band = (periodComputation r h s).thermal.band ∧
    (periodComputation r h s).thermal.snapshot.raw = r.toNat ∧
    (periodComputation r h s).thermal.snapshot.count = (periodComputation r h s).thermal.count ∧
    (periodComputation r h s).thermal.snapshot.active = (periodComputation r h s).thermal.active ∧
    (periodComputation r h s).thermal.snapshot.namedCap = (periodComputation r h s).thermal.namedCap := by
  rw [periodComputation_eq]
  exact ⟨rfl, rfl, rfl, rfl, rfl, rfl⟩

/-- R104, R105: the duty of a struck, lit or failed lamp is the slewed demand, at the floor at least. -/
theorem period_duty_of_active {s : State} (done : s.lamp.checkDone = true)
    (band : (periodComputation r h s).thermal.band ≠ .trip)
    (sensor : (periodComputation r h s).thermal.sensor.isFault = false)
    (state : s.lamp.active = true ∨ s.lamp.state = .failed) :
    (periodComputation r h s).thermal.duty = max (periodComputation r h s).thermal.profile.floor
      (slewedDuty (periodComputation r h s).thermal.profile.slew s.thermal.duty
        (periodComputation r h s).thermal.demand) ∧
    (periodComputation r h s).lamp.state = s.lamp.state := by
  obtain ⟨off, cool⟩ := not_off_or_cooldown state
  obtain ⟨kept, duty⟩ := period_duty r h done band cool
  obtain ⟨-, -, slewed⟩ := Thermal.newDuty_of_lamp (lamp := s.lamp.state) (duty := s.thermal.duty) band sensor
  exact ⟨duty.trans (slewed off cool), kept⟩

theorem period_duty_of_off {s : State} (done : s.lamp.checkDone = true)
    (band : (periodComputation r h s).thermal.band ≠ .trip)
    (sensor : (periodComputation r h s).thermal.sensor.isFault = false) (off : s.lamp.state = .off) :
    (periodComputation r h s).thermal.duty = 0 ∧ (periodComputation r h s).lamp.state = .off := by
  obtain ⟨kept, duty⟩ := period_duty r h done band (by simp [off])
  obtain ⟨zero, -, -⟩ := Thermal.newDuty_of_lamp (lamp := s.lamp.state) (duty := s.thermal.duty) band sensor
  exact ⟨duty.trans (zero off), kept.trans off⟩

/-- Settles O35: each clause is one of the rules above, for the state that `periodComputation` gives. -/
theorem periodsDecideTheBand : Obligations.PeriodsDecideTheBand := by
  unfold Obligations.PeriodsDecideTheBand
  intro s r h sampled handed
  obtain ⟨checkDone, bandView, coolFlag, appliedCap⟩ := period_report r h s
  refine ⟨periodComputation r h s, ?ran, fun cause => ?trips, fun noCause => ?moves, period_notice_warn r h s,
    fun kept => ?hotKept, fun before after => ?hotRaised,
    ⟨fun run fan => ?good, fun time run fan => ?fault, fun kept => ?fanKept⟩,
    ⟨checkDone, fun first off => ⟨fun hot time => ?hotStart, fun good cold => ?coldStart⟩⟩, ?cap, bandView,
    coolFlag.trans (Thermal.coolFlag_eq _), appliedCap.trans (nextAppliedCap_eq _ _), period_duty_full r h s,
    fun band sensor done => ⟨period_duty_of_off r h done band sensor, period_duty_of_active r h done band sensor⟩,
    period_snapshot r h s⟩
  case ran =>
    show execPeriodComputation s = _
    simp only [execPeriodComputation, sampled, handed]
  case trips =>
    have trip := period_band_of_cause r h s ((period_tripCause_iff r h s).mpr cause)
    refine ⟨trip, fun before done active time => ?_⟩
    obtain ⟨state, noticed⟩ := period_trips r h done before trip active time
    exact ⟨state, period_duty_full r h s (.inl trip), noticed⟩
  case moves =>
    rw [← period_tripCause_iff] at noCause
    exact ⟨period_band_of_normal noCause, period_band_of_warm noCause, period_band_of_hot noCause,
      period_band_of_trip noCause⟩
  case hotKept =>
    refine (period_notice_hot r h s).trans (if_neg fun ⟨before, after⟩ => ?_)
    exact kept.elim before fun other => other after
  case hotRaised =>
    exact ⟨_, (period_notice_hot r h s).trans (if_pos ⟨before, after⟩), period_hotCause_spec r h s⟩
  case good =>
    have moved := period_fan_of_good r h fan
    refine ⟨fun driven slow short => ?_, fun driven slow long => ?_, fun fine => moved.trans (if_neg fine)⟩
    · rw [moved, if_pos ⟨driven, slow⟩, if_pos short]
    · rw [if_pos ⟨driven, slow⟩, if_neg (Nat.not_lt.mpr long)] at moved
      exact ⟨moved, period_fan_fault_noticed r h fan moved⟩
  case fault =>
    have moved := period_fan_of_fault r h fan
    refine ⟨fun idle => moved.trans (if_pos idle), fun driven slow => ?_, fun driven fine => ?_⟩
    · rw [moved, if_neg (not_not.mpr driven), if_pos slow]
    · rw [moved, if_neg (not_not.mpr driven), if_neg fine]
  case fanKept =>
    refine (period_notice_fan r h s).trans (if_neg fun ⟨before, after⟩ => ?_)
    exact kept.elim (fun fault => by simp [before] at fault) fun sound => by simp [sound] at after
  case hotStart => exact period_checks_hot r h first ((checkCode_hot_iff _ _).mpr hot) time
  case coldStart =>
    refine period_checks_cold r h first off (mt (checkCode_hot_iff _ _).mp ?_)
    exact not_or.mpr ⟨good, Int.not_le.mpr cold⟩
  case cap =>
    refine (period_namedCap r h s).trans ?_
    cases (periodComputation r h s).thermal.band <;> rfl

end Sys2Proof.Machine
end

section
/-! PROOFS. The sample of a period and the estimate formed of it (O34), and the records of the Thermal Unit that the host
and the sensors write (O33). -/

namespace Sys2Proof.Machine

/-! ### Samples and the sensor state (R89 to R91) -/

theorem sampleBad_iff (r : Sample) : sampleBad r = true ↔ r.toNat ≤ 15 ∨ 4080 ≤ r.toNat := by simp [sampleBad]

/-- R90: a good sample out of FAULT is used, and makes the state GOOD. -/
theorem SensorState.good_sample {old : SensorState} (sound : old.isFault = false) :
    old.uses false = true ∧ old.move false = .good := by
  cases old with
  | good | suspect => exact ⟨rfl, rfl⟩
  | fault => cases sound

theorem SensorState.uses_bad (old : SensorState) : old.uses true = false := by cases old <;> rfl

/-- R91: a good sample in FAULT that does not end its run yet. -/
theorem SensorState.good_sample_short {time run : Nat} (short : run + 1 < 4) :
    (SensorState.fault time run).uses false = false ∧
    (SensorState.fault time run).move false = .fault (min 80 (time + 1)) (run + 1) :=
  ⟨decide_eq_false (Nat.not_le.mpr short), if_pos short⟩

/-- R91: the fourth good sample of a run ends the FAULT. -/
theorem SensorState.good_sample_long {time run : Nat} (long : 4 ≤ run + 1) :
    (SensorState.fault time run).uses false = true ∧ (SensorState.fault time run).move false = .good :=
  ⟨decide_eq_true long, if_neg (Nat.not_lt.mpr long)⟩

/-- R93: a line filled while there is none, and at the end of a fault. -/
theorem nextLine_fill {old : SensorState} {line : Option (Vector Int 8)} (theta : Int)
    (fill : line = none ∨ old.isFault = true) : nextLine old line theta = some (fillLine theta) := by
  cases line with
  | none => rfl
  | some x => simp [nextLine, fill.resolve_left]

theorem nextLine_shift {old : SensorState} (x : Vector Int 8) (theta : Int) (sound : old.isFault = false) :
    nextLine old (some x) theta = some (shiftLine x theta) := by simp [nextLine, sound]

/-! ### The estimate (R94, R95) -/

/-- R94, R95: the Thermal Unit stands with this line and the estimate formed of it, under its active profile. -/
def Thermal.Formed (light duty : Nat) (line : Vector Int 8) (t : Thermal) : Prop :=
  let y := scaled t.profile.q (accumulator t.profile line light duty)
  t.line = some line ∧ t.est = estimateOf y ∧ (t.saturated = true ↔ y < -32768 ∨ 32767 < y)

theorem saturates_iff (y : Int) : saturates y = true ↔ y < -32768 ∨ 32767 < y := by simp [saturates]

theorem estimateStage_formed {s : State} {line : Vector Int 8} (light duty : Nat) (stands : s.thermal.line = some line) :
    (estimateStage true light duty s).thermal.Formed light duty line := by
  have formed : estimateStage true light duty s =
      let y := scaled s.thermal.profile.q (accumulator s.thermal.profile line light duty)
      raiseIf (saturates y) (.saturated s.thermal.count)
        (s.onThermal fun t => { t with est := estimateOf y, saturated := saturates y }) := by
    simp only [estimateStage, stands]
    rfl
  rw [formed, Thermal.Formed, raiseIf_thermal]
  exact ⟨stands, rfl, saturates_iff _⟩

theorem estimateStage_unused (light duty : Nat) (s : State) :
    estimateStage false light duty s = s.onThermal fun t => { t with saturated := false } := rfl

/-! ### What a period computation makes of its sample -/

/-- R89, R92: the temperature code of a sample. -/
def sampleCode (cal : Calibration) (r : Sample) : Int := tempCode cal (corrected cal r)

section

variable (r : Sample) (h : Handover) (s : State)

/-- The sample's code goes into the line exactly where the sample is used. -/
theorem estimated_formed {line : Vector Int 8} (used : s.thermal.sensor.uses (sampleBad r) = true)
    (next : nextLine s.thermal.sensor s.thermal.line (sampleCode s.thermal.cal r) = some line) :
    (estimated r h s).thermal.Formed h.p s.thermal.duty line := by
  have stands : (sampleStage r (sampleCode s.thermal.cal r)
      (s.onThermal fun t => { t.activate with sample := none, handover := none })).thermal.line = some line := by
    rw [sampleStage_thermal]
    exact (if_pos used).trans next
  have stage := estimateStage_formed h.p s.thermal.duty stands
  rwa [← used] at stage

theorem estimated_unused (unused : s.thermal.sensor.uses (sampleBad r) = false) :
    (estimated r h s).thermal.line = s.thermal.line ∧ (estimated r h s).thermal.est = s.thermal.est ∧
    (estimated r h s).thermal.saturated = false := by
  have unused' : (s.onThermal fun t => { t.activate with sample := none, handover := none }).thermal.sensor.uses
      (sampleBad r) = false := unused
  simp only [estimated]
  rw [unused', estimateStage_unused, State.onThermal_thermal, sampleStage_thermal]
  exact ⟨if_neg (ne_true_of_eq_false unused), rfl, rfl⟩

/-- The stages after the estimate leave the delay line and the saturation mark. -/
theorem period_kept_line : (periodComputation r h s).thermal.line = (estimated r h s).thermal.line ∧
    (periodComputation r h s).thermal.saturated = (estimated r h s).thermal.saturated := by
  rw [period_thermal, decided_thermal]
  exact ⟨rfl, rfl⟩

/-- R93 to R95: a used sample's line and the estimate formed of it stand after the period. -/
theorem period_formed {line : Vector Int 8} (used : s.thermal.sensor.uses (sampleBad r) = true)
    (next : nextLine s.thermal.sensor s.thermal.line (sampleCode s.thermal.cal r) = some line) :
    (periodComputation r h s).thermal.Formed h.p s.thermal.duty line := by
  obtain ⟨profile, est, -⟩ := period_kept r h s
  obtain ⟨stands, saturated⟩ := period_kept_line r h s
  rw [Thermal.Formed, stands, est, saturated, profile]
  exact estimated_formed r h s used next

theorem period_unused (unused : s.thermal.sensor.uses (sampleBad r) = false) :
    (periodComputation r h s).thermal.line = s.thermal.line ∧ (periodComputation r h s).thermal.est = s.thermal.est ∧
    (periodComputation r h s).thermal.saturated = false := by
  obtain ⟨-, est, -⟩ := period_kept r h s
  obtain ⟨stands, saturated⟩ := period_kept_line r h s
  rw [stands, est, saturated]
  exact estimated_unused r h s unused

theorem period_sensor : (periodComputation r h s).thermal.sensor = s.thermal.sensor.move (sampleBad r) := by
  obtain ⟨-, -, sensor⟩ := period_kept r h s
  rw [sensor, estimated_thermal]

/-- R87, R100: the sample and the hand-over are spent, the pending profile is active, the records stand. -/
theorem period_records :
    (periodComputation r h s).thermal.sample = none ∧ (periodComputation r h s).thermal.handover = none ∧
    (periodComputation r h s).thermal.cal = s.thermal.cal ∧
    (periodComputation r h s).thermal.profiles = s.thermal.profiles ∧
    (periodComputation r h s).thermal.next = none ∧
    (periodComputation r h s).thermal.active = s.thermal.next.getD s.thermal.active ∧
    (periodComputation r h s).thermal.count = min 4294967295 (s.thermal.count + 1) := by
  rw [period_thermal, decided_thermal, estimated_thermal]
  exact ⟨rfl, rfl, rfl, rfl, rfl, rfl, rfl⟩

/-- A period computation touches the lamp, the Thermal Unit and the Panel Link alone. -/
theorem period_eq : periodComputation r h s =
    { s with
      lamp := (periodComputation r h s).lamp
      thermal := (periodComputation r h s).thermal
      link := (periodComputation r h s).link } := by
  obtain ⟨changer, drive, tape, cue, remote, bus, pending⟩ := periodComputation_frame r h s
  rw [← changer, ← drive, ← tape, ← cue, ← remote, ← bus, ← pending]

/-! ### The notice of a sensor fault -/

theorem bandStage_notice_other (cd : Bool) (s : State) {i : Fin 30} (trip : i ≠ 10) (warn : i ≠ 12) (hot : i ≠ 13) :
    (bandStage cd s).link.notices[i] = s.link.notices[i] := by
  rw [bandStage_eq, bandEntered_eq]
  split
  · exact lampTrip_notice_other _ trip
  · exact (raiseIf_notice_other _ (.thermWarn _) _ warn).trans (raiseIf_notice_other _ (.thermHot _ _) _ hot)

/-- R90: a second bad sample in a row raises SENSOR_FAULT, which no later stage replaces. -/
theorem period_notice_sensor (suspect : s.thermal.sensor = .suspect) (bad : sampleBad r = true) :
    (periodComputation r h s).link.notices[(14 : Fin 30)] = { arg := some (.sensorFault r.toNat), mark := true } := by
  rw [period_notice_of_band r h s (by decide), bandStage_notice_other _ _ (by decide) (by decide) (by decide)]
  refine (estimateStage_notice _ _ _ _ (by decide)).trans ?_
  have link (theta : Int) (u : State) : (startUpCheck theta u).link = u.link := by simp
  rw [sampleStage_eq, link]
  refine (raiseIf_notice_same _ (.sensorFault _) _).trans (if_pos ?_)
  simp [Thermal.activate, suspect, bad]

end

theorem execPeriodComputation_waits {s : State} (short : s.thermal.sample = none ∨ s.thermal.handover = none) :
    execPeriodComputation s = .next s := by
  unfold execPeriodComputation
  rcases short with missing | missing <;> rw [missing]
  cases s.thermal.sample <;> rfl

theorem execPeriodComputation_ready {r : Sample} {h : Handover} {s : State} (sampled : s.thermal.sample = some r)
    (handed : s.thermal.handover = some h) : execPeriodComputation s = .next (periodComputation r h s) := by
  simp only [execPeriodComputation, sampled, handed]

/-- Settles O34: by the sensor state and the class of the sample, which decide whether it is used. -/
theorem periodsTakeTheSample : Obligations.PeriodsTakeTheSample := by
  unfold Obligations.PeriodsTakeTheSample
  intro s
  refine ⟨execPeriodComputation_waits, fun r h sampled handed => ?_⟩
  obtain ⟨sample, handover, cal, profiles, next, active, count⟩ := period_records r h s
  have sensor := period_sensor r h s
  have formed {line : Vector Int 8} := period_formed r h s (line := line)
  have unused := period_unused r h s
  refine ⟨periodComputation r h s, execPeriodComputation_ready sampled handed, period_eq r h s, sample, handover, cal,
    profiles, next, active, count, ?_⟩
  intro bad _ theta kept entered
  have good (fine : ¬bad) : sampleBad r = false := eq_false_of_ne_true (mt (sampleBad_iff r).mp fine)
  have spoilt (off : bad) : sampleBad r = true := (sampleBad_iff r).mpr off
  have keeps (off : bad) : kept := unused (by rw [spoilt off, SensorState.uses_bad])
  refine ⟨fun old was sound => ⟨fun fine => ?sound_good, fun off => ⟨keeps off, ?good_bad, ?suspect_bad⟩⟩,
    fun time run was => ⟨fun off => ⟨keeps off, ?fault_bad⟩, fun fine short => ?fault_short,
      fun fine long => ?fault_long⟩⟩
  case sound_good =>
    obtain ⟨used, moved⟩ := SensorState.good_sample sound
    rw [good fine, was] at sensor formed
    refine ⟨sensor.trans moved, fun unfilled => formed used (nextLine_fill theta (.inl unfilled)), fun x stands => ?_⟩
    exact formed used (stands ▸ nextLine_shift x theta sound)
  case good_bad =>
    rintro rfl
    rw [sensor, was, spoilt off]
    rfl
  case suspect_bad =>
    rintro rfl
    refine ⟨?_, period_notice_sensor r h s was (spoilt off)⟩
    rw [sensor, was, spoilt off]
    rfl
  case fault_bad =>
    rw [sensor, was, spoilt off]
    rfl
  case fault_short =>
    obtain ⟨skipped, moved⟩ := SensorState.good_sample_short (time := time) short
    rw [good fine, was] at sensor unused
    exact ⟨unused skipped, sensor.trans moved⟩
  case fault_long =>
    obtain ⟨used, moved⟩ := SensorState.good_sample_long (time := time) long
    rw [good fine, was] at sensor formed
    exact ⟨sensor.trans moved, formed used (nextLine_fill theta (.inr rfl))⟩

/-! ### The records and the events (O33) -/

theorem profileIndex_val (p : Fin 8) : profileIndex p.val = some p := dif_pos p.isLt

theorem profileIndex_beyond {p : Nat} (h : 8 ≤ p) : profileIndex p = none := dif_neg (Nat.not_lt.mpr h)

theorem calibrationInRange_iff (offset : Int) (gain : Nat) (zero : Int) : calibrationInRange offset gain zero = true ↔
    -512 ≤ offset ∧ offset ≤ 511 ∧ gain ≤ 16383 ∧ -320 ≤ zero ∧ zero ≤ 320 := by
  simp [calibrationInRange, and_assoc]

/-- R88: the calibration by its range, written whole or not at all. -/
theorem execWriteCalibration_eq {offset zero : Int} {gain : Nat} {s : State}
    (ha : s.link.accepts (.writeCalibration offset gain zero) = true) :
    execWriteCalibration offset gain zero s = .next (
      if -512 ≤ offset ∧ offset ≤ 511 ∧ gain ≤ 16383 ∧ -320 ≤ zero ∧ zero ≤ 320 then
        let cal : Calibration := { offset := offset, gain := gain, zero := zero }
        respond 21 .done (calibrationBytes cal) (s.onThermal fun t => { t with cal := cal })
      else respond 21 .badValue [] s) := by
  rw [execWriteCalibration, hostRequest_of_accepts _ _ _ ha]
  simp only [calibrationInRange_iff]
  split <;> rfl

/-- R97: the Profile Store with one profile written. -/
def Thermal.writeProfile (p : Fin 8) (v : ProfileValues) (t : Thermal) : Thermal :=
  { t with profiles := t.profiles.set p.val (Profile.ofValues v) p.isLt }

theorem Thermal.writeProfile_same (p : Fin 8) (v : ProfileValues) (t : Thermal) :
    (t.writeProfile p v).profiles[p] = Profile.ofValues v := by simp [Thermal.writeProfile]

theorem Thermal.writeProfile_other {p q : Fin 8} (v : ProfileValues) (t : Thermal) (h : q ≠ p) :
    (t.writeProfile p v).profiles[q] = t.profiles[q] :=
  Vector.getElem_set_ne p.isLt q.isLt fun same => h (Fin.ext same.symm)

/-- R97: WRITE PROFILE by the profile's use and then by its values. -/
theorem execWriteProfile_eq {p : Fin 8} {v : ProfileValues} {s : State}
    (ha : s.link.accepts (.writeProfile p.val v) = true) : execWriteProfile p.val v s = .next (
      if p = s.thermal.active ∨ some p = s.thermal.next then respond 23 .inUse [] s
      else if profileValuesInRange v then
        respond 23 .done (profileBytes (s.thermal.writeProfile p v) p) (s.onThermal (Thermal.writeProfile p v))
      else respond 23 .badValue [] s) := by
  rw [execWriteProfile, hostRequest_of_accepts _ _ _ ha]
  simp only [profileIndex_val]
  (repeat' split) <;> rfl

theorem execWriteProfile_badIndex {p : Nat} {v : ProfileValues} {s : State} (beyond : 8 ≤ p)
    (ha : s.link.accepts (.writeProfile p v) = true) :
    execWriteProfile p v s = .next (respond 23 .badIndex [] s) := by
  rw [execWriteProfile, hostRequest_of_accepts _ _ _ ha]
  simp only [profileIndex_beyond beyond]
  rfl

theorem execSelectProfile_badIndex {p : Nat} {s : State} (beyond : 8 ≤ p)
    (ha : s.link.accepts (.selectProfile p) = true) :
    execSelectProfile p s = .next (respond 25 .badIndex [] s) := by
  rw [execSelectProfile, hostRequest_of_accepts _ _ _ ha, offerProfile, profileIndex_beyond beyond]
  rfl

/-- R99: SELECT PROFILE by the profile's validity. -/
theorem execSelectProfile_eq {p : Fin 8} {s : State} (ha : s.link.accepts (.selectProfile p.val) = true) :
    execSelectProfile p.val s = .next (
      if s.thermal.profiles[p].valid = false then respond 25 .badValue [] s
      else respond 25 .done []
        (s.onThermal fun t => { t with next := if p = t.active then none else some p })) := by
  rw [execSelectProfile, hostRequest_of_accepts _ _ _ ha, offerProfile, profileIndex_val]
  simp only
  split <;> rfl

/-- Settles O33: each request by its checks in order, and the two events as one update each. -/
theorem thermalRecordsAreWritten : Obligations.ThermalRecordsAreWritten := by
  unfold Obligations.ThermalRecordsAreWritten
  intro s
  refine ⟨fun offset gain zero ha => ⟨fun good => ?_, fun wrong => ?_⟩,
    fun p beyond => ⟨fun v ha => execWriteProfile_badIndex beyond ha, fun ha => execSelectProfile_badIndex beyond ha⟩,
    fun p v ha => ⟨fun used => ?_, fun active next wrong => ?_, fun active next good =>
      ⟨s.onThermal (Thermal.writeProfile p v), ?_, rfl, Thermal.writeProfile_same p v _,
        fun q other => Thermal.writeProfile_other v _ other⟩⟩,
    fun p ha => ⟨fun invalid => ?_, fun valid => ?_⟩, fun r => rfl, fun us => rfl⟩
  · exact (execWriteCalibration_eq ha).trans (by rw [if_pos good]; rfl)
  · exact (execWriteCalibration_eq ha).trans (by rw [if_neg wrong])
  · exact (execWriteProfile_eq ha).trans (by rw [if_pos used])
  · exact (execWriteProfile_eq ha).trans (by rw [if_neg (not_or.mpr ⟨active, next⟩), if_neg (by simp [wrong])])
  · exact (execWriteProfile_eq ha).trans (by rw [if_neg (not_or.mpr ⟨active, next⟩), if_pos good]; rfl)
  · exact (execSelectProfile_eq ha).trans (by rw [if_pos invalid])
  · exact (execSelectProfile_eq ha).trans (by rw [if_neg (ne_false_of_eq_true valid)]; rfl)

end Sys2Proof.Machine
end

section
/-! SUPPORT. What the tape requests of all sources, the cassette, the timers and the sound settings do to the transport:
a law that the entries to the transport states keep is kept by all of them. -/

namespace Sys2Proof.Machine

/-- R111, R117: the transport state, and which of the run-down and the two timers run. -/
def Tape.timerView (t : Tape) : Transport × Bool × Bool × Bool :=
  (t.transport, t.runDown.isSome, t.endTimer.isSome, t.reelTimer.isSome)

theorem Tape.duckSettings_timerView (d sw : Nat) (t : Tape) : (t.duckSettings d sw).timerView = t.timerView := by
  have depth : (t.setDepth d).timerView = t.timerView := by
    simp only [Tape.setDepth]
    split <;> rfl
  unfold Tape.duckSettings
  split <;> exact depth

theorem arriveSound_timerView (r : SlotRecord) (t : Tape) : (arriveSound r t).timerView = t.timerView := by
  unfold arriveSound
  split
  · rfl
  · unfold Tape.soundTarget
    split <;> rfl

theorem Tape.tick_timerView (t : Tape) : t.stepBase.stepDuck.timerView = t.timerView := by
  have base (t : Tape) : t.stepBase.timerView = t.timerView := by
    unfold Tape.stepBase
    split <;> rfl
  have duck (t : Tape) : t.stepDuck.timerView = t.timerView := by
    unfold Tape.stepDuck
    split <;> rfl
  rw [duck, base]

theorem Dir.winding_winding (d : Dir) : d.winding.winding = true := by cases d <;> rfl

/-- R118: the state a removed cassette leaves, before its notice. -/
def cassetteGone (s : State) : State := (setTransport .noTape s).onTape fun t =>
  { t with runDown := none, endTimer := none, reelTimer := none, counter := 0, sure := false, residue := 0 }

theorem execCassetteRemoval_eq {s : State} (h : s.tape.transport ≠ .noTape) : execCassetteRemoval s = .next
    (if s.tape.transport = .stopped then cassetteGone s
     else raise (.tapeEnd .removed s.tape.transport s.tape.counter) (cassetteGone s)) := by
  simp only [execCassetteRemoval, if_neg h]
  rfl

/-- A law of the transport and of the Cue Unit behind its gate that every change of the transport state keeps. -/
structure KeptByTransport (P : State → Prop) : Prop where
  reads : ReadsOnly P [.tape, .cue]
  play : ∀ s, P s → P (enterPlaying s)
  wind : ∀ w s, w.winding = true → P s → P (enterWinding w s)
  pause : ∀ s, s.tape.transport = .playing → P s → P (enterPaused s)
  stop : ∀ r s, P s → P (enterStopped r s)
  pending : ∀ n s, P s → P (setPendingMotion n s)
  ended : ∀ s, P s → P (s.onTape fun t => { t with runDown := none })
  gone : ∀ s, P s → P (cassetteGone s)
  pulse : ∀ s, s.tape.transport = .playing → P s →
    P (s.onTape fun t => { t.countPulse with endTimer := some Config.tapeEndMs })
  reel : ∀ s, s.tape.transport.winding = true → P s →
    P (s.onTape fun t => { t with reelTimer := some Config.tapeEndMs })
  sound : ∀ f s, (∀ t, (f t).timerView = t.timerView) → P s → P (s.onTape f)

namespace KeptByTransport

variable {P : State → Prop} (K : KeptByTransport P)
include K

theorem same {s t : State} (hs : P s) (tape : t.tape = s.tape := by simp) (cue : t.cue = s.cue := by simp) : P t :=
  K.reads s t (by simp [Block.same, tape, cue]) hs

/-! ### The tape requests (R112 to R116) -/

theorem offerTapePlay {s : State} (hs : P s) : P (offerTapePlay s).1 := by
  unfold Machine.offerTapePlay
  split
  case h_2 =>
    simp only [taken_state]
    split
    · exact K.pending _ s hs
    · exact K.play s hs
  case h_3 => exact K.play s hs
  all_goals exact hs

theorem offerTapePause {s : State} (hs : P s) : P (offerTapePause s).1 := by
  unfold Machine.offerTapePause
  split
  case h_2 playing => exact K.pause s playing hs
  all_goals exact hs

theorem offerTapeStop {s : State} (hs : P s) : P (offerTapeStop s).1 := by
  unfold Machine.offerTapeStop
  split
  case h_1 => exact hs
  case h_6 =>
    split
    · exact K.pending _ s hs
    · exact hs
  all_goals exact K.stop _ s hs

theorem offerTapeWind (d : Dir) {s : State} (hs : P s) : P (offerTapeWind d s).1 := by
  unfold Machine.offerTapeWind
  split
  case h_2 =>
    simp only [taken_state]
    split
    · exact K.pending _ s hs
    · exact K.wind _ s d.winding_winding hs
  case h_3 => exact K.wind _ s d.winding_winding hs
  case h_5 | h_6 =>
    simp only [taken_state]
    split
    · exact hs
    · exact K.stop _ s hs
  all_goals exact hs

theorem applyTapeMark (m : TapeMark) {s : State} (hs : P s) : P (applyTapeMark m s) := by
  cases m with
  | none => exact hs
  | play => exact K.offerTapePlay hs
  | pause => exact K.offerTapePause hs

theorem tapeResetTransport {s : State} (hs : P s) : P (tapeResetTransport s) := by
  unfold Machine.tapeResetTransport
  split
  case h_1 => exact hs
  case h_2 => exact K.pending _ s hs
  all_goals exact K.stop _ s hs

/-! ### The keys, the cue actions and the arrival -/

theorem offerKey (src : Source) (key : Nat) (args : List Nat) {s : State} (hs : P s) : P (offerKey src key args s).1 := by
  unfold Machine.offerKey
  split
  case h_9 | h_10 | h_11 | h_12 => exact K.sound _ s (fun _ => rfl) hs
  case h_13 => exact K.offerTapePlay hs
  case h_14 => exact K.offerTapePause hs
  all_goals exact K.same hs

theorem offerAction (n : Nat) (a : CueAction) {s : State} (hs : P s) : P (offerAction n a s).1 := by
  cases a with
  | gain g => exact K.sound _ s (fun _ => rfl) hs
  | duck on => exact K.sound _ s (fun _ => rfl) hs
  | tapePause => exact K.offerTapePause hs
  | _ => exact K.same hs (by simp [Machine.offerAction]) (by simp [Machine.offerAction])

/-- R38: of an arrival only the tape mark and the sound target are a matter of the tape. -/
theorem slideFound (slot : Nat) (isStep : Bool) {s : State} (hs : P s) : P (slideFound slot isStep s) := by
  let r := (found slot s).changer.slot slot
  have marked : P (Machine.applyTapeMark r.tapeMark (found slot s)) := K.applyTapeMark _ (K.same hs rfl rfl)
  have sounded := K.sound (arriveSound r) _ (arriveSound_timerView r) marked
  simp only [slideFound_eq]
  split <;> exact K.same sounded (by simp [arrive, r]) (by simp [arrive, r])

theorem settleEnd {s : State} (hs : P s) : P (settleEnd s) := by
  simp only [Machine.settleEnd]
  split
  · exact hs
  · split
    · exact K.slideFound _ _ hs
    · exact K.same hs

/-! ### The commands -/

theorem hostRequest_keeps {c : Instr} {owner : State → Reply} {s t : State} (h : hostRequest c owner s = .next t)
    (hs : P s) (ho : P (owner s).state) : P t :=
  K.reads.hostRequest_keeps h hs ho

theorem tapeWind {dir : Nat} {s t : State} (h : execTapeWind dir s = .next t) (hs : P s) : P t := by
  refine K.hostRequest_keeps h hs ?_
  split
  · exact hs
  · exact K.offerTapeWind _ hs

theorem setTapePosition {v : Nat} {s t : State} (h : execSetTapePosition v s = .next t) (hs : P s) : P t := by
  refine K.hostRequest_keeps h hs ?_
  have set : P (s.onTape (Tape.setPosition v)) := K.sound _ s (fun _ => rfl) hs
  (repeat' split) <;> first | exact hs | exact set

theorem setGain {a : Nat} {s t : State} (h : execSetGain a s = .next t) (hs : P s) : P t := by
  refine K.hostRequest_keeps h hs ?_
  split
  · exact K.sound _ s (fun _ => rfl) hs
  · exact hs

theorem setDuckDepth {depth sw : Nat} {s t : State} (h : execSetDuckDepth depth sw s = .next t) (hs : P s) : P t := by
  refine K.hostRequest_keeps h hs ?_
  split
  · exact K.sound _ s (Tape.duckSettings_timerView depth sw) hs
  · exact hs

theorem setMute {on : Nat} {s t : State} (h : execSetMute on s = .next t) (hs : P s) : P t := by
  refine K.hostRequest_keeps h hs ?_
  split
  · exact hs
  · exact K.sound _ s (fun _ => rfl) hs

theorem cassetteRemoval {s t : State} (h : execCassetteRemoval s = .next t) (hs : P s) : P t := by
  by_cases absent : s.tape.transport = .noTape
  · simp only [execCassetteRemoval, if_pos absent] at h
    cases h
    exact hs
  · rw [execCassetteRemoval_eq absent] at h
    cases h
    split
    · exact K.gone s hs
    · exact K.same (K.gone s hs)

theorem runDownEnd {s t : State} (h : execRunDownEnd s = .next t) (hs : P s) : P t := by
  unfold execRunDownEnd at h
  split at h
  · split at h <;> cases h
    · exact K.ended s hs
    · exact K.play s hs
    · exact K.wind _ s rfl hs
    · exact K.wind _ s rfl hs
  · cases h
    exact hs

theorem rampEnds {s t : State} (h : execBaseRampEnd s = .next t ∨ execDuckRampEnd s = .next t) (hs : P s) : P t := by
  unfold execBaseRampEnd execDuckRampEnd at h
  rcases h with h | h <;> (repeat' split at h) <;> cases h <;>
    first | exact hs | exact K.sound _ s (fun _ => rfl) hs

end KeptByTransport

/-- The commands of the transport, the sound and the arrival at a slide. -/
def runsTape : Instr → Bool
  | .tapePlay => true
  | .tapePause => true
  | .tapeStop => true
  | .tapeWind _ => true
  | .setTapePosition _ => true
  | .setGain _ => true
  | .setDuckDepth _ _ => true
  | .setMute _ => true
  | .settleEnd => true
  | .cassetteRemoval => true
  | .cassetteInsertion => true
  | .runDownEnd => true
  | .capstanPulse => true
  | .reelPulse => true
  | .tapeEndTimeout => true
  | .reelTimeout => true
  | .soundTick => true
  | .baseRampEnd => true
  | .duckRampEnd => true
  | _ => false

theorem KeptByTransport.exec_keeps {P : State → Prop} (K : KeptByTransport P) {c : Instr} {s t : State}
    (h : exec c s = .next t) (hc : runsTape c = true) (hs : P s) : P t := by
  cases c with
  | tapePlay => exact K.hostRequest_keeps (show execTapePlay s = _ from h) hs (K.offerTapePlay hs)
  | tapePause => exact K.hostRequest_keeps (show execTapePause s = _ from h) hs (K.offerTapePause hs)
  | tapeStop => exact K.hostRequest_keeps (show execTapeStop s = _ from h) hs (K.offerTapeStop hs)
  | tapeWind dir => exact K.tapeWind h hs
  | setTapePosition v => exact K.setTapePosition h hs
  | setGain a => exact K.setGain h hs
  | setDuckDepth depth sw => exact K.setDuckDepth h hs
  | setMute on => exact K.setMute h hs
  | settleEnd => exact keeps_of_guarded (P := P) h hs fun _ => K.settleEnd (K.same hs)
  | cassetteRemoval => exact K.cassetteRemoval h hs
  | cassetteInsertion => exact keeps_of_guarded (P := P) h hs fun _ => K.stop none s hs
  | runDownEnd => exact K.runDownEnd h hs
  | capstanPulse => exact keeps_of_guarded (P := P) h hs fun playing => K.pulse s playing hs
  | reelPulse => exact keeps_of_guarded (P := P) h hs fun winding => K.reel s winding hs
  | tapeEndTimeout => exact keeps_of_guarded (P := P) h hs fun _ => K.same (K.stop none s hs)
  | reelTimeout => exact keeps_of_guarded (P := P) h hs fun _ => K.same (K.stop (freshRunDown .none) s hs)
  | soundTick =>
    cases h
    exact K.sound _ s Tape.tick_timerView hs
  | baseRampEnd => exact K.rampEnds (.inl h) hs
  | duckRampEnd => exact K.rampEnds (.inr h) hs
  | _ => cases hc

end Sys2Proof.Machine
end

section
/-! SUPPORT. What a received frame of a handset or a console does to the tape, the Cue Unit and the Handset Table: a law of
these that the keys and the bookkeeping of the Handset Table keep is kept by every frame. -/

namespace Sys2Proof.Machine

/-- R159: an entry of the Handset Table paired with the source of a frame, which closes the window. -/
def Remote.paired (n : Nat) (w : PairingWindow) (f : RemoteFrame) (r : Remote) : Remote :=
  { r.setHandset n { state := .active, id := some f.source, rights := w.rights, lastSeq := f.seq, quiet := 0 } with
    window := none }

/-- A law of the tape, the Cue Unit and the Remote Unit that received frames keep. -/
structure KeptByFrames (P : State → Prop) : Prop where
  reads : ReadsOnly P [.tape, .cue, .remote]
  key : ∀ src key args s, P s → P (offerKey src key args s).1
  receive : ∀ f s, (∀ r, (f r).handsets = r.handsets) → P s → P (s.onRemote f)
  heard : ∀ n f s, (s.remote.handset n).state ≠ .empty → P s →
    P (s.onRemote fun r => r.setHandset n ((s.remote.handset n).heard f))
  pair : ∀ n w f s, s.remote.find f.source = some n ∨ s.remote.find f.source = none → P s →
    P (s.onRemote (Remote.paired n w f))

/-- A law of the tape and the Cue Unit is kept by received frames when the keys keep it. -/
theorem KeptByFrames.of_tape {P : State → Prop} (reads : ReadsOnly P [.tape, .cue])
    (key : ∀ src key args s, P s → P (offerKey src key args s).1) : KeptByFrames P where
  reads := reads.mono (by simp)
  key := key
  receive f s _ hs := reads s _ (by simp [Block.same]) hs
  heard n f s _ hs := reads s _ (by simp [Block.same]) hs
  pair n w f s _ hs := reads s _ (by simp [Block.same]) hs

namespace KeptByFrames

variable {P : State → Prop} (K : KeptByFrames P)
include K

theorem same {s t : State} (hs : P s) (tape : t.tape = s.tape := by simp) (cue : t.cue = s.cue := by simp)
    (remote : t.remote = s.remote := by simp) : P t :=
  K.reads s t (by simp [Block.same, tape, cue, remote]) hs

/-! ### Infrared frames (R153 to R162) -/

theorem actKey (src : Source) (key : Nat) (args : List Nat) {s : State} (hs : P s) : P (actKey src key args s) := by
  simp only [Machine.actKey]
  split
  · exact K.key _ _ _ _ hs
  · exact K.same (K.key src key args s hs)

theorem actHandsetKey (r : Rights) (f : RemoteFrame) {s : State} (hs : P s) : P (actHandsetKey r f s) := by
  unfold Machine.actHandsetKey
  split
  · exact hs
  · split
    · exact K.actKey _ _ _ hs
    · exact K.same hs

theorem handsetFrame (n : Nat) (f : RemoteFrame) {s : State} (used : (s.remote.handset n).state ≠ .empty) (hs : P s) :
    P (handsetFrame n f s) := by
  have heard := K.heard n f s used hs
  simp only [Machine.handsetFrame]
  split
  · exact K.actHandsetKey _ _ heard
  · split
    · exact K.actHandsetKey _ _ heard
    · exact heard
  · exact heard

theorem pairEntry (n : Nat) (w : PairingWindow) (f : RemoteFrame) (old : Option Nat) {s : State}
    (holder : s.remote.find f.source = some n ∨ s.remote.find f.source = none) (hs : P s) :
    P (pairEntry n w f old s) :=
  K.same (s := s.onRemote (Remote.paired n w f)) (K.pair n w f s holder hs) (by simp [Machine.pairEntry])
    (by simp [Machine.pairEntry]) (by simp [Machine.pairEntry, Remote.paired])

theorem pairNew (w : PairingWindow) (f : RemoteFrame) {s : State} (new : s.remote.find f.source = none) (hs : P s) :
    P (pairNew w f s) := by
  unfold Machine.pairNew
  split
  · exact K.pairEntry _ _ _ _ (.inr new) hs
  · split
    · exact K.pairEntry _ _ _ _ (.inr new) hs
    · exact K.same hs

theorem senderFrame (f : RemoteFrame) {s : State} (hs : P s) : P (senderFrame f s) := by
  unfold Machine.senderFrame
  split
  · exact hs
  · rename_i new _
    exact K.pairNew _ _ new hs
  · rename_i n holder
    split
    · exact hs
    · exact K.same hs
    · exact K.pairEntry _ _ _ _ (.inl holder) hs
    · exact K.pairEntry _ _ _ _ (.inl holder) hs
    · rename_i active _
      exact K.handsetFrame n f (by simp [active]) hs
    · rename_i lapsed _
      exact K.handsetFrame n f (by simp [lapsed]) hs
    · exact hs

theorem irFrameDone (bytes : List Byte) (mine : Bool) {s : State} (hs : P s) : P (irFrameDone bytes mine s) := by
  simp only [Machine.irFrameDone]
  (repeat' split) <;> first | exact hs | exact K.same hs | exact K.senderFrame _ hs

theorem irDiscard (cause : FrameFault) {s : State} (hs : P s) : P (irDiscard cause s) :=
  K.same (s := s.onRemote Remote.irIdle) (t := raise (.remoteBad .ir cause) (s.onRemote Remote.irIdle))
    (K.receive _ s (fun _ => rfl) hs)

theorem irTake (b : Byte) {s : State} (hs : P s) : P (irTake b s) := by
  unfold Machine.irTake
  split
  · have idle : P (s.onRemote Remote.irIdle) := K.receive _ s (fun _ => rfl) hs
    simp only [irByte]
    split
    · exact K.irDiscard _ hs
    · split
      · exact K.irFrameDone _ _ idle
      · exact K.receive _ s (fun _ => rfl) hs
  · exact hs
  · exact hs

/-! ### Wired frames (R161, R174) -/

theorem consoleFrame (f : RemoteFrame) {s : State} (hs : P s) : P (consoleFrame f s) := by
  unfold Machine.consoleFrame
  split
  · exact hs
  · split
    · exact K.actKey _ _ _ (K.receive _ s (fun _ => rfl) hs)
    · split
      · exact K.actKey _ _ _ hs
      · exact hs
    · exact hs

theorem takeFrame (f : RemoteFrame) {s : State} (hs : P s) : P (takeFrame f s) := by
  unfold Machine.takeFrame
  split
  · split
    · exact K.same hs
    · exact hs
  · split
    · exact hs
    · exact K.consoleFrame _ hs

theorem endComplete (p : Port) (bytes : List Byte) (consume : Bool) {s : State} (hs : P s) :
    P (endComplete p bytes consume s) := by
  simp only [Machine.endComplete]
  split
  · exact K.same hs
  · split
    · exact K.same hs
    · split
      · exact K.same (K.takeFrame (RemoteFrame.ofBytes bytes) (K.same hs (t := s.onBus fun b => b.setRx p .tail)))
      · exact K.same hs

theorem busByte (p : Port) (b : Byte) {s : State} (hs : P s) : P (busByte p b s) := by
  unfold Machine.busByte
  split
  · exact hs
  · split
    · exact K.same hs
    · exact hs
    · exact K.same hs
    · simp only [laterByte]
      split
      · exact K.endComplete _ _ _ (K.same hs)
      · exact K.same hs

end KeptByFrames

/-- The commands that carry a byte or the end of a frame, on the infrared link and on the bus. -/
def framesEnd : Instr → Bool
  | .irFrame _ => true
  | .irByteComplete _ => true
  | .busDestinationDecided _ _ => true
  | .busFrameEnd _ _ => true
  | .busByteReceived _ _ => true
  | _ => false

theorem KeptByFrames.exec_keeps {P : State → Prop} (K : KeptByFrames P) {c : Instr} {s t : State}
    (h : exec c s = .next t) (hc : framesEnd c = true) (hs : P s) : P t := by
  cases c with
  | irFrame b =>
    cases h
    split
    · exact K.irTake _ hs
    · exact hs
  | irByteComplete b =>
    cases h
    exact K.irTake _ hs
  | busDestinationDecided p b =>
    cases h
    split
    · exact K.busByte _ _ hs
    · exact hs
  | busFrameEnd p last =>
    cases last with
    | none =>
      cases h
      exact K.same hs
    | some b =>
      cases h
      split
      · exact K.busByte _ _ hs
      · exact hs
  | busByteReceived p b =>
    cases h
    exact K.busByte _ _ hs
  | _ => cases hc

end Sys2Proof.Machine
end

section
/-! PROOFS. Every step keeps the laws of the transport and of the Cue Unit's gate (R111, R117, R128; two parts of O59). -/

namespace Sys2Proof.Machine

/-! ### The transport's timers (R111, R117) -/

/-- R111, R117: the run-down and the timers in the transport states that have them. -/
structure Tape.TimersFit (t : Tape) : Prop where
  runDown : t.runDown.isSome = true → t.transport = .stopped
  endTimer : t.endTimer.isSome = true ↔ t.transport = .playing
  reelTimer : t.reelTimer.isSome = t.transport.winding

theorem transportLaw_iff (s : State) : TransportLaw s ↔ s.tape.TimersFit :=
  ⟨fun ⟨runDown, endTimer, reelTimer⟩ => ⟨runDown, endTimer, reelTimer⟩,
    fun ⟨runDown, endTimer, reelTimer⟩ => ⟨runDown, endTimer, reelTimer⟩⟩

namespace Tape.TimersFit

theorem of_view {t u : Tape} (h : t.TimersFit) (hv : u.timerView = t.timerView) : u.TimersFit := by
  simp only [Tape.timerView, Prod.mk.injEq] at hv
  obtain ⟨transport, runDown, endTimer, reelTimer⟩ := hv
  exact ⟨by rw [runDown, transport]; exact h.runDown, by rw [endTimer, transport]; exact h.endTimer,
    by rw [reelTimer, transport]; exact h.reelTimer⟩

/-- R116, R117: an entry to a winding state starts the reel timer and stops the rest. -/
theorem enterWinding {w : Transport} (hw : w.winding = true) (s : State) : (enterWinding w s).tape.TimersFit := by
  have away : w ≠ .playing := by
    rintro rfl
    cases hw
  exact ⟨nofun, by simp [Machine.enterWinding, setTransport, away], hw.symm⟩

/-- R114: PAUSED is entered from PLAYING, where neither the run-down nor the reel timer runs. -/
theorem enterPaused {s : State} (h : s.tape.TimersFit) (playing : s.tape.transport = .playing) :
    (enterPaused s).tape.TimersFit := by
  have still : s.tape.runDown.isSome ≠ true := fun on => by simp [h.runDown on] at playing
  have reel : s.tape.reelTimer.isSome = false := by rw [h.reelTimer, playing]; rfl
  exact ⟨fun on => absurd on still, by simp [Machine.enterPaused, setTransport], reel⟩

/-- R117: a capstan pulse in PLAYING restarts the timer that runs there. -/
theorem countPulse {t : Tape} (h : t.TimersFit) (playing : t.transport = .playing) :
    Tape.TimersFit { t.countPulse with endTimer := some Config.tapeEndMs } := by
  have on : t.endTimer.isSome = true := h.endTimer.mpr playing
  refine h.of_view ?_
  simp only [Tape.countPulse, Tape.timerView, on]
  split <;> rfl

end Tape.TimersFit

theorem timersFit_keptByTransport : KeptByTransport fun s => s.tape.TimersFit where
  reads := (tape_readsOnly Tape.TimersFit).mono (by simp)
  play s _ := ⟨nofun, by simp [enterPlaying, setTransport], rfl⟩
  wind _ s hw _ := .enterWinding hw s
  pause _ playing hs := hs.enterPaused playing
  stop _ s _ := ⟨fun _ => rfl, by simp [enterStopped, setTransport], rfl⟩
  pending _ _ hs := hs.of_view (by simp [setPendingMotion, Tape.timerView])
  ended _ hs := ⟨nofun, hs.endTimer, hs.reelTimer⟩
  gone s _ := ⟨nofun, by simp [cassetteGone, setTransport], rfl⟩
  pulse _ playing hs := hs.countPulse playing
  reel s winding hs := by
    have on : s.tape.reelTimer.isSome = true := hs.reelTimer.trans winding
    exact hs.of_view (by simp [Tape.timerView, on])
  sound _ s hf hs := hs.of_view (hf s.tape)

theorem timersFit_keptByOffers : KeptByOffers fun s => s.tape.TimersFit where
  raise _ _ hs := hs.of_view (by simp)
  remote _ _ hs := hs
  bus _ _ hs := hs
  cue _ _ _ hs := hs
  hit _ _ _ hs := hs
  key src key args _ hs := timersFit_keptByTransport.offerKey src key args hs
  action n a _ _ hs := timersFit_keptByTransport.offerAction n a hs
  legacy _ hs := hs.of_view (by simp)

section

variable {s t : State}

theorem execReset_timersFit (h : execReset s = .next t) (hs : s.tape.TimersFit) : t.tape.TimersFit := by
  refine (tape_readsOnly Tape.TimersFit).hostRequest_keeps h hs ?_
  refine (timersFit_keptByTransport.tapeResetTransport hs).of_view ?_
  rw [answer_state, resetRequest_tape]
  rfl

theorem exec_timersFit {c : Instr} (h : exec c s = .next t) (hs : s.tape.TimersFit) : t.tape.TimersFit := by
  have offers := timersFit_keptByOffers
  by_cases tape : runsTape c = true
  · exact timersFit_keptByTransport.exec_keeps h tape hs
  · cases c with
    | tapePlay | tapePause | tapeStop | tapeWind | setTapePosition | setGain | setDuckDepth | setMute | settleEnd
    | cassetteRemoval | cassetteInsertion | runDownEnd | capstanPulse | reelPulse | tapeEndTimeout | reelTimeout
    | soundTick | baseRampEnd | duckRampEnd => exact absurd rfl tape
    | reset => exact execReset_timersFit h hs
    | powerOnReset =>
      cases h
      exact ⟨nofun, by simp [powerOn, State.reset, Tape.reset], rfl⟩
    | cueWordComplete stop => exact offers.cueWordComplete h hs
    | pulseCue => exact offers.pulseCue h hs
    | irFrame b => exact offers.irFrame h hs
    | irByteComplete b => exact offers.irByteComplete h hs
    | busDestinationDecided p b => exact offers.busDestinationDecided h hs
    | busFrameEnd p b => exact offers.busFrameEnd h hs
    | busByteReceived p b => exact offers.busByteReceived h hs
    | _ => exact (tape_readsOnly Tape.TimersFit).exec_keeps h (by simp [touches]) hs

/-- R111, R117: every step keeps the law of the transport; a millisecond starts and stops no timer. -/
theorem step_transportLaw (h : step s = .next t) (hs : TransportLaw s) : TransportLaw t := by
  refine (transportLaw_iff t).mpr (step_keeps (P := fun s => s.tape.TimersFit) (fun _ _ hs => hs) (fun s hs => ?_)
    (fun _ _ _ => exec_timersFit) h ((transportLaw_iff s).mp hs))
  exact hs.of_view (by simp [passMs, Tape.passMs, Tape.timerView, countDown])

end

/-! ### The Cue Unit's gate (R128) -/

/-- R128: the receiver stands in IDLE, and neither a word nor a burst is held. -/
def CueUnit.AtRest (u : CueUnit) : Prop := u.rx = .idle ∧ u.holding = none ∧ u.burst = none

theorem gateLaw_iff (s : State) : GateLaw s ↔ (s.tape.transport ≠ .playing → s.cue.AtRest) := by
  simp only [GateLaw, cueGateOpen, beq_eq_false_iff_ne, CueUnit.AtRest]

theorem gateLaw_readsOnly : ReadsOnly GateLaw [.tape, .cue] := fun s t hb hs => by
  have tape : t.tape = s.tape := hb .tape (by simp)
  have cue : t.cue = s.cue := hb .cue (by simp)
  rw [gateLaw_iff] at hs ⊢
  rwa [tape, cue]

theorem gateLaw_of_transport {s t : State} (hs : GateLaw s) (transport : t.tape.transport = s.tape.transport)
    (cue : t.cue = s.cue) : GateLaw t := by
  rw [gateLaw_iff] at hs ⊢
  rwa [transport, cue]

/-- A change of the Cue Unit that leaves it at rest if it is keeps the law. -/
theorem gateLaw_onCue {s : State} {f : CueUnit → CueUnit} (hf : s.cue.AtRest → (f s.cue).AtRest) (hs : GateLaw s) :
    GateLaw (s.onCue f) := by
  rw [gateLaw_iff] at hs ⊢
  exact fun away => hf (hs away)

/-- An open gate asks nothing of the Cue Unit. -/
theorem gateLaw_of_open {s : State} (h : cueGateOpen s = true) : GateLaw s := fun away => by
  rw [h] at away
  cases away

/-- R128: a gate that closes puts the Cue Unit at rest. -/
theorem setTransport_gateLaw (new : Transport) {s : State} (hs : GateLaw s) : GateLaw (setTransport new s) := by
  rw [gateLaw_iff] at hs ⊢
  intro away
  have closed : (new == .playing) = false := beq_eq_false_iff_ne.mpr away
  show (s.cue.gate (s.tape.transport == .playing) (new == .playing)).AtRest
  rw [closed]
  by_cases was : s.tape.transport = .playing
  · rw [was]
    exact ⟨rfl, rfl, rfl⟩
  · rw [beq_eq_false_iff_ne.mpr was]
    exact hs was

theorem gateLaw_keptByTransport : KeptByTransport GateLaw where
  reads := gateLaw_readsOnly
  play _ hs := setTransport_gateLaw _ (gateLaw_of_transport hs rfl rfl)
  wind _ _ _ hs := setTransport_gateLaw _ (gateLaw_of_transport hs rfl rfl)
  pause _ _ hs := setTransport_gateLaw _ (gateLaw_of_transport hs rfl rfl)
  stop _ _ hs := setTransport_gateLaw _ (gateLaw_of_transport hs rfl rfl)
  pending _ _ hs := gateLaw_of_transport hs rfl rfl
  ended _ hs := gateLaw_of_transport hs rfl rfl
  gone _ hs := gateLaw_of_transport (setTransport_gateLaw .noTape hs) rfl rfl
  pulse s _ hs := by
    refine gateLaw_of_transport hs ?_ rfl
    simp only [State.onTape_tape, Tape.countPulse]
    split <;> rfl
  reel _ _ hs := gateLaw_of_transport hs rfl rfl
  sound _ s hf hs := gateLaw_of_transport hs (congrArg Prod.fst (hf s.tape)) rfl

theorem gateLaw_keptByFrames : KeptByFrames GateLaw :=
  .of_tape gateLaw_readsOnly fun src key args _ hs => gateLaw_keptByTransport.offerKey src key args hs

section

variable {s t : State}

theorem gateLaw_same (hs : GateLaw s) (tape : t.tape = s.tape := by simp) (cue : t.cue = s.cue := by simp) :
    GateLaw t :=
  gateLaw_keptByTransport.same hs tape cue

theorem gateLaw_raise (n : Notice) (hs : GateLaw s) : GateLaw (raise n s) := gateLaw_same hs

/-! ### Accepted codes (R134, R141, R142, R146) -/

theorem cueHit_gateLaw (n : Nat) (code : CueCode) (hs : GateLaw s) : GateLaw (cueHit n code s) := by
  unfold cueHit
  split
  · exact hs
  · rename_i a _
    have offered := gateLaw_keptByTransport.offerAction n a hs
    have hit : GateLaw ((offerAction n a s).1.onCue fun u => u.setEntry n (u.entry n).hit) :=
      gateLaw_onCue (fun rest => by simpa [CueUnit.AtRest] using rest) offered
    simp only
    split
    · exact gateLaw_raise _ hit
    · exact gateLaw_raise _ offered

theorem lookUp_gateLaw (code : CueCode) (kind : CodeKind) (hs : GateLaw s) : GateLaw (lookUp code kind s) := by
  unfold lookUp
  split
  · exact cueHit_gateLaw _ _ hs
  · split
    · exact gateLaw_same hs
    · exact gateLaw_same hs

theorem acceptCode_gateLaw (code : CueCode) (kind : CodeKind) (hs : GateLaw s) : GateLaw (acceptCode code kind s) := by
  unfold acceptCode
  split
  · exact lookUp_gateLaw _ _ hs
  · unfold learn
    split <;> exact gateLaw_raise _ (gateLaw_onCue (fun rest => rest) hs)
  · exact hs

/-- R130, R131: a word completes with the gate open; what it is taken for may close the gate. -/
theorem wordDone_gateLaw (bits : List Bool) (stop : Bool) (opened : cueGateOpen s = true) :
    GateLaw (wordDone bits stop s) := by
  have noted (f : CueUnit → CueUnit) : GateLaw (s.onCue f) := gateLaw_of_open opened
  simp only [wordDone]
  split
  · exact gateLaw_raise _ (noted _)
  · split
    · unfold confirmWord
      split
      · split
        · exact acceptCode_gateLaw _ _ (noted fun u => { u with rx := .idle, holding := none })
        · exact noted fun u => { u with rx := .idle, holding := _ }
      · exact noted fun u => { u with rx := .idle, holding := _ }
    · exact acceptCode_gateLaw _ _ (noted _)

/-! ### The commands of the Cue Unit -/

theorem execCueWordComplete_gateLaw {stop : Bool} (h : execCueWordComplete stop s = .next t) (hs : GateLaw s) :
    GateLaw t := by
  unfold execCueWordComplete at h
  split at h
  · cases h
    split
    · rename_i ready
      exact wordDone_gateLaw _ _ ready.1
    · exact hs
  · cases h
    exact hs
  · cases h
    exact hs

theorem toneEnd_gateLaw (hs : GateLaw s) : GateLaw (toneEnd s) :=
  gateLaw_onCue (fun ⟨rx, holding, _⟩ => ⟨rx, holding, rfl⟩) hs

theorem execPulseCue_gateLaw (h : execPulseCue s = .next t) (hs : GateLaw s) : GateLaw t := by
  cases h
  split
  · exact acceptCode_gateLaw _ _ (toneEnd_gateLaw hs)
  · exact toneEnd_gateLaw hs

/-- R129: the receiver moves with the gate open alone. -/
theorem execCueBitSample_gateLaw {high : Bool} (h : execCueBitSample high s = .next t) (hs : GateLaw s) :
    GateLaw t := by
  unfold execCueBitSample at h
  split at h
  · cases h
    split
    · rename_i ready
      exact gateLaw_of_open (s := s.onCue _) ready.1
    · exact hs
  · cases h
    exact hs
  · cases h
    exact hs

theorem execStartBitRecheck_gateLaw {high : Bool} (h : execStartBitRecheck high s = .next t) (hs : GateLaw s) :
    GateLaw t := by
  cases h
  split
  · rename_i ready
    exact gateLaw_of_open (s := s.onCue _) ready.1
  · exact hs

theorem execCueDataFallingEdge_gateLaw (h : execCueDataFallingEdge s = .next t) (hs : GateLaw s) : GateLaw t := by
  cases h
  split
  · rename_i ready
    exact gateLaw_of_open (s := s.onCue _) ready.1
  · exact hs

/-- R133: a burst begins with the gate open alone. -/
theorem execToneBurstStart_gateLaw (h : execToneBurstStart s = .next t) (hs : GateLaw s) : GateLaw t := by
  cases h
  cases opened : cueGateOpen s with
  | true => exact gateLaw_of_open (s := s.onCue _) opened
  | false => exact gateLaw_onCue (fun rest => by simpa [CueUnit.AtRest, opened] using rest) hs

/-! ### The requests to the Cue Unit -/

/-- A host request whose owner changes the Cue Unit alone. -/
theorem cueRequest_gateLaw {c : Instr} {owner : State → Reply} (h : hostRequest c owner s = .next t)
    (tape : (owner s).state.tape = s.tape) (rest : s.cue.AtRest → (owner s).state.cue.AtRest) (hs : GateLaw s) :
    GateLaw t := by
  refine gateLaw_readsOnly.hostRequest_keeps h hs ?_
  rw [gateLaw_iff] at hs ⊢
  rw [tape]
  exact fun away => rest (hs away)

theorem execSetCueOptions_gateLaw {e l : Option Nat} (h : execSetCueOptions e l s = .next t) (hs : GateLaw s) :
    GateLaw t := by
  refine cueRequest_gateLaw h ?_ (fun rest => ?_) hs
  · (repeat' split) <;> rfl
  · obtain ⟨rx, holding, burst⟩ := rest
    (repeat' split) <;> simp [CueUnit.AtRest, CueUnit.setOptions, rx, holding, burst]

theorem execSetMasks_gateLaw {g a b : Option Nat} (h : execSetMasks g a b s = .next t) (hs : GateLaw s) :
    GateLaw t := by
  refine cueRequest_gateLaw h ?_ (fun rest => ?_) hs <;> (repeat' split) <;> first | rfl | exact rest

theorem setEntry_atRest {u : CueUnit} (n : Nat) (e : CueEntry) (rest : u.AtRest) : (u.setEntry n e).AtRest := by
  simpa [CueUnit.AtRest] using rest

theorem execWriteCue_gateLaw {v : CueImage} (h : execWriteCue v s = .next t) (hs : GateLaw s) : GateLaw t := by
  refine cueRequest_gateLaw h ?_ (fun rest => ?_) hs <;> simp only [writeCue] <;> (repeat' split) <;>
    first | rfl | exact rest | exact setEntry_atRest _ _ rest

theorem execArmCue_gateLaw {n : Nat} (h : execArmCue n s = .next t) (hs : GateLaw s) : GateLaw t := by
  refine cueRequest_gateLaw h ?_ (fun rest => ?_) hs <;> simp only [armCue] <;> (repeat' split) <;>
    first | rfl | exact rest | exact setEntry_atRest _ _ rest

theorem execPauseCue_gateLaw {n : Nat} (h : execPauseCue n s = .next t) (hs : GateLaw s) : GateLaw t := by
  refine cueRequest_gateLaw h ?_ (fun rest => ?_) hs <;> simp only [pauseCue] <;> (repeat' split) <;>
    first | rfl | exact rest | exact setEntry_atRest _ _ rest

theorem execRetireCue_gateLaw {n : Nat} (h : execRetireCue n s = .next t) (hs : GateLaw s) : GateLaw t := by
  refine cueRequest_gateLaw h ?_ (fun rest => ?_) hs <;> (repeat' split) <;>
    first | rfl | exact rest | exact setEntry_atRest _ _ rest

theorem execLearnOn_gateLaw (h : execLearnOn s = .next t) (hs : GateLaw s) : GateLaw t := by
  refine cueRequest_gateLaw h rfl (fun rest => ?_) hs
  simp only [answer_state, State.onCue_cue, CueUnit.learnOn]
  split <;> exact rest

theorem execReset_gateLaw (h : execReset s = .next t) (hs : GateLaw s) : GateLaw t := by
  refine gateLaw_readsOnly.hostRequest_keeps h hs ((gateLaw_iff _).mpr fun _ => ?_)
  rw [answer_state, resetRequest_cue]
  exact ⟨rfl, rfl, rfl⟩

theorem exec_gateLaw {c : Instr} (h : exec c s = .next t) (hs : GateLaw s) : GateLaw t := by
  by_cases tape : runsTape c = true
  · exact gateLaw_keptByTransport.exec_keeps h tape hs
  · by_cases frames : framesEnd c = true
    · exact gateLaw_keptByFrames.exec_keeps h frames hs
    · cases c with
      | tapePlay | tapePause | tapeStop | tapeWind | setTapePosition | setGain | setDuckDepth | setMute | settleEnd
      | cassetteRemoval | cassetteInsertion | runDownEnd | capstanPulse | reelPulse | tapeEndTimeout | reelTimeout
      | soundTick | baseRampEnd | duckRampEnd => exact absurd rfl tape
      | irFrame | irByteComplete | busDestinationDecided | busFrameEnd | busByteReceived => exact absurd rfl frames
      | setCueOptions e l => exact execSetCueOptions_gateLaw h hs
      | setMasks g a b => exact execSetMasks_gateLaw h hs
      | writeCue v => exact execWriteCue_gateLaw h hs
      | armCue n => exact execArmCue_gateLaw h hs
      | pauseCue n => exact execPauseCue_gateLaw h hs
      | retireCue n => exact execRetireCue_gateLaw h hs
      | learnOn => exact execLearnOn_gateLaw h hs
      | learnOff => exact cueRequest_gateLaw (show execLearnOff s = _ from h) rfl (fun rest => rest) hs
      | readLearn => exact cueRequest_gateLaw (show execReadLearn s = _ from h) rfl (fun rest => rest) hs
      | reset => exact execReset_gateLaw h hs
      | powerOnReset =>
        cases h
        exact (gateLaw_iff _).mpr fun _ => ⟨rfl, rfl, rfl⟩
      | cueWordComplete stop => exact execCueWordComplete_gateLaw h hs
      | pulseCue => exact execPulseCue_gateLaw h hs
      | cueDataFallingEdge => exact execCueDataFallingEdge_gateLaw h hs
      | startBitRecheck high => exact execStartBitRecheck_gateLaw h hs
      | cueBitSample high => exact execCueBitSample_gateLaw h hs
      | toneBurstStart => exact execToneBurstStart_gateLaw h hs
      | shortToneBurstEnd =>
        cases h
        exact toneEnd_gateLaw hs
      | confirmTimeout =>
        cases h
        exact gateLaw_onCue (fun ⟨rx, _, burst⟩ => ⟨rx, rfl, burst⟩) hs
      | _ => exact gateLaw_readsOnly.exec_keeps h (by simp [touches]) hs

/-- R128: every step keeps the Cue Unit at rest behind a closed gate; a millisecond begins neither a word nor a burst. -/
theorem step_gateLaw (h : step s = .next t) (hs : GateLaw s) : GateLaw t := by
  refine step_keeps (P := GateLaw) (fun _ _ hs => gateLaw_same hs rfl rfl) (fun s hs => ?_) (fun _ _ _ => exec_gateLaw)
    h hs
  rw [gateLaw_iff] at hs ⊢
  intro away
  obtain ⟨rx, holding, burst⟩ := hs away
  exact ⟨rx, by simp [passMs, CueUnit.passMs, holding], by simp [passMs, CueUnit.passMs, burst]⟩

end

end Sys2Proof.Machine
end

section
/-! PROOFS. Every step keeps the laws of the Cue Map's ARMED entries and of the Handset Table (R135, R156; two parts of
O59). -/

namespace Sys2Proof.Machine

/-! ### The Cue Map (R135) -/

/-- R135: no two ARMED entries hold both the same code and the same selector. -/
def CueUnit.ArmedApart (u : CueUnit) : Prop := ∀ m k, m ≠ k → (u.entry m).state = .armed → (u.entry k).state = .armed →
  ¬((u.entry m).code = (u.entry k).code ∧ (u.entry m).selector = (u.entry k).selector)

theorem CueUnit.entry_of_index (u : CueUnit) (i : Fin 32) : u.entry (i + 1) = u.map[i] := by
  simp [CueUnit.entry, Nat.succ_le_of_lt i.isLt]

/-- An entry that is ARMED stands in the map. -/
theorem CueUnit.index_of_armed {u : CueUnit} {n : Nat} (h : (u.entry n).state = .armed) :
    ∃ i : Fin 32, n = i + 1 := by
  unfold CueUnit.entry at h
  split at h
  · rename_i range
    exact ⟨⟨n - 1, by omega⟩, (Nat.sub_add_cancel range.1).symm⟩
  · cases h

theorem cueMapLaw_iff (s : State) : CueMapLaw s ↔ s.cue.ArmedApart := by
  constructor
  · intro h m k hmk hm hk
    obtain ⟨i, rfl⟩ := CueUnit.index_of_armed hm
    obtain ⟨j, rfl⟩ := CueUnit.index_of_armed hk
    rw [CueUnit.entry_of_index] at hm hk ⊢
    rw [CueUnit.entry_of_index]
    exact h i j (fun e => hmk (by rw [e])) hm hk
  · intro h i j hij hi hj
    have away : i.val + 1 ≠ j.val + 1 := fun e => hij (Fin.ext (Nat.succ.inj e))
    simpa only [CueUnit.entry_of_index] using
      h _ _ away ((congrArg CueEntry.state (s.cue.entry_of_index i)).trans hi)
        ((congrArg CueEntry.state (s.cue.entry_of_index j)).trans hj)

/-- R137, R138: a code and a selector are no duplicate when no other ARMED entry holds both. -/
theorem CueUnit.duplicate_eq_false_iff (u : CueUnit) (n : Nat) (code : CueCode) (sel : Selector) :
    u.duplicate n code sel = false ↔ ∀ m, m ≠ n → (u.entry m).state = .armed →
      ¬((u.entry m).code = code ∧ (u.entry m).selector = sel) := by
  have spelled : u.duplicate n code sel = false ↔ ∀ m ∈ cueNumbers, m ≠ n → (u.entry m).state = .armed →
      ¬((u.entry m).code = code ∧ (u.entry m).selector = sel) := by
    simp only [CueUnit.duplicate, List.any_eq_false, Bool.and_eq_true, bne_iff_ne, beq_iff_eq]
    exact forall₂_congr fun m _ => by tauto
  refine spelled.trans ⟨fun h m hmn hm => ?_, fun h m _ => h m⟩
  obtain ⟨i, rfl⟩ := CueUnit.index_of_armed hm
  exact h _ (by simp [cueNumbers]) hmn hm

namespace CueUnit.ArmedApart

variable {u : CueUnit}

theorem of_map {v : CueUnit} (h : u.ArmedApart) (hm : v.map = u.map) : v.ArmedApart := by
  unfold CueUnit.ArmedApart CueUnit.entry
  rw [hm]
  exact h

/-- An entry written stays apart from the others when it is not ARMED or no duplicate. -/
theorem setEntry (h : u.ArmedApart) (n : Nat) {e : CueEntry}
    (apart : e.state = .armed → u.duplicate n e.code e.selector = false) : (u.setEntry n e).ArmedApart := by
  by_cases range : 1 ≤ n ∧ n ≤ 32
  · have away {m : Nat} (hm : m ≠ n) := u.entry_setEntry_other e hm
    have here := u.entry_setEntry_same e range
    intro m k hmk hm hk
    by_cases hmn : m = n
    · subst hmn
      rw [here] at hm ⊢
      rw [away hmk.symm] at hk ⊢
      rintro ⟨code, sel⟩
      exact (u.duplicate_eq_false_iff ..).mp (apart hm) k hmk.symm hk ⟨code.symm, sel.symm⟩
    · rw [away hmn] at hm ⊢
      by_cases hkn : k = n
      · subst hkn
        rw [here] at hk ⊢
        exact (u.duplicate_eq_false_iff ..).mp (apart hk) m hmk hm
      · rw [away hkn] at hk ⊢
        exact h m k hmk hm hk
  · rwa [CueUnit.setEntry, dif_neg range]

/-- An ARMED entry is no duplicate of another. -/
theorem duplicate_self (h : u.ArmedApart) {n : Nat} (armed : (u.entry n).state = .armed) :
    u.duplicate n (u.entry n).code (u.entry n).selector = false :=
  (u.duplicate_eq_false_iff ..).mpr fun m hm hs => h m n hm hs armed

/-- R142: a hit leaves the entry's code and selector, and arms nothing. -/
theorem hit (h : u.ArmedApart) (n : Nat) : (u.setEntry n (u.entry n).hit).ArmedApart :=
  h.setEntry n fun armed => h.duplicate_self (by
    simp only [CueEntry.hit] at armed
    split at armed
    · cases armed
    · exact armed)

end CueUnit.ArmedApart

theorem armedApart_keptByOffers : KeptByOffers fun s => s.cue.ArmedApart where
  raise _ _ hs := hs.of_map (by simp)
  remote _ _ hs := hs
  bus _ _ hs := hs
  cue _ s hf hs := hs.of_map (hf s.cue)
  hit n _ _ hs := hs.hit n
  key src key args s hs := hs.of_map (offerKey_map src key args s)
  action n a s _ hs := hs.of_map (offerAction_map n a s)
  legacy _ hs := hs.of_map (by simp)

section

variable {s t : State}

/-- A host request keeps the entries apart when its owner does. -/
theorem cueRequest_armedApart {c : Instr} {owner : State → Reply} (h : hostRequest c owner s = .next t)
    (hs : s.cue.ArmedApart) (ho : (owner s).state.cue.ArmedApart) : t.cue.ArmedApart :=
  (cue_readsOnly CueUnit.ArmedApart).hostRequest_keeps h hs ho

theorem execWriteCue_armedApart {v : CueImage} (h : execWriteCue v s = .next t) (hs : s.cue.ArmedApart) :
    t.cue.ArmedApart := by
  refine cueRequest_armedApart h hs ?_
  unfold writeCue
  split
  · exact hs
  · split
    · exact hs
    · split
      · exact hs
      · rename_i single
        exact hs.setEntry _ fun armed => eq_false_of_ne_true fun twin => single ⟨armed, twin⟩

theorem setCueState_armedApart {n : Nat} {st : CueState} (hs : s.cue.ArmedApart)
    (apart : st = .armed → s.cue.duplicate n (s.cue.entry n).code (s.cue.entry n).selector = false) :
    (setCueState n st s).state.cue.ArmedApart :=
  hs.setEntry n apart

theorem execArmCue_armedApart {n : Nat} (h : execArmCue n s = .next t) (hs : s.cue.ArmedApart) :
    t.cue.ArmedApart := by
  refine cueRequest_armedApart h hs ?_
  split
  · simp only [armCue]
    split
    case h_1 | h_2 => exact hs
    all_goals
      split
      · exact hs
      · rename_i single
        exact setCueState_armedApart hs fun _ => eq_false_of_ne_true single
  · exact hs

theorem execPauseCue_armedApart {n : Nat} (h : execPauseCue n s = .next t) (hs : s.cue.ArmedApart) :
    t.cue.ArmedApart := by
  refine cueRequest_armedApart h hs ?_
  split
  · unfold pauseCue
    split
    case h_2 => exact setCueState_armedApart hs nofun
    all_goals exact hs
  · exact hs

theorem execRetireCue_armedApart {n : Nat} (h : execRetireCue n s = .next t) (hs : s.cue.ArmedApart) :
    t.cue.ArmedApart := by
  refine cueRequest_armedApart h hs ?_
  split
  · exact hs.setEntry n nofun
  · exact hs

theorem execSetCueOptions_armedApart {e l : Option Nat} (h : execSetCueOptions e l s = .next t)
    (hs : s.cue.ArmedApart) : t.cue.ArmedApart := by
  refine cueRequest_armedApart h hs ?_
  (repeat' split) <;> exact hs.of_map rfl

theorem execSetMasks_armedApart {g a b : Option Nat} (h : execSetMasks g a b s = .next t) (hs : s.cue.ArmedApart) :
    t.cue.ArmedApart := by
  refine cueRequest_armedApart h hs ?_
  (repeat' split) <;> exact hs.of_map rfl

theorem execLearnOn_armedApart (h : execLearnOn s = .next t) (hs : s.cue.ArmedApart) : t.cue.ArmedApart := by
  refine cueRequest_armedApart h hs (hs.of_map ?_)
  simp only [answer_state, State.onCue_cue, CueUnit.learnOn]
  split <;> rfl

/-- R150: a RESET clears the hits of the entries and leaves the rest of each. -/
theorem execReset_armedApart (h : execReset s = .next t) (hs : s.cue.ArmedApart) : t.cue.ArmedApart := by
  refine cueRequest_armedApart h hs ?_
  have cleared (n : Nat) : (resetRequest s).cue.entry n = { s.cue.entry n with hits := 0 } := by
    unfold CueUnit.entry
    split
    · simp
    · rfl
  intro m k hmk hm hk
  rw [answer_state, cleared] at hm hk ⊢
  rw [cleared]
  exact hs m k hmk hm hk

theorem powerOn_armedApart (s : State) : (powerOn s).cue.ArmedApart :=
  CueUnit.ArmedApart.of_map (u := CueUnit.reset) ((cueMapLaw_iff State.reset).mp reset_cueMapLaw) rfl

theorem execCueBitSample_armedApart {high : Bool} (h : execCueBitSample high s = .next t) (hs : s.cue.ArmedApart) :
    t.cue.ArmedApart := by
  unfold execCueBitSample at h
  (repeat' split at h) <;> cases h <;> exact hs

theorem exec_armedApart {c : Instr} (h : exec c s = .next t) (hs : s.cue.ArmedApart) : t.cue.ArmedApart := by
  have offers := armedApart_keptByOffers
  cases c with
  | writeCue v => exact execWriteCue_armedApart h hs
  | armCue n => exact execArmCue_armedApart h hs
  | pauseCue n => exact execPauseCue_armedApart h hs
  | retireCue n => exact execRetireCue_armedApart h hs
  | setCueOptions e l => exact execSetCueOptions_armedApart h hs
  | setMasks g a b => exact execSetMasks_armedApart h hs
  | learnOn => exact execLearnOn_armedApart h hs
  | learnOff => exact cueRequest_armedApart (show execLearnOff s = _ from h) hs hs
  | readLearn => exact cueRequest_armedApart (show execReadLearn s = _ from h) hs hs
  | reset => exact execReset_armedApart h hs
  | powerOnReset =>
    cases h
    exact powerOn_armedApart s
  | tapePlay | tapePause | tapeStop | tapeWind | cassetteRemoval | cassetteInsertion | runDownEnd | tapeEndTimeout
  | reelTimeout => exact hs.of_map (exec_store h rfl).map
  | settleEnd => exact hs.of_map (execSettleEnd_map h)
  | cueDataFallingEdge | startBitRecheck =>
    cases h
    split <;> exact hs
  | cueBitSample high => exact execCueBitSample_armedApart h hs
  | toneBurstStart | shortToneBurstEnd | confirmTimeout =>
    cases h
    exact hs
  | cueWordComplete stop => exact offers.cueWordComplete h hs
  | pulseCue => exact offers.pulseCue h hs
  | irFrame b => exact offers.irFrame h hs
  | irByteComplete b => exact offers.irByteComplete h hs
  | busDestinationDecided p b => exact offers.busDestinationDecided h hs
  | busFrameEnd p b => exact offers.busFrameEnd h hs
  | busByteReceived p b => exact offers.busByteReceived h hs
  | _ => exact (cue_readsOnly CueUnit.ArmedApart).exec_keeps h (by simp [touches]) hs

/-- R135: every step keeps the ARMED entries apart. -/
theorem step_cueMapLaw (h : step s = .next t) (hs : CueMapLaw s) : CueMapLaw t :=
  (cueMapLaw_iff t).mpr (step_keeps (P := fun s => s.cue.ArmedApart) (fun _ _ hs => hs) (fun _ hs => hs)
    (fun _ _ _ => exec_armedApart) h ((cueMapLaw_iff s).mp hs))

end

/-! ### The Handset Table (R156) -/

/-- R156: no ID stands in two entries, and an entry holds an ID exactly when it is not EMPTY. -/
structure Remote.IdsApart (r : Remote) : Prop where
  apart : ∀ m k, m ≠ k → (r.handset m).id ≠ none → (r.handset m).id ≠ (r.handset k).id
  empty : ∀ m, (r.handset m).state = .empty ↔ (r.handset m).id = none

theorem Remote.handset_of_index (r : Remote) (i : Fin 8) : r.handset (i + 1) = r.handsets[i] := by
  simp [Remote.handset, Nat.succ_le_of_lt i.isLt]

/-- A number either names an entry of the table or reads as EMPTY. -/
theorem Remote.handset_cases (r : Remote) (n : Nat) :
    (∃ i : Fin 8, n = i + 1) ∨ r.handset n = Handset.blank := by
  by_cases range : 1 ≤ n ∧ n ≤ 8
  · exact .inl ⟨⟨n - 1, by omega⟩, (Nat.sub_add_cancel range.1).symm⟩
  · exact .inr (by rw [Remote.handset, dif_neg range])

theorem handsetLaw_iff (s : State) : HandsetLaw s ↔ s.remote.IdsApart := by
  constructor
  · rintro ⟨apart, empty⟩
    refine ⟨fun m k hmk hm => ?_, fun m => ?_⟩
    · rcases s.remote.handset_cases m with ⟨i, rfl⟩ | blank
      · rcases s.remote.handset_cases k with ⟨j, rfl⟩ | blank
        · rw [Remote.handset_of_index] at hm ⊢
          rw [Remote.handset_of_index]
          exact apart i j (fun e => hmk (by rw [e])) hm
        · rwa [blank]
      · exact absurd (congrArg Handset.id blank) hm
    · rcases s.remote.handset_cases m with ⟨i, rfl⟩ | blank
      · rw [Remote.handset_of_index]
        exact empty i
      · rw [blank]
        exact ⟨fun _ => rfl, fun _ => rfl⟩
  · rintro ⟨apart, empty⟩
    refine ⟨fun i j hij hi => ?_, fun i => ?_⟩
    · have away : i.val + 1 ≠ j.val + 1 := fun e => hij (Fin.ext (Nat.succ.inj e))
      rw [← Remote.handset_of_index] at hi ⊢
      rw [← Remote.handset_of_index]
      exact apart _ _ away hi
    · rw [← Remote.handset_of_index]
      exact empty _

namespace Remote

/-- R155: the entry found for an ID holds it. -/
theorem id_of_find {r : Remote} {id n : Nat} (h : r.find id = some n) : (r.handset n).id = some id := by
  simpa using List.find?_some h

/-- R155: with no entry found, none holds the ID. -/
theorem id_ne_of_find_none {r : Remote} {id : Nat} (h : r.find id = none) (n : Nat) :
    (r.handset n).id ≠ some id := by
  rcases r.handset_cases n with ⟨i, rfl⟩ | blank
  · have listed : i.val + 1 ∈ handsetNumbers := by revert i; decide
    simpa using List.find?_eq_none.mp h _ listed
  · rw [blank]
    nofun

namespace IdsApart

variable {r : Remote}

theorem of_handsets {q : Remote} (h : r.IdsApart) (hq : q.handsets = r.handsets) : q.IdsApart := by
  have same (n : Nat) : q.handset n = r.handset n := by simp only [Remote.handset, hq]
  exact ⟨by simpa only [same] using h.apart, by simpa only [same] using h.empty⟩

/-- An entry written with an ID that no other entry holds. -/
theorem setHandset (h : r.IdsApart) (n : Nat) {e : Handset} (empty : e.state = .empty ↔ e.id = none)
    (apart : e.id ≠ none → ∀ k, k ≠ n → (r.handset k).id ≠ e.id) : (r.setHandset n e).IdsApart := by
  by_cases range : 1 ≤ n ∧ n ≤ 8
  · have away {m : Nat} (hm : m ≠ n) := r.handset_setHandset_other e hm
    have here := r.handset_setHandset_same e range
    refine ⟨fun m k hmk hm => ?_, fun m => ?_⟩
    · by_cases hmn : m = n
      · subst hmn
        rw [here] at hm ⊢
        rw [away hmk.symm]
        exact (apart hm k hmk.symm).symm
      · rw [away hmn] at hm ⊢
        by_cases hkn : k = n
        · subst hkn
          rw [here]
          exact fun e' => apart (e' ▸ hm) m hmk e'
        · rw [away hkn]
          exact h.apart m k hmk hm
    · by_cases hmn : m = n
      · rw [hmn, here]
        exact empty
      · rw [away hmn]
        exact h.empty m
  · rwa [Remote.setHandset, dif_neg range]

/-- An entry written anew that keeps its ID, and is EMPTY exactly if it was. -/
theorem setState (h : r.IdsApart) (n : Nat) {e : Handset} (id : e.id = (r.handset n).id)
    (empty : e.state = .empty ↔ (r.handset n).state = .empty) : (r.setHandset n e).IdsApart := by
  refine h.setHandset n ?_ fun held k hk => ?_
  · rw [empty, id]
    exact h.empty n
  · rw [id] at held ⊢
    exact (h.apart n k hk.symm held).symm

/-- R159: an ID is paired with the entry that holds it, or with any entry when none does. -/
theorem paired (h : r.IdsApart) (n : Nat) (w : PairingWindow) (f : RemoteFrame)
    (holder : r.find f.source = some n ∨ r.find f.source = none) : (r.paired n w f).IdsApart := by
  refine (h.setHandset n (e := { state := .active, id := some f.source, rights := w.rights, lastSeq := f.seq, quiet := 0 })
    (by simp) fun _ k hk => ?_).of_handsets rfl
  rcases holder with found | new
  · have held := id_of_find found
    rw [← held]
    exact (h.apart n k hk.symm (by rw [held]; nofun)).symm
  · exact id_ne_of_find_none new k

end IdsApart

end Remote

theorem remote_readsOnly (P : Remote → Prop) : ReadsOnly (fun s => P s.remote) [.remote] := fun s t hb hs => by
  have hr : t.remote = s.remote := hb .remote (by simp)
  show P t.remote
  rwa [hr]

theorem idsApart_keptByFrames : KeptByFrames fun s => s.remote.IdsApart where
  reads := (remote_readsOnly Remote.IdsApart).mono (by simp)
  key src key args s hs := by
    have remote : (offerKey src key args s).1.remote = s.remote := by simp
    rwa [remote]
  receive _ s hf hs := hs.of_handsets (hf s.remote)
  heard n f s used hs := hs.setState n rfl (by simp [Handset.heard, used])
  pair n w f _ holder hs := hs.paired n w f holder

section

variable {s t : State}

theorem remoteRequest_idsApart {c : Instr} {owner : State → Reply} (h : hostRequest c owner s = .next t)
    (hs : s.remote.IdsApart) (ho : (owner s).state.remote.IdsApart) : t.remote.IdsApart :=
  (remote_readsOnly Remote.IdsApart).hostRequest_keeps h hs ho

theorem execOpenPairing_idsApart {v : Nat} (h : execOpenPairing v s = .next t) (hs : s.remote.IdsApart) :
    t.remote.IdsApart := by
  refine remoteRequest_idsApart h hs ?_
  split <;> exact hs.of_handsets rfl

theorem execSetRights_idsApart {n v : Nat} (h : execSetRights n v s = .next t) (hs : s.remote.IdsApart) :
    t.remote.IdsApart := by
  refine remoteRequest_idsApart h hs ?_
  split
  · exact hs
  · split
    · exact hs
    · simp only
      split
      · exact hs
      · exact hs.setState n rfl Iff.rfl

theorem execBlockHandset_idsApart {n : Nat} (h : execBlockHandset n s = .next t) (hs : s.remote.IdsApart) :
    t.remote.IdsApart := by
  refine remoteRequest_idsApart h hs ?_
  split
  · simp only [offerBlock]
    split
    case h_2 used | h_3 used => exact hs.setState n rfl (by simp [used])
    all_goals exact hs
  · exact hs

theorem execUnblockHandset_idsApart {n : Nat} (h : execUnblockHandset n s = .next t) (hs : s.remote.IdsApart) :
    t.remote.IdsApart := by
  refine remoteRequest_idsApart h hs ?_
  split
  · simp only [offerUnblock]
    split
    case h_4 used => exact hs.setState n rfl (by simp [used])
    all_goals exact hs
  · exact hs

theorem execRetireHandset_idsApart {n : Nat} (h : execRetireHandset n s = .next t) (hs : s.remote.IdsApart) :
    t.remote.IdsApart := by
  refine remoteRequest_idsApart h hs ?_
  split
  · exact hs.setHandset n (by simp [Handset.blank]) fun held => absurd rfl held
  · exact hs

theorem execReset_idsApart (h : execReset s = .next t) (hs : s.remote.IdsApart) : t.remote.IdsApart := by
  refine remoteRequest_idsApart h hs (hs.of_handsets ?_)
  rw [answer_state, resetRequest_remote]
  rfl

/-- R153: an IR frame that is discarded leaves the Handset Table. -/
theorem irDiscard_idsApart (cause : FrameFault) (hs : s.remote.IdsApart) : (irDiscard cause s).remote.IdsApart :=
  idsApart_keptByFrames.irDiscard cause hs

theorem execIrFrameError_idsApart {cause : IrFault} (h : execIrFrameError cause s = .next t)
    (hs : s.remote.IdsApart) : t.remote.IdsApart := by
  unfold execIrFrameError at h
  split at h
  · split at h <;> cases h
    · split
      · exact irDiscard_idsApart _ hs
      · exact hs
    · exact irDiscard_idsApart _ hs
    · exact (irDiscard_idsApart .cut hs).of_handsets rfl
  · cases h
    exact hs
  · cases h
    exact hs

theorem execIrGapTimeout_idsApart (h : execIrGapTimeout s = .next t) (hs : s.remote.IdsApart) :
    t.remote.IdsApart := by
  unfold execIrGapTimeout at h
  split at h <;> cases h
  · exact irDiscard_idsApart _ hs
  · exact hs
  · exact hs

/-- R157: a second that passes leaves the IDs, and what is EMPTY. -/
theorem execQuietTimeStep_idsApart (h : execQuietTimeStep s = .next t) (hs : s.remote.IdsApart) :
    t.remote.IdsApart := by
  cases h
  have aged (n : Nat) : Remote.handset { s.remote with handsets := Vector.ofFn fun i : Fin 8 => s.remote.handsets[i].second }
      n = (s.remote.handset n).second := by
    unfold Remote.handset
    split
    · simp
    · rfl
  have id (e : Handset) : e.second.id = e.id := by
    unfold Handset.second
    split <;> rfl
  have empty (e : Handset) : e.second.state = .empty ↔ e.state = .empty := by
    unfold Handset.second
    split
    · rfl
    · simp only
      split
      · simp_all
      · rfl
  refine ⟨fun m k hmk hm => ?_, fun m => ?_⟩
  · rw [State.onRemote_remote, aged, id] at hm ⊢
    rw [aged, id]
    exact hs.apart m k hmk hm
  · rw [State.onRemote_remote, aged, id, empty]
    exact hs.empty m

theorem exec_idsApart {c : Instr} (h : exec c s = .next t) (hs : s.remote.IdsApart) : t.remote.IdsApart := by
  by_cases frames : framesEnd c = true
  · exact idsApart_keptByFrames.exec_keeps h frames hs
  · cases c with
    | irFrame | irByteComplete | busDestinationDecided | busFrameEnd | busByteReceived => exact absurd rfl frames
    | openPairing v => exact execOpenPairing_idsApart h hs
    | closePairing => exact remoteRequest_idsApart (show execClosePairing s = _ from h) hs (hs.of_handsets rfl)
    | setRights n v => exact execSetRights_idsApart h hs
    | blockHandset n => exact execBlockHandset_idsApart h hs
    | unblockHandset n => exact execUnblockHandset_idsApart h hs
    | retireHandset n => exact execRetireHandset_idsApart h hs
    | reset => exact execReset_idsApart h hs
    | powerOnReset =>
      cases h
      exact (handsetLaw_iff State.reset).mp reset_handsetLaw
    | irFrameError cause => exact execIrFrameError_idsApart h hs
    | irGapTimeout => exact execIrGapTimeout_idsApart h hs
    | pairingWindowExpiry =>
      cases h
      exact hs.of_handsets rfl
    | quietTimeStep => exact execQuietTimeStep_idsApart h hs
    | irCarrierPresent | irLeaderEnd | irLeaderTooLong =>
      cases h
      (repeat' split) <;> exact hs.of_handsets rfl
    | _ => exact (remote_readsOnly Remote.IdsApart).exec_keeps h (by simp [touches]) hs

/-- R156: every step keeps the IDs of the Handset Table apart. -/
theorem step_handsetLaw (h : step s = .next t) (hs : HandsetLaw s) : HandsetLaw t :=
  (handsetLaw_iff t).mpr (step_keeps (P := fun s => s.remote.IdsApart) (fun _ _ hs => hs)
    (fun _ hs => hs.of_handsets rfl) (fun _ _ _ => exec_idsApart) h ((handsetLaw_iff s).mp hs))

end

end Sys2Proof.Machine
end

section
/-! SUPPORT. What a step can do to the Bus Port: it quiets the port, takes a byte, starts to send, or counts; every step is a
chain of these moves. -/

namespace Sys2Proof.Machine

/-! ### The operations of the port as functions of the port alone -/

/-- R177: a frame being sent backs off, or leaves the slot at its fourth failure. -/
def Bus.retried (b : Bus) : Bus :=
  match b.slot with
  | none => b
  | some o =>
    if o.phase ≠ .sending then b
    else if o.retries + 1 < 4 then
      { b with slot := some { o with phase := .backoff, retries := o.retries + 1 } }.stopSending .out
    else b.emptySlot

/-- R173: what is being sent on the other port gives way to a forward. -/
def Bus.gaveWay (p : Port) (b : Bus) : Bus :=
  match p with
  | .inn => b.retried
  | .out => if b.answering then b.abandonAnswer else b

/-- R180: the port in its new state, with what the entry stops. -/
def Bus.entered (new : PortState) (b : Bus) : Bus :=
  match new with
  | .active => if b.state = .silent then { b with state := .active, errors := 0, goodRun := 0 }
    else { b with state := .active }
  | .passive => { b.emptySlot.abandonAnswer with state := .passive }
  | .silent => { (b.emptySlot.abandonAnswer.cutForward .inn).cutForward .out with state := .silent, goodRun := 0 }

/-- R180: the port in the state that its counter and its run decide. -/
def Bus.decided (b : Bus) : Bus :=
  match b.state with
  | .active => if 96 ≤ b.errors then b.entered .passive else b
  | .passive => if 160 ≤ b.errors then b.entered .silent else if b.errors < 64 then b.entered .active else b
  | .silent => if 32 ≤ b.goodRun then b.entered .active else b

theorem Bus.emptySlot_of_free {b : Bus} (free : b.slot = none) : b.emptySlot = b := by
  have same : { b with slot := none } = b := by rw [← free]
  have silent : b.originating = false := by simp only [Bus.originating, free]
  simp only [Bus.emptySlot, same, silent, Bool.false_eq_true, if_false]

section

variable (s : State)

theorem dropFrame_bus (cause : DropCause) : (dropFrame cause s).bus = s.bus.emptySlot := by
  unfold dropFrame
  split
  · rename_i free
    exact (Bus.emptySlot_of_free free).symm
  · simp

theorem retryFrame_bus : (retryFrame s).bus = s.bus.retried := by
  cases held : s.bus.slot with
  | none => simp only [retryFrame, Bus.retried, held]
  | some o => simp only [retryFrame, Bus.retried, held, apply_ite State.bus, dropFrame_bus, State.onBus_bus]

theorem giveWay_bus (p : Port) : (giveWay p s).bus = s.bus.gaveWay p := by
  cases p with
  | inn => exact retryFrame_bus s
  | out =>
    simp only [giveWay, Bus.gaveWay]
    split <;> rfl

theorem startForward_bus (p : Port) (bytes : List Byte) : (startForward p bytes s).bus =
    ((s.bus.gaveWay p).dropHeld (otherPort p)).setFwdFrom p (.sending bytes) := by
  rw [← giveWay_bus]
  rfl

theorem enterPort_bus (new : PortState) : (enterPort new s).bus = s.bus.entered new := by
  cases new with
  | active => simp [enterPort, Bus.entered]
  | passive | silent => simp [enterPort, Bus.entered, dropFrame_bus]

theorem decidePort_bus : (decidePort s).bus = s.bus.decided := by
  cases stands : s.bus.state <;> simp only [decidePort, Bus.decided, stands, apply_ite State.bus, enterPort_bus]

end

/-! ### Moves that quiet the port -/

/-- The port sends and holds no more than before, hears the same where it did not transmit, and counts and stands as
before. -/
structure Bus.Quiets (b c : Bus) : Prop where
  hold : ∀ q, c.fwdFrom q = .holding → b.fwdFrom q = .holding
  rx : ∀ q, c.rx q = b.rx q ∨ b.transmits q = true
  transmits : ∀ q, c.transmits q = true → b.transmits q = true
  slot : b.slot = none → c.slot = none
  answer : b.answer = none → c.answer = none
  errors : c.errors = b.errors
  goodRun : c.goodRun = b.goodRun
  state : c.state = b.state

namespace Bus.Quiets

theorem refl (b : Bus) : b.Quiets b :=
  ⟨fun _ h => h, fun _ => .inl rfl, fun _ h => h, id, id, rfl, rfl, rfl⟩

theorem trans {b c d : Bus} (h : b.Quiets c) (k : c.Quiets d) : b.Quiets d where
  hold q hq := h.hold q (k.hold q hq)
  rx q := by
    rcases k.rx q with e | sends
    · exact e ▸ h.rx q
    · exact .inr (h.transmits q sends)
  transmits q hq := h.transmits q (k.transmits q hq)
  slot hq := k.slot (h.slot hq)
  answer hq := k.answer (h.answer hq)
  errors := k.errors.trans h.errors
  goodRun := k.goodRun.trans h.goodRun
  state := k.state.trans h.state

/-- The port stops to transmit on a port where it does. -/
theorem stopSending {b c : Bus} (p : Port) (h : b.Quiets c) (sends : b.transmits p = true) :
    b.Quiets (c.stopSending p) where
  hold q hq := h.hold q (by simpa [Bus.stopSending] using hq)
  rx q := by
    by_cases hq : q = p
    · exact .inr (hq ▸ sends)
    · have other : (c.setRx p .tail).rx q = c.rx q := by cases p <;> cases q <;> first | rfl | exact absurd rfl hq
      exact other ▸ h.rx q
  transmits q hq := h.transmits q (by cases p <;> cases q <;> exact hq)
  slot hq := by simpa [Bus.stopSending] using h.slot hq
  answer hq := by simpa [Bus.stopSending] using h.answer hq
  errors := by simpa [Bus.stopSending] using h.errors
  goodRun := by simpa [Bus.stopSending] using h.goodRun
  state := by simpa [Bus.stopSending] using h.state

/-- What the slot holds changes without a frame put in an empty slot, and without a sending begun. -/
theorem setSlot (b : Bus) (o : Option Origination) (free : b.slot = none → o = none)
    (silent : Bus.originating { b with slot := o } = true → b.originating = true) : b.Quiets { b with slot := o } where
  hold q hq := by cases q <;> exact hq
  rx q := .inl (by cases q <;> rfl)
  transmits q hq := by
    cases q with
    | inn => exact hq
    | out =>
      simp only [Bus.transmits, Bool.or_eq_true] at hq ⊢
      exact hq.imp id silent
  slot := free
  answer := id
  errors := rfl
  goodRun := rfl
  state := rfl

/-- What the answer is changes without an answer put in hand, and without a sending begun. -/
theorem setAnswer (b : Bus) (a : Option StatusAnswer) (free : b.answer = none → a = none)
    (silent : Bus.answering { b with answer := a } = true → b.answering = true) : b.Quiets { b with answer := a } where
  hold q hq := by cases q <;> exact hq
  rx q := .inl (by cases q <;> rfl)
  transmits q hq := by
    cases q with
    | out => exact hq
    | inn =>
      simp only [Bus.transmits, Bool.or_eq_true] at hq ⊢
      exact hq.imp id silent
  slot := id
  answer := free
  errors := rfl
  goodRun := rfl
  state := rfl

/-- A forward is set to one that holds no byte and sends only if it did. -/
theorem setFwdFrom (b : Bus) (p : Port) (f : Forward) (hold : f ≠ .holding)
    (silent : f.isSending = true → (b.fwdFrom p).isSending = true) : b.Quiets (b.setFwdFrom p f) where
  hold q hq := by cases p <;> cases q <;> first | exact hq | exact absurd hq hold
  rx q := .inl (Bus.rx_setFwdFrom b p q f)
  transmits q hq := by
    cases p <;> cases q <;> simp only [Bus.transmits, Bus.setFwdFrom, Bool.or_eq_true] at hq ⊢ <;>
      first | exact hq | exact hq.imp silent id
  slot hq := by simpa using hq
  answer hq := by simpa using hq
  errors := by simp
  goodRun := by simp
  state := by simp

theorem emptySlot (b : Bus) : b.Quiets b.emptySlot := by
  have freed : b.Quiets { b with slot := none } := setSlot b none (fun _ => rfl) nofun
  unfold Bus.emptySlot
  split
  · rename_i sends
    exact freed.stopSending .out (by simp [Bus.transmits, sends])
  · exact freed

theorem abandonAnswer (b : Bus) : b.Quiets b.abandonAnswer := by
  have freed : b.Quiets { b with answer := none } := setAnswer b none (fun _ => rfl) nofun
  unfold Bus.abandonAnswer
  split
  · rename_i sends
    exact freed.stopSending .inn (by simp [Bus.transmits, sends])
  · exact freed

/-- A port that forwards transmits on the other port. -/
theorem transmits_of_forward {b : Bus} {p : Port} (h : (b.fwdFrom p).isSending = true) :
    b.transmits (otherPort p) = true := by
  cases p <;> simp_all [Bus.transmits, otherPort, Bus.fwdFrom]

theorem endForward (b : Bus) (p : Port) : b.Quiets (b.endForward p) := by
  have ended : b.Quiets (b.setFwdFrom p .none) := setFwdFrom b p .none nofun nofun
  unfold Bus.endForward
  split
  · rename_i sends
    exact ended.stopSending _ (transmits_of_forward sends)
  · exact ended

theorem cutForward (b : Bus) (p : Port) : b.Quiets (b.cutForward p) := by
  unfold Bus.cutForward
  split
  · rename_i sends
    exact (setFwdFrom b p .abandoned nofun nofun).stopSending _ (transmits_of_forward (by rw [sends]; rfl))
  · exact setFwdFrom b p .none nofun nofun
  · exact refl b
  · exact refl b

theorem dropHeld (b : Bus) (p : Port) : b.Quiets (b.dropHeld p) := by
  unfold Bus.dropHeld
  split
  · exact setFwdFrom b p .none nofun nofun
  · exact refl b

theorem forwardByte (b : Bus) (p : Port) (x : Byte) : b.Quiets (b.forwardByte p x) := by
  unfold Bus.forwardByte
  split
  · rename_i sends
    exact setFwdFrom b p _ nofun fun _ => by rw [sends]; rfl
  all_goals exact refl b

theorem retried (b : Bus) : b.Quiets b.retried := by
  unfold Bus.retried
  split
  · exact refl b
  · rename_i o held
    split
    · exact refl b
    · rename_i phase
      have sends : b.originating = true := by simpa [Bus.originating, held] using phase
      split
      · refine (setSlot b _ ?_ ?_).stopSending .out (by simp [Bus.transmits, sends])
        · simp [held]
        · exact fun _ => sends
      · exact emptySlot b

theorem gaveWay (b : Bus) (p : Port) : b.Quiets (b.gaveWay p) := by
  cases p with
  | inn => exact retried b
  | out =>
    simp only [Bus.gaveWay]
    split
    · exact abandonAnswer b
    · exact refl b

end Bus.Quiets

end Sys2Proof.Machine
end

section
/-! PROOFS. Every step keeps the three laws of the Bus Port (R171, R173, R179, R180; three parts of O59). -/

namespace Sys2Proof.Machine

/-! ### The moves of the port -/

/-- The Bus Port of the second state follows from that of the first. -/
inductive BusMoves : Bus → Bus → Prop
  | quiet {b c : Bus} (h : b.Quiets c) : BusMoves b c
  | trans {b c d : Bus} (first : BusMoves b c) (second : BusMoves c d) : BusMoves b d
  | receive {b : Bus} (p : Port) (r : BusRx) (free : (b.rx p).atDestination = false ∨ b.fwdFrom p ≠ .holding) :
      BusMoves b (b.setRx p r)
  | hold {b : Bus} (p : Port) (x : Byte) (silent : b.transmits p = false) :
      BusMoves b ((b.setFwdFrom p .holding).setRx p (.frame [x] false))
  | forward {b : Bus} (p : Port) (r : BusRx) (bytes : List Byte) (speaks : b.state ≠ .silent) :
      BusMoves b ((((b.setRx p r).gaveWay p).dropHeld (otherPort p)).setFwdFrom p (.sending bytes))
  | originate {b : Bus} (o : Origination) (running : Nat) (active : b.state = .active)
      (clear : o.phase ≠ .sending ∨ b.rxOut = .quiet) : BusMoves b { b with running := running, slot := some o }
  | answer {b : Bus} (a : StatusAnswer) (active : b.state = .active) (clear : a.sending = false ∨ b.rxIn = .quiet) :
      BusMoves b { b with answer := some a }
  | count {b : Bus} (errors goodRun : Nat) (rise : errors ≤ b.errors + 8) (top : errors ≤ 255 ∨ errors ≤ b.errors)
      (run : goodRun ≤ 32 ∨ goodRun ≤ b.goodRun) : BusMoves b (Bus.decided { b with errors := errors, goodRun := goodRun })
  | activate {b : Bus} : BusMoves b { b with errors := 0, goodRun := 0, state := .active }
  | powerOn {b : Bus} : BusMoves b Bus.reset

namespace BusMoves

theorem refl (b : Bus) : BusMoves b b := .quiet (.refl b)

/-- R171, R173: a frame ends bad on a port, whose held length byte is given up. -/
theorem reject (b : Bus) (p : Port) (r : BusRx) : BusMoves b ((b.dropHeld p).setRx p r) := by
  have given : (b.dropHeld p).fwdFrom p ≠ .holding := by
    unfold Bus.dropHeld
    split
    · simp
    · assumption
  exact .trans (.quiet (.dropHeld b p)) (.receive p r (.inr given))

end BusMoves

/-! ### A held length byte (R171, R173) -/

/-- R171, R173: a length byte is held on a port that has taken exactly that byte and does not transmit. -/
def Bus.HoldFits (b : Bus) : Prop :=
  ∀ p, b.fwdFrom p = .holding → (b.rx p).atDestination = true ∧ b.transmits p = false

theorem Bus.HoldFits.quiet {b c : Bus} (hb : b.HoldFits) (h : b.Quiets c) : c.HoldFits := by
  intro q hq
  obtain ⟨first, silent⟩ := hb q (h.hold q hq)
  refine ⟨?_, eq_false_of_ne_true fun sends => Bool.false_ne_true (silent.symm.trans (h.transmits q sends))⟩
  rcases h.rx q with same | sends
  · rwa [same]
  · exact absurd (silent.symm.trans sends) Bool.false_ne_true

theorem Bus.HoldFits.receive {b : Bus} (hb : b.HoldFits) (p : Port) (r : BusRx)
    (free : (b.rx p).atDestination = false ∨ b.fwdFrom p ≠ .holding) : (b.setRx p r).HoldFits := by
  intro q hq
  rw [Bus.fwdFrom_setRx] at hq
  obtain ⟨first, silent⟩ := hb q hq
  have away : q ≠ p := by
    rintro rfl
    rcases free with late | none
    · exact Bool.false_ne_true (late.symm.trans first)
    · exact none hq
  cases p <;> cases q <;> first | exact ⟨first, silent⟩ | exact absurd rfl away

theorem Bus.HoldFits.hold {b : Bus} (hb : b.HoldFits) (p : Port) (x : Byte) (silent : b.transmits p = false) :
    ((b.setFwdFrom p .holding).setRx p (.frame [x] false)).HoldFits := by
  have own : b.transmits (otherPort p) = false →
      ((b.setFwdFrom p .holding).setRx p (.frame [x] false)).transmits (otherPort p) = false := by
    cases p <;> simp_all [Bus.transmits, Bus.setFwdFrom, Bus.setRx, otherPort, Forward.isSending, Bus.originating,
      Bus.answering]
  intro q hq
  by_cases here : q = p
  · subst here
    refine ⟨by rw [Bus.rx_setRx_same]; rfl, ?_⟩
    cases q <;> exact silent
  · have there : q = otherPort p := by cases p <;> cases q <;> first | rfl | exact absurd rfl here
    subst there
    rw [Bus.fwdFrom_setRx, Bus.fwdFrom_setFwdFrom_other] at hq
    obtain ⟨first, quiet⟩ := hb _ hq
    exact ⟨by rwa [Bus.rx_setRx_other, Bus.rx_setFwdFrom], own quiet⟩

/-- R173: a forward that starts leaves no length byte held on either port. -/
theorem Bus.HoldFits.forward (b : Bus) (p : Port) (bytes : List Byte) :
    ((b.dropHeld (otherPort p)).setFwdFrom p (.sending bytes)).HoldFits := by
  intro q hq
  by_cases here : q = p
  · subst here
    rw [Bus.fwdFrom_setFwdFrom_same] at hq
    cases hq
  · have there : q = otherPort p := by cases p <;> cases q <;> first | rfl | exact absurd rfl here
    subst there
    rw [Bus.fwdFrom_setFwdFrom_other] at hq
    unfold Bus.dropHeld at hq
    split at hq
    · simp at hq
    · exact absurd hq ‹_›

theorem Bus.HoldFits.originate {b : Bus} (hb : b.HoldFits) (o : Origination) (running : Nat)
    (clear : o.phase ≠ .sending ∨ b.rxOut = .quiet) : Bus.HoldFits { b with running := running, slot := some o } := by
  intro q hq
  cases q with
  | inn => exact hb .inn hq
  | out =>
    obtain ⟨first, silent⟩ := hb .out hq
    refine ⟨first, ?_⟩
    rcases clear with waits | quiet
    · simp_all [Bus.transmits, Bus.originating]
    · simp [Bus.rx, quiet, BusRx.atDestination] at first

theorem Bus.HoldFits.answer {b : Bus} (hb : b.HoldFits) (a : StatusAnswer)
    (clear : a.sending = false ∨ b.rxIn = .quiet) : Bus.HoldFits { b with answer := some a } := by
  intro q hq
  cases q with
  | out => exact hb .out hq
  | inn =>
    obtain ⟨first, silent⟩ := hb .inn hq
    refine ⟨first, ?_⟩
    rcases clear with waits | quiet
    · simp_all [Bus.transmits, Bus.answering]
    · simp [Bus.rx, quiet, BusRx.atDestination] at first

/-- R180: what the entry to a port state stops. -/
theorem Bus.HoldFits.entered {b : Bus} (hb : b.HoldFits) (new : PortState) : (b.entered new).HoldFits := by
  have idle : b.emptySlot.abandonAnswer.HoldFits := (hb.quiet (.emptySlot b)).quiet (.abandonAnswer _)
  cases new with
  | active =>
    simp only [Bus.entered]
    split <;> exact hb
  | passive => exact idle
  | silent =>
    have cut : ((b.emptySlot.abandonAnswer.cutForward .inn).cutForward .out).HoldFits :=
      (idle.quiet (.cutForward _ _)).quiet (.cutForward _ _)
    exact cut

theorem Bus.HoldFits.decided {b : Bus} (hb : b.HoldFits) : b.decided.HoldFits := by
  unfold Bus.decided
  (repeat' split) <;> first | exact hb | exact hb.entered _

theorem BusMoves.holdFits {b c : Bus} (m : BusMoves b c) (hb : b.HoldFits) : c.HoldFits := by
  induction m with
  | quiet h => exact hb.quiet h
  | trans _ _ first second => exact second (first hb)
  | receive p r free => exact hb.receive p r free
  | hold p x silent => exact hb.hold p x silent
  | forward p r bytes _ => exact .forward _ p bytes
  | originate o running _ clear => exact hb.originate o running clear
  | answer a _ clear => exact hb.answer a clear
  | @count b errors goodRun _ _ _ =>
    exact Bus.HoldFits.decided (b := { b with errors := errors, goodRun := goodRun }) hb
  | activate => exact hb
  | powerOn => exact fun p hp => by cases p <;> cases hp

/-! ### What a port that is not ACTIVE sends (R180) -/

/-- R180: nothing is transmitted in SILENT, and nothing is originated or answered outside ACTIVE. -/
structure Bus.PortFits (b : Bus) : Prop where
  silent : b.state = .silent → ∀ p, b.transmits p = false
  passive : b.state ≠ .active → b.slot = none ∧ b.answer = none

theorem portLaw_iff (s : State) : PortLaw s ↔ s.bus.PortFits :=
  ⟨fun ⟨silent, passive⟩ => ⟨silent, passive⟩, fun ⟨silent, passive⟩ => ⟨silent, passive⟩⟩

theorem Bus.PortFits.quiet {b c : Bus} (hb : b.PortFits) (h : b.Quiets c) : c.PortFits where
  silent hs p := eq_false_of_ne_true fun sends =>
    Bool.false_ne_true ((hb.silent (h.state.symm.trans hs) p).symm.trans (h.transmits p sends))
  passive hs := by
    obtain ⟨slot, answer⟩ := hb.passive (h.state ▸ hs)
    exact ⟨h.slot slot, h.answer answer⟩

/-- An ACTIVE port may send what it likes. -/
theorem Bus.PortFits.of_active {b : Bus} (active : b.state = .active) : b.PortFits :=
  ⟨fun silent => by simp [active] at silent, fun away => absurd active away⟩

@[simp] theorem Bus.emptySlot_slot (b : Bus) : b.emptySlot.slot = none := by
  unfold Bus.emptySlot
  split <;> simp [Bus.stopSending]

@[simp] theorem Bus.abandonAnswer_answer (b : Bus) : b.abandonAnswer.answer = none := by
  unfold Bus.abandonAnswer
  split <;> simp [Bus.stopSending]

theorem Bus.cutForward_isSending (b : Bus) (p : Port) : ((b.cutForward p).fwdFrom p).isSending = false := by
  unfold Bus.cutForward
  split
  · simp [Bus.stopSending, Forward.isSending]
  · simp [Forward.isSending]
  · rename_i h
    rw [h]
    rfl
  · rename_i h
    rw [h]
    rfl

theorem Bus.cutForward_other (b : Bus) (p : Port) :
    (b.cutForward p).fwdFrom (otherPort p) = b.fwdFrom (otherPort p) := by
  unfold Bus.cutForward
  split <;> simp [Bus.stopSending]

/-- With nothing in the slot, no answer and no forward sending, the port does not transmit. -/
theorem Bus.transmits_of_idle {b : Bus} (slot : b.slot = none) (answer : b.answer = none)
    (down : (b.fwdFrom .inn).isSending = false) (up : (b.fwdFrom .out).isSending = false) (p : Port) :
    b.transmits p = false := by
  cases p with
  | inn =>
    have : b.fwdUp.isSending = false := up
    simp [Bus.transmits, Bus.answering, answer, this]
  | out =>
    have : b.fwdDown.isSending = false := down
    simp [Bus.transmits, Bus.originating, slot, this]

theorem Bus.entered_portFits (b : Bus) (new : PortState) : (b.entered new).PortFits := by
  have idle := (Bus.Quiets.abandonAnswer b.emptySlot).slot b.emptySlot_slot
  cases new with
  | active =>
    refine .of_active ?_
    simp only [Bus.entered]
    split <;> rfl
  | passive => exact ⟨nofun, fun _ => ⟨idle, b.emptySlot.abandonAnswer_answer⟩⟩
  | silent =>
    let mute := b.emptySlot.abandonAnswer.cutForward .inn
    have cut : mute.Quiets (mute.cutForward .out) := .cutForward _ _
    have quiet : b.emptySlot.abandonAnswer.Quiets (mute.cutForward .out) :=
      (Bus.Quiets.cutForward _ _).trans cut
    have slot := quiet.slot idle
    have answer := quiet.answer b.emptySlot.abandonAnswer_answer
    have down : ((mute.cutForward .out).fwdFrom .inn).isSending = false := by
      rw [show Port.inn = otherPort .out from rfl, Bus.cutForward_other]
      exact Bus.cutForward_isSending _ .inn
    exact ⟨fun _ => Bus.transmits_of_idle (b := mute.cutForward .out) slot answer down (Bus.cutForward_isSending _ _),
      fun _ => ⟨slot, answer⟩⟩

theorem Bus.PortFits.decided {b : Bus} (hb : b.PortFits) : b.decided.PortFits := by
  unfold Bus.decided
  (repeat' split) <;> first | exact hb | exact b.entered_portFits _

theorem BusMoves.portFits {b c : Bus} (m : BusMoves b c) (hb : b.PortFits) : c.PortFits := by
  induction m with
  | quiet h => exact hb.quiet h
  | trans _ _ first second => exact second (first hb)
  | @receive b p r _ => 
    obtain ⟨silent, passive⟩ := hb
    refine ⟨fun hs q => ?_, fun hs => by simpa using passive (by simpa using hs)⟩
    have := silent (by simpa using hs) q
    cases p <;> cases q <;> exact this
  | @hold b p x quiet =>
    obtain ⟨silent, passive⟩ := hb
    refine ⟨fun hs q => ?_, fun hs => by simpa using passive (by simpa using hs)⟩
    have := silent (by simpa using hs) q
    cases p <;> cases q <;>
      simp_all [Bus.transmits, Bus.setFwdFrom, Bus.setRx, Forward.isSending, Bus.originating, Bus.answering]
  | @forward b p r bytes speaks =>
    have quiet := (Bus.Quiets.gaveWay (b.setRx p r) p).trans (.dropHeld _ (otherPort p))
    have state : ((((b.setRx p r).gaveWay p).dropHeld (otherPort p)).setFwdFrom p (.sending bytes)).state = b.state := by
      simpa using quiet.state
    refine ⟨fun hs => absurd (state.symm.trans hs) speaks, fun hs => ?_⟩
    obtain ⟨slot, answer⟩ := hb.passive (state ▸ hs)
    simpa using And.intro (quiet.slot (by simpa using slot)) (quiet.answer (by simpa using answer))
  | originate _ _ active _ => exact .of_active active
  | answer _ active _ => exact .of_active active
  | @count b errors goodRun _ _ _ =>
    exact Bus.PortFits.decided (b := { b with errors := errors, goodRun := goodRun }) ⟨hb.silent, hb.passive⟩
  | activate => exact .of_active rfl
  | powerOn => exact .of_active rfl

/-! ### The error counter and the port state (R179, R180) -/

/-- R179, R180: the counter and the run in their ranges, and the counter in the range of the port state. -/
structure Bus.CounterFits (b : Bus) : Prop where
  errors : b.errors ≤ 255
  run : b.goodRun ≤ 32
  active : b.state = .active → b.errors < 96
  passive : b.state = .passive → 64 ≤ b.errors ∧ b.errors < 160

theorem counterLaw_iff (s : State) : CounterLaw s ↔ s.bus.CounterFits :=
  ⟨fun ⟨errors, run, active, passive⟩ => ⟨errors, run, active, passive⟩,
    fun ⟨errors, run, active, passive⟩ => ⟨errors, run, active, passive⟩⟩

theorem Bus.CounterFits.of_view {b c : Bus} (hb : b.CounterFits) (errors : c.errors = b.errors)
    (run : c.goodRun = b.goodRun) (state : c.state = b.state) : c.CounterFits :=
  ⟨errors ▸ hb.errors, run ▸ hb.run, by rw [errors, state]; exact hb.active, by rw [errors, state]; exact hb.passive⟩

/-- R180: PASSIVE and SILENT are entered with the counter and, but for SILENT's run, the run as they stand. -/
theorem Bus.entered_passive_counts (b : Bus) : (b.entered .passive).errors = b.errors ∧
    (b.entered .passive).goodRun = b.goodRun ∧ (b.entered .passive).state = .passive := by
  have quiet := (Bus.Quiets.emptySlot b).trans (.abandonAnswer _)
  exact ⟨quiet.errors, quiet.goodRun, rfl⟩

theorem Bus.entered_silent_counts (b : Bus) : (b.entered .silent).errors = b.errors ∧
    (b.entered .silent).goodRun = 0 ∧ (b.entered .silent).state = .silent := by
  have quiet := (((Bus.Quiets.emptySlot b).trans (.abandonAnswer _)).trans (.cutForward _ .inn)).trans (.cutForward _ .out)
  exact ⟨quiet.errors, rfl, rfl⟩

/-- R179, R180: the state decided after a count agrees with the counter, which one event raises by 8 at most. -/
theorem Bus.CounterFits.count {b : Bus} (hb : b.CounterFits) {errors goodRun : Nat} (rise : errors ≤ b.errors + 8)
    (top : errors ≤ 255 ∨ errors ≤ b.errors) (run : goodRun ≤ 32 ∨ goodRun ≤ b.goodRun) :
    (Bus.decided { b with errors := errors, goodRun := goodRun }).CounterFits := by
  obtain ⟨limit, least, active, passive⟩ := hb
  have below : errors ≤ 255 := by omega
  have run : goodRun ≤ 32 := by omega
  simp only [Bus.decided]
  split
  · rename_i stands
    have := active stands
    split
    · obtain ⟨e, g, st⟩ := Bus.entered_passive_counts { b with errors := errors, goodRun := goodRun }
      exact ⟨e ▸ below, g ▸ run, fun h => by simp [st] at h, fun _ => by rw [e]; exact ⟨by dsimp; omega, by dsimp; omega⟩⟩
    · exact ⟨below, run, fun _ => by dsimp; omega, fun h => by simp [stands] at h⟩
  · rename_i stands
    have := passive stands
    split
    · obtain ⟨e, g, st⟩ := Bus.entered_silent_counts { b with errors := errors, goodRun := goodRun }
      exact ⟨e ▸ below, g ▸ Nat.zero_le _, fun h => by simp [st] at h, fun h => by simp [st] at h⟩
    · split
      · have away : b.state ≠ .silent := by simp [stands]
        simp only [Bus.entered, if_neg away]
        exact ⟨below, run, fun _ => by dsimp; omega, nofun⟩
      · exact ⟨below, run, fun h => by simp [stands] at h, fun _ => by dsimp; omega⟩
  · rename_i stands
    split
    · simp only [Bus.entered, if_pos stands]
      exact ⟨Nat.zero_le _, Nat.zero_le _, fun _ => (by decide : 0 < 96), nofun⟩
    · exact ⟨below, run, fun h => by simp [stands] at h, fun h => by simp [stands] at h⟩

theorem BusMoves.counterFits {b c : Bus} (m : BusMoves b c) (hb : b.CounterFits) : c.CounterFits := by
  induction m with
  | quiet h => exact hb.of_view h.errors h.goodRun h.state
  | trans _ _ first second => exact second (first hb)
  | receive | hold => exact hb.of_view (by simp) (by simp) (by simp)
  | @forward b p r bytes _ =>
    have quiet := (Bus.Quiets.gaveWay (b.setRx p r) p).trans (.dropHeld _ (otherPort p))
    exact hb.of_view (by simpa using quiet.errors) (by simpa using quiet.goodRun) (by simpa using quiet.state)
  | originate | answer => exact hb.of_view rfl rfl rfl
  | count _ _ rise top run => exact hb.count rise top run
  | activate => exact ⟨Nat.zero_le _, Nat.zero_le _, fun _ => (by decide : 0 < 96), nofun⟩
  | powerOn => exact ⟨Nat.zero_le _, Nat.zero_le _, fun _ => (by decide : 0 < 96), nofun⟩

end Sys2Proof.Machine
end

section
/-! PROOFS. Every step is a chain of moves of the Bus Port, and the three laws of the port in O59. -/

namespace Sys2Proof.Machine

section

variable {s t : State}

/-- A step that changes other blocks alone. -/
theorem busMoves_of_same (h : t.bus = s.bus := by simp) : BusMoves s.bus t.bus := h ▸ .refl s.bus

/-! ### Counting and sending (R173, R175 to R180) -/

theorem countGood_busMoves : BusMoves s.bus (countGood s).bus := by
  rw [countGood, decidePort_bus]
  exact .count _ _ (by omega) (.inr (Nat.sub_le _ _)) (.inl (Nat.min_le_left _ _))

theorem countBad_busMoves : BusMoves s.bus (countBad s).bus := by
  rw [countBad, decidePort_bus]
  exact .count _ _ (by simp only [satAdd]; omega) (.inl (Nat.min_le_left _ _)) (.inl (Nat.zero_le _))

theorem countCollision_busMoves : BusMoves s.bus (countCollision s).bus := by
  rw [countCollision, decidePort_bus]
  exact .count _ _ (by simp only [satAdd]; omega) (.inl (Nat.min_le_left _ _)) (.inr le_rfl)

theorem offerFrame_busMoves (origin dest key : Nat) (args : List Nat) (rep : Bool) :
    BusMoves s.bus (offerFrame origin dest key args rep s).1.bus := by
  simp only [offerFrame]
  split
  · exact .refl _
  · rename_i able
    have ready : s.bus.slot = none ∧ s.bus.state = .active := by simpa [Bus.canOriginate] using able
    exact .originate _ _ ready.2 (.inl nofun)

theorem answerStatus_busMoves (seq : Nat) : BusMoves s.bus (answerStatus seq s).bus := by
  unfold answerStatus
  split
  · rename_i ready
    exact .answer _ ready.1 (.inl rfl)
  · exact .refl _

/-! ### Received bytes (R171 to R174) -/

theorem endBad_busMoves (p : Port) (rx : BusRx) (named : Bool) (cause : FrameFault) :
    BusMoves s.bus (endBad p rx named cause s).bus := by
  have reported : (reportBad p named cause (s.onBus fun b => (b.dropHeld p).setRx p rx)).bus =
      (s.bus.dropHeld p).setRx p rx := by simp
  exact .trans (reported ▸ .reject s.bus p rx) countBad_busMoves

theorem takeFrame_busMoves (f : RemoteFrame) : BusMoves s.bus (takeFrame f s).bus := by
  unfold takeFrame
  split
  · split
    · exact answerStatus_busMoves _
    · exact .refl _
  · split
    · exact .refl _
    · exact busMoves_of_same

theorem endComplete_busMoves (p : Port) (bytes : List Byte) (consume : Bool)
    (later : (s.bus.rx p).atDestination = false) : BusMoves s.bus (endComplete p bytes consume s).bus := by
  simp only [endComplete]
  split
  · exact endBad_busMoves _ _ _ _
  · split
    · exact endBad_busMoves _ _ _ _
    · have tail : BusMoves s.bus (s.onBus fun b => b.setRx p .tail).bus := .receive p .tail (.inl later)
      refine .trans ?_ countGood_busMoves
      split
      · exact tail.trans (takeFrame_busMoves _)
      · exact tail

theorem startForward_busMoves (p : Port) (r : BusRx) (bytes : List Byte) (speaks : s.bus.state ≠ .silent) :
    BusMoves s.bus (startForward p bytes (s.onBus fun b => b.setRx p r)).bus := by
  rw [startForward_bus]
  exact .forward p r bytes speaks

/-- R172, R173: a frame that is not forwarded gives up its held length byte. -/
theorem dropped_busMoves (p : Port) (r : BusRx) :
    BusMoves s.bus ((s.onBus fun b => b.setRx p r).onBus (Bus.dropHeld p)).bus := by
  have swap : (s.bus.setRx p r).dropHeld p = (s.bus.dropHeld p).setRx p r := by
    unfold Bus.dropHeld
    rw [Bus.fwdFrom_setRx]
    split <;> cases p <;> rfl
  show BusMoves s.bus ((s.bus.setRx p r).dropHeld p)
  exact swap ▸ .reject s.bus p r

theorem decideDestination_busMoves (p : Port) (length b : Byte) :
    BusMoves s.bus (decideDestination p length b s).bus := by
  cases p with
  | inn =>
    simp only [decideDestination, decideIn]
    split
    · exact endBad_busMoves _ _ _ _
    · split
      · rename_i forwards
        refine startForward_busMoves _ _ _ fun silent => ?_
        simp [silent] at forwards
      · exact dropped_busMoves _ _
  | out =>
    simp only [decideDestination, decideOut]
    split
    · exact dropped_busMoves _ _
    · rename_i speaks
      exact startForward_busMoves _ _ _ speaks

theorem Bus.endForward_own (b : Bus) (p : Port) :
    (b.endForward p).rx p = b.rx p ∧ (b.endForward p).fwdFrom p = .none ∧
    (b.endForward p).transmits p = b.transmits p := by
  unfold Bus.endForward
  split <;> cases p <;> exact ⟨rfl, rfl, rfl⟩

/-- R171, R173: a length byte is held for its forward, but in SILENT. -/
theorem BusMoves.firstByte {b : Bus} {p : Port} (x : Byte) (free : b.fwdFrom p ≠ .holding)
    (silent : b.transmits p = false) : BusMoves b
      ((if b.state = .silent then b else b.setFwdFrom p .holding).setRx p (.frame [x] false)) := by
  split
  · exact .receive p _ (.inr free)
  · exact .hold p x silent

theorem firstByte_busMoves (p : Port) (b : Byte) (silent : s.bus.transmits p = false) :
    BusMoves s.bus (firstByte p b s).bus := by
  have ended : BusMoves s.bus (s.onBus (Bus.endForward p)).bus := .quiet (.endForward _ p)
  obtain ⟨-, forward, transmits⟩ := s.bus.endForward_own p
  simp only [firstByte]
  split
  · exact ended.trans (.firstByte b (by rw [State.onBus_bus, forward]; nofun) (transmits.trans silent))
  · exact ended.trans (endBad_busMoves _ _ _ _)

theorem laterByte_busMoves (p : Port) (before : List Byte) (consume : Bool) (b : Byte)
    (later : (s.bus.rx p).atDestination = false) : BusMoves s.bus (laterByte p before consume b s).bus := by
  have sent : BusMoves s.bus (s.onBus (Bus.forwardByte p b)).bus := .quiet (.forwardByte _ p b)
  have still : ((s.bus.forwardByte p b).rx p).atDestination = false := by
    unfold Bus.forwardByte
    split <;> simp [later]
  simp only [laterByte]
  split
  · exact sent.trans (endComplete_busMoves _ _ _ still)
  · exact sent.trans (.receive p _ (.inl still))

theorem busByte_busMoves (p : Port) (b : Byte) : BusMoves s.bus (busByte p b s).bus := by
  unfold busByte
  split
  · exact .refl _
  · rename_i silent
    split
    · exact firstByte_busMoves p b (eq_false_of_ne_true silent)
    · exact .refl _
    · exact decideDestination_busMoves _ _ _
    · rename_i before consume longer hears
      refine laterByte_busMoves _ _ _ _ ?_
      rw [hears]
      match before with
      | [] => rfl
      | [x] => exact absurd rfl (longer x)
      | _ :: _ :: _ => rfl

theorem busErrorByte_busMoves (p : Port) : BusMoves s.bus (busErrorByte p s).bus := by
  unfold busErrorByte
  split
  · exact .refl _
  · split
    · exact .trans (.quiet (.endForward _ p)) (endBad_busMoves (s := s.onBus (Bus.endForward p)) _ _ _ _)
    · exact .refl _
    · exact endBad_busMoves _ _ _ _

theorem busGap_busMoves (p : Port) : BusMoves s.bus (busGap p s).bus := by
  unfold busGap
  split
  · exact .refl _
  · split
    · exact endBad_busMoves _ _ _ _
    · exact .refl _
    · exact .refl _

/-! ### Collisions (R173, R175, R177) -/

theorem collide_busMoves (p : Port) : BusMoves s.bus (collide p s).bus := by
  have cut (q : Port) : BusMoves s.bus (countCollision (s.onBus (Bus.cutForward q))).bus :=
    .trans (.quiet (.cutForward _ q)) (countCollision_busMoves (s := s.onBus (Bus.cutForward q)))
  unfold collide
  split
  · split
    · exact cut .inn
    · split
      · rw [retryFrame_bus]
        exact countCollision_busMoves.trans (.quiet (.retried _))
      · exact .refl _
  · split
    · exact cut .out
    · split
      · exact .trans (.quiet (.abandonAnswer _)) (countCollision_busMoves (s := s.onBus Bus.abandonAnswer))
      · exact .refl _

/-! ### Cue words (R145) -/

theorem offerAction_busMoves (n : Nat) (a : CueAction) : BusMoves s.bus (offerAction n a s).1.bus := by
  cases a with
  | relay dest key arg => exact offerFrame_busMoves _ _ _ _ _
  | _ => exact busMoves_of_same (by simp [offerAction])

theorem cueHit_busMoves (n : Nat) (code : CueCode) : BusMoves s.bus (cueHit n code s).bus := by
  unfold cueHit
  split
  · exact .refl _
  · rename_i a _
    have offered := offerAction_busMoves (s := s) n a
    simp only
    split
    · exact offered.trans busMoves_of_same
    · exact offered.trans busMoves_of_same

theorem acceptCode_busMoves (code : CueCode) (kind : CodeKind) : BusMoves s.bus (acceptCode code kind s).bus := by
  unfold acceptCode
  split
  · unfold lookUp
    split
    · exact cueHit_busMoves _ _
    · split <;> exact busMoves_of_same
  · exact busMoves_of_same
  · exact .refl _

theorem wordDone_busMoves (bits : List Bool) (stop : Bool) : BusMoves s.bus (wordDone bits stop s).bus := by
  simp only [wordDone]
  split
  · exact busMoves_of_same
  · split
    · unfold confirmWord
      split
      · split
        · exact acceptCode_busMoves (s := (s.onCue fun u => { u with rx := .idle }).onCue fun u => { u with holding := none }) _ _
        · exact .refl _
      · exact .refl _
    · exact acceptCode_busMoves (s := s.onCue fun u => { u with rx := .idle }) _ _

theorem execCueWordComplete_busMoves {stop : Bool} (h : execCueWordComplete stop s = .next t) :
    BusMoves s.bus t.bus := by
  unfold execCueWordComplete at h
  (repeat' split at h) <;> cases h <;> first | exact .refl _ | exact wordDone_busMoves _ _

theorem execPulseCue_busMoves (h : execPulseCue s = .next t) : BusMoves s.bus t.bus := by
  cases h
  split
  · exact acceptCode_busMoves (s := toneEnd s) _ _
  · exact .refl _

/-! ### The commands of the port -/

theorem busRequest_busMoves {c : Instr} {owner : State → Reply} (h : hostRequest c owner s = .next t)
    (ho : BusMoves s.bus (owner s).state.bus) : BusMoves s.bus t.bus := by
  rcases hostRequest_cases h with ⟨-, rfl⟩ | ⟨-, rfl⟩
  · exact ho.trans busMoves_of_same
  · exact .refl _

theorem execSetAddress_busMoves {address : Nat} {groups : List Nat} (h : execSetAddress address groups s = .next t) :
    BusMoves s.bus t.bus := by
  refine busRequest_busMoves h ?_
  split
  · exact .quiet ⟨fun q hq => by cases q <;> exact hq, fun q => .inl (by cases q <;> rfl),
      fun q hq => by cases q <;> exact hq, id, id, rfl, rfl, rfl⟩
  · exact .refl _

theorem execSendFrame_busMoves {dest key : Nat} {args : List Nat} {rep : Nat}
    (h : execSendFrame dest key args rep s = .next t) : BusMoves s.bus t.bus := by
  refine busRequest_busMoves h ?_
  split
  · exact offerFrame_busMoves _ _ _ _ _
  · exact .refl _

/-- R180: PORT RESTART makes the port ACTIVE with its counter and its run at 0, from every state. -/
theorem execPortRestart_busMoves (h : execPortRestart s = .next t) : BusMoves s.bus t.bus := by
  refine busRequest_busMoves h ?_
  simp only [answer_state]
  split
  · rename_i active
    have same : ({ s.bus with errors := 0, goodRun := 0, state := .active } : Bus) =
        { s.bus with errors := 0, goodRun := 0 } := by
      rw [← show s.bus.state = .active from active]
    exact (congrArg (BusMoves s.bus) same).mp .activate
  · rw [enterPort_bus]
    simp only [Bus.entered]
    split <;> exact .activate

theorem execReset_busMoves (h : execReset s = .next t) : BusMoves s.bus t.bus := by
  refine busRequest_busMoves h ?_
  rw [answer_state, resetRequest_bus]
  have stopped := (Bus.Quiets.emptySlot s.bus).trans (.abandonAnswer _)
  exact .trans (.quiet stopped) .activate

theorem execStatusAnswerStart_busMoves (h : execStatusAnswerStart s = .next t) : BusMoves s.bus t.bus := by
  unfold execStatusAnswerStart at h
  split at h
  · split at h <;> cases h
    · rename_i ready
      exact .answer _ ready.2.1 (.inr ready.2.2.1)
    · exact .refl _
  · cases h
    exact .refl _

theorem execOriginationStart_busMoves (h : execOriginationStart s = .next t) : BusMoves s.bus t.bus := by
  unfold execOriginationStart at h
  split at h
  · split at h <;> cases h
    · rename_i ready
      exact .originate _ s.bus.running ready.2.1 (.inr ready.2.2.1)
    · exact .refl _
  · cases h
    exact .refl _

theorem execBackoffEnd_busMoves (h : execBackoffEnd s = .next t) : BusMoves s.bus t.bus := by
  unfold execBackoffEnd at h
  split at h
  · rename_i held
    split at h <;> cases h
    · exact .quiet (.setSlot _ _ (by simp [held]) nofun)
    · exact .refl _
  · cases h
    exact .refl _

theorem execOriginationWaitTimeout_busMoves (h : execOriginationWaitTimeout s = .next t) : BusMoves s.bus t.bus := by
  unfold execOriginationWaitTimeout at h
  split at h
  · cases h
    split
    · rw [dropFrame_bus]
      exact .quiet (.emptySlot _)
    · exact .refl _
  · cases h
    exact .refl _

/-- R171: a tail that ends in quiet is no frame whose length byte is held. -/
theorem execBusTailQuiet_busMoves {p : Port} (h : execBusTailQuiet p s = .next t) : BusMoves s.bus t.bus := by
  cases h
  split
  · rename_i tail
    exact .receive p .quiet (.inl (by rw [tail.1]; rfl))
  · exact .refl _

theorem execBusFrameEnd_busMoves {p : Port} {last : Option Byte} (h : execBusFrameEnd p last s = .next t) :
    BusMoves s.bus t.bus := by
  cases last with
  | none =>
    cases h
    exact busErrorByte_busMoves p
  | some b =>
    cases h
    split
    · exact busByte_busMoves p b
    · exact .refl _

theorem exec_busMoves {c : Instr} (h : exec c s = .next t) : BusMoves s.bus t.bus := by
  cases c with
  | setAddress address groups => exact execSetAddress_busMoves h
  | sendFrame dest key args rep => exact execSendFrame_busMoves h
  | portAbort => exact busRequest_busMoves (show execPortAbort s = _ from h) (.quiet (.emptySlot _))
  | portRestart => exact execPortRestart_busMoves h
  | reset => exact execReset_busMoves h
  | powerOnReset =>
    cases h
    exact .powerOn
  | cueWordComplete stop => exact execCueWordComplete_busMoves h
  | pulseCue => exact execPulseCue_busMoves h
  | busDestinationDecided p b =>
    cases h
    split
    · exact busByte_busMoves p b
    · exact .refl _
  | busFrameEnd p last => exact execBusFrameEnd_busMoves h
  | busGapTimeout p =>
    cases h
    exact busGap_busMoves p
  | busTailQuiet p => exact execBusTailQuiet_busMoves h
  | busByteReceived p b =>
    cases h
    exact busByte_busMoves p b
  | busCollision p =>
    cases h
    exact collide_busMoves p
  | busForwardEnd sender =>
    cases h
    split
    · exact .refl _
    · exact .quiet (.endForward _ _)
  | statusAnswerStart => exact execStatusAnswerStart_busMoves h
  | statusAnswerDone | statusAnswerTimeout =>
    cases h
    split <;> first | exact .refl _ | exact .quiet (.abandonAnswer _)
  | originationStart => exact execOriginationStart_busMoves h
  | originationDone =>
    cases h
    split
    · exact .quiet (.emptySlot _)
    · exact .refl _
  | originationWaitTimeout => exact execOriginationWaitTimeout_busMoves h
  | backoffEnd => exact execBackoffEnd_busMoves h
  | _ => exact busMoves_of_same (exec_leaves .bus h (by simp [touches]))

/-- R175, R177: a millisecond is counted on what waits, and nothing else. -/
theorem Bus.Quiets.passMs (b : Bus) : b.Quiets b.passMs := by
  refine (setSlot b (b.slot.map fun o => if o.phase = .waiting then { o with wait := o.wait - 1 } else o) ?_ ?_).trans
    (setAnswer _ (b.answer.map fun a => if a.sending then a else { a with left := a.left - 1 }) ?_ ?_)
  · simp +contextual
  · cases held : b.slot with
    | none => simp [Bus.originating]
    | some o =>
      by_cases waits : o.phase = .waiting <;> simp [Bus.originating, held, waits]
  · simp +contextual
  · cases b.answer with
    | none => simp [Bus.answering]
    | some a =>
      by_cases sends : a.sending = true <;> simp [Bus.answering, sends]

theorem step_busMoves (h : step s = .next t) : BusMoves s.bus t.bus := by
  rcases step_cases h with rfl | ⟨c, rest, -, he⟩
  · exact .quiet (.passMs s.bus)
  · exact exec_busMoves (s := { s with pending := rest }) he

theorem step_holdLaw (h : step s = .next t) (hs : HoldLaw s) : HoldLaw t := (step_busMoves h).holdFits hs

theorem step_portLaw (h : step s = .next t) (hs : PortLaw s) : PortLaw t :=
  (portLaw_iff t).mpr ((step_busMoves h).portFits ((portLaw_iff s).mp hs))

theorem step_counterLaw (h : step s = .next t) (hs : CounterLaw s) : CounterLaw t :=
  (counterLaw_iff t).mpr ((step_busMoves h).counterFits ((counterLaw_iff s).mp hs))

end

end Sys2Proof.Machine
end

section
/-! SUPPORT. What a step can do to the Panel Link: raise notices, answer a request, or move a frame. Every operation of the
other blocks raises notices at most. -/

namespace Sys2Proof.Machine

/-- R187: the Panel Link of the second state is that of the first after some notices. -/
inductive Raised (s₀ : State) : State → Prop
  | same {s : State} (link : s.link = s₀.link) : Raised s₀ s
  | notice {s t : State} (n : Notice) (before : Raised s₀ s) (link : t.link = (raise n s).link) : Raised s₀ t

namespace Raised

section

variable {s₀ s t : State} (m : Raised s₀ s)
include m

/-- A change of the other blocks alone. -/
theorem elsewhere (link : t.link = s.link := by simp) : Raised s₀ t := by
  cases m with
  | same e => exact .same (link.trans e)
  | notice n before e => exact .notice n before (link.trans e)

theorem raised (n : Notice) : Raised s₀ (raise n s) := .notice n m rfl

theorem raisedIf (b : Bool) (n : Notice) : Raised s₀ (raiseIf b n s) := by
  cases b
  · exact m
  · exact m.raised n

/-! ### The jam, the bridge and the lifter -/

theorem finishChange (r : ChangeResult) : Raised s₀ (finishChange r s) := by
  unfold Machine.finishChange
  split
  · exact m
  · exact Raised.raised m.elsewhere _

theorem jam (reason : JamReason) : Raised s₀ (jam reason s) :=
  Raised.finishChange (Raised.raised m.elsewhere _) _

theorem enterRotating : Raised s₀ (enterRotating s) := by
  have rotating : Raised s₀ (s.onChanger fun c => { c with state := .rotating }) := m.elsewhere
  simp only [Machine.enterRotating]
  split
  · exact rotating
  · split
    · exact rotating.elsewhere
    · split
      · exact Raised.jam rotating.elsewhere .lifter
      · exact rotating.elsewhere

theorem stall : Raised s₀ (stall s) := by
  unfold Machine.stall
  split
  · exact m.elsewhere
  · exact Raised.jam m.elsewhere .stall

theorem windowMiss : Raised s₀ (windowMiss s) := by
  unfold Machine.windowMiss
  split
  · exact m.elsewhere
  · exact m.stall

theorem windowBrakeEnd : Raised s₀ (windowBrakeEnd s) := by
  unfold Machine.windowBrakeEnd
  split
  case h_1 | h_2 =>
    split
    · exact m.elsewhere
    · exact m.windowMiss
  all_goals exact m

theorem brakeEnd : Raised s₀ (brakeEnd s) := by
  have released : Raised s₀ (s.onDrive Drive.release) := m.elsewhere
  simp only [Machine.brakeEnd]
  split
  · exact released
  · split
    · exact released.jam .lifter
    · split
      case h_2 => exact released.windowBrakeEnd
      all_goals exact released.elsewhere

theorem upReached : Raised s₀ (upReached s) := by
  simp only [Machine.upReached]
  split
  · exact m.elsewhere
  · split
    · exact Raised.enterRotating m.elsewhere
    · exact m.elsewhere

theorem indexHomed : Raised s₀ (indexHomed s) := by
  simp only [Machine.indexHomed]
  split
  · exact m
  · exact Raised.raised m.elsewhere _

/-! ### The phases and the queue -/

theorem enterLifting : Raised s₀ (enterLifting s) := by
  have lifting : Raised s₀ (s.onChanger fun c => { c with state := .lifting }) := m.elsewhere
  simp only [Machine.enterLifting]
  split
  · exact lifting.enterRotating
  · exact lifting.elsewhere

theorem enterFadingOut : Raised s₀ (enterFadingOut s) := by
  simp only [Machine.enterFadingOut]
  split
  · exact Raised.enterLifting m.elsewhere
  · have fading (n : Nat) : Raised s₀ (s.onLamp (Lamp.fadeOut n)) := m.elsewhere
    cases s.changer.currentSlot with
    | none => exact (fading 0).enterLifting
    | some r =>
      simp only
      split
      · exact (fading r.fadeOut).enterLifting
      · exact (fading r.fadeOut).elsewhere

theorem takeFrom {q : List Entry} : Raised s₀ (takeFrom q s) := by
  induction q generalizing s with
  | nil => exact m
  | cons e rest ih =>
    simp only [Machine.takeFrom]
    split
    · refine ih ?_
      unfold discardAtTrayEnd
      exact Raised.raised m.elsewhere _
    · exact Raised.enterFadingOut m.elsewhere

theorem pump : Raised s₀ (pump s) := by
  unfold Machine.pump
  split
  · exact m.takeFrom
  · exact m

theorem enterShowing : Raised s₀ (enterShowing s) := Raised.pump (Raised.finishChange m.elsewhere _)

theorem showDark : Raised s₀ (showDark s) := Raised.pump (Raised.finishChange m.elsewhere _)

theorem gateEmpty (slot : Nat) (ch : Change) : Raised s₀ (gateEmpty slot ch s) := by
  have noted : Raised s₀ (raise (.slotEmpty slot) (s.onChanger fun c => c.setOccupancy slot .empty)) :=
    Raised.raised m.elsewhere _
  simp only [Machine.gateEmpty]
  split
  · exact Raised.enterLifting noted.elsewhere
  · exact noted.showDark

theorem pushLoop (slot count : Nat) : Raised s₀ (pushLoop slot count s) := by
  unfold Machine.pushLoop
  split
  · exact m.elsewhere
  · split
    · exact m
    · split
      · exact m.elsewhere
      · exact m.raised _

theorem arriveLoop (slot : Nat) (mark : LoopMark) (isStep : Bool) : Raised s₀ (arriveLoop slot mark isStep s) := by
  have kept : Raised s₀ (s.onChanger fun c => { c with keptLoop := mark }) := m.elsewhere
  simp only [Machine.arriveLoop]
  split
  · split
    · exact kept.pushLoop _ _
    · exact kept
  · exact kept
  · exact kept

theorem applyTapeMark (mark : TapeMark) : Raised s₀ (applyTapeMark mark s) := by
  cases mark <;> exact m.elsewhere (by simp [Machine.applyTapeMark])

theorem arrive (slot : Nat) (r : SlotRecord) (isStep : Bool) : Raised s₀ (arrive slot r isStep s) :=
  Raised.elsewhere (s := Machine.arriveLoop slot r.loop isStep (((Machine.applyTapeMark r.tapeMark s).onTape
    (arriveSound r)).onChanger fun c => { c with held := c.held || r.hold }))
    (Raised.arriveLoop (Raised.elsewhere (m.applyTapeMark r.tapeMark)) _ _ _) (by simp [Machine.arrive])

theorem slideFound (slot : Nat) (isStep : Bool) : Raised s₀ (slideFound slot isStep s) := by
  have noted : Raised s₀ (found slot s) := m.elsewhere (by simp [found])
  have arrived := noted.arrive slot ((found slot s).changer.slot slot) isStep
  simp only [slideFound_eq]
  split
  · exact Raised.enterShowing arrived.elsewhere
  · exact arrived.elsewhere

theorem settleEnd : Raised s₀ (settleEnd s) := by
  simp only [Machine.settleEnd]
  split
  · exact m
  · split
    · exact m.slideFound _ _
    · exact m.gateEmpty _ _

theorem reportDisplaced (e : Entry) : Raised s₀ (reportDisplaced e s) := by
  have displaced : Raised s₀ (raise (.changeDone e.source .displaced) s) := m.raised _
  simp only [Machine.reportDisplaced]
  split
  case h_1 | h_2 | h_3 => exact displaced.raised _
  all_goals exact displaced

theorem enqueue (q : List Entry) : Raised s₀ (enqueue q s) := Raised.pump m.elsewhere

theorem offerStep (src : Source) (k : Int) : Raised s₀ (offerStep src k s).1 := by
  unfold Machine.offerStep
  split
  · exact m
  · split
    · exact m
    · split
      · exact m.elsewhere
      · split
        · exact m
        · exact m.enqueue _

theorem queueGoto (e : Entry) : Raised s₀ (queueGoto e s) := by
  unfold Machine.queueGoto
  split
  · exact m.enqueue _
  · refine Raised.enqueue ?_ _
    split
    · exact m
    · exact m.reportDisplaced _

theorem offerGoto (src : Source) (lb : Bool) (n : Nat) : Raised s₀ (offerGoto src lb n s).1 := by
  unfold Machine.offerGoto
  split
  · exact m
  · split
    · exact m
    · split
      · exact m
      · split
        · exact m.elsewhere
        · exact m.queueGoto _

theorem autoStep : Raised s₀ (autoStep s) := by
  unfold Machine.autoStep
  split
  · exact Raised.raised m.elsewhere _
  · exact m.offerStep _ _

theorem expireDwell : Raised s₀ (expireDwell s) := by
  simp only [Machine.expireDwell]
  split
  · unfold loopBack
    split
    · exact Raised.autoStep m.elsewhere
    · exact Raised.offerGoto m.elsewhere _ _ _
  · exact Raised.autoStep m.elsewhere

theorem trayGone : Raised s₀ (trayGone s) := Raised.raised (Raised.finishChange m.elsewhere _) _

/-! ### The lamp and the Thermal Unit -/

theorem lampTrip : Raised s₀ (lampTrip s) := by
  rw [lampTrip_eq]
  exact Raised.raisedIf m.elsewhere _ _

theorem sampleStage (r : Sample) (theta : Int) : Raised s₀ (sampleStage r theta s) := by
  have taken : Raised s₀ (s.onThermal (Thermal.takeSample (sampleBad r) theta)) := m.elsewhere
  rw [sampleStage_eq]
  exact (taken.raisedIf (s.thermal.sensor == .suspect && sampleBad r) (.sensorFault r.toNat)).elsewhere

theorem estimateStage (used : Bool) (light duty : Nat) : Raised s₀ (estimateStage used light duty s) := by
  rcases estimateStage_cases used light duty s with e | ⟨y, e⟩ <;> rw [e]
  · exact m.elsewhere
  · exact Raised.raisedIf m.elsewhere _ _

theorem bandStage (cd : Bool) : Raised s₀ (bandStage cd s) := by
  have banded : Raised s₀ (banded cd s) := m.elsewhere rfl
  rw [bandStage_eq, bandEntered_eq]
  split
  · exact banded.lampTrip
  · exact (banded.raisedIf _ _).raisedIf _ _

theorem tachStage (duty : Nat) : Raised s₀ (tachStage duty s) := by
  rw [tachStage_eq]
  exact Raised.raisedIf m.elsewhere _ _

theorem periodComputation (r : Sample) (h : Handover) : Raised s₀ (periodComputation r h s) := by
  have estimated : Raised s₀ (estimated r h s) := Raised.estimateStage (Raised.sampleStage m.elsewhere _ _) _ _ _
  exact Raised.elsewhere ((estimated.bandStage h.coolDone).tachStage s.thermal.duty) (period_link r h s)

end

theorem keptByOffers (s₀ : State) : KeptByOffers (Raised s₀) where
  raise n _ m := m.raised n
  remote _ _ m := m.elsewhere
  bus _ _ m := m.elsewhere
  cue _ _ _ m := m.elsewhere
  hit _ _ _ m := m.elsewhere
  legacy _ m := m.offerStep _ _
  key src key args s m := by
    unfold offerKey
    split
    case h_1 | h_2 => exact m.offerStep _ _
    case h_3 => exact m.offerGoto _ _ _
    all_goals exact m.elsewhere
  action n a s _ m := by
    cases a with
    | step k => exact m.offerStep _ _
    | goto n => exact m.offerGoto _ _ _
    | _ => exact m.elsewhere (by simp [offerAction])

end Raised

end Sys2Proof.Machine
end

section
/-! PROOFS. The laws of the Panel Link and of the Notice Set: every command raises notices, answers a request, or moves a
frame, and each of these keeps both laws. O59. -/

namespace Sys2Proof.Machine

/-- What a step can do to the Panel Link. -/
inductive LinkMoves (s t : State) : Prop
  | raised (m : Raised s t)
  | answered {u : State} (kept : NoticeLaw s → NoticeLaw u) (code : Nat) (st : Status) (payload : List Byte)
      (link : t.link = (respond code st payload u).link)
  | busy {frame : List Byte} (some : frame ≠ []) (ready : s.link.status = .ready) (status : t.link.status = .busy)
      (req : t.link.reqBuf = frame) (resp : t.link.respBuf = s.link.respBuf) (notices : t.link.notices = s.link.notices)
  | fetched (response : s.link.status = .response) (status : t.link.status = .ready) (req : t.link.reqBuf = s.link.reqBuf)
      (resp : t.link.respBuf = []) (notices : t.link.notices = s.link.notices)
  | waits (status : t.link.status = s.link.status) (req : t.link.reqBuf = s.link.reqBuf)
      (resp : t.link.respBuf = s.link.respBuf) (notices : t.link.notices = s.link.notices)
  | powerOn (link : t.link = Link.reset)

/-! ### The two laws -/

section

variable {s t : State}

theorem Raised.buffers (m : Raised s t) : t.link.status = s.link.status ∧ t.link.reqBuf = s.link.reqBuf ∧
    t.link.respBuf = s.link.respBuf := by
  induction m with
  | same e => simp [e]
  | notice n _ e ih => simpa [e] using ih

theorem noticeLaw_of_notices (h : NoticeLaw s) (e : t.link.notices = s.link.notices) : NoticeLaw t := by
  unfold NoticeLaw
  rwa [e]

/-- R187: a raised notice stands in its own place with the mark set. -/
theorem raise_noticeLaw (n : Notice) (h : NoticeLaw s) : NoticeLaw (raise n s) := by
  intro i
  by_cases own : i = n.place
  · subst own
    rw [raise_place_same]
    exact ⟨fun k hk => by cases hk; rfl, nofun⟩
  · rw [raise_place_other n s own]
    exact h i

theorem Raised.noticeLaw (m : Raised s t) (h : NoticeLaw s) : NoticeLaw t := by
  induction m with
  | same e => exact noticeLaw_of_notices h (congrArg Link.notices e)
  | notice n _ e ih => exact noticeLaw_of_notices (raise_noticeLaw n ih) (congrArg Link.notices e)

theorem responseFrame_ne_nil (code : Nat) (st : Status) (payload : List Byte) : responseFrame code st payload ≠ [] := by
  simp [responseFrame, withSums, u8]

theorem LinkMoves.linkLaw (m : LinkMoves s t) (h : LinkLaw s) : LinkLaw t := by
  obtain ⟨response, busy⟩ := h
  cases m with
  | raised m =>
    obtain ⟨status, req, resp⟩ := m.buffers
    exact ⟨by rw [status, resp]; exact response, by rw [status, req]; exact busy⟩
  | answered _ code st payload link => simp [LinkLaw, link, responseFrame_ne_nil]
  | busy some ready status req resp _ =>
    have empty : s.link.respBuf = [] := by simpa [ready] using response
    simp [LinkLaw, status, req, resp, some, empty]
  | fetched answered status req resp _ =>
    have empty : s.link.reqBuf = [] := by simpa [answered] using busy
    simp [LinkLaw, status, req, resp, empty]
  | waits status req resp _ => exact ⟨by rw [status, resp]; exact response, by rw [status, req]; exact busy⟩
  | powerOn link => simp [LinkLaw, link, Link.reset]

theorem LinkMoves.noticeLaw (m : LinkMoves s t) (h : NoticeLaw s) : NoticeLaw t := by
  cases m with
  | raised m => exact m.noticeLaw h
  | answered kept code st payload link => exact noticeLaw_of_notices (kept h) (by simp [link])
  | busy _ _ _ _ _ notices | fetched _ _ _ _ notices | waits _ _ _ notices => exact noticeLaw_of_notices h notices
  | powerOn link => exact noticeLaw_of_notices reset_noticeLaw (by rw [link]; rfl)

/-! ### The requests -/

/-- R183, R184: a host request is answered after what its owner did, or not taken. -/
theorem request_linkMoves {c : Instr} {owner : State → Reply} (h : hostRequest c owner s = .next t)
    (kept : NoticeLaw s → NoticeLaw (owner s).state) : LinkMoves s t := by
  rcases hostRequest_cases h with ⟨-, rfl⟩ | ⟨-, rfl⟩
  · exact .answered kept _ _ _ rfl
  · exact .raised (.same rfl)

theorem raisingRequest_linkMoves {c : Instr} {owner : State → Reply} (h : hostRequest c owner s = .next t)
    (m : Raised s (owner s).state) : LinkMoves s t :=
  request_linkMoves h m.noticeLaw

/-- R189: READ NOTICES takes marks away alone. -/
theorem latch_noticeLaw (h : NoticeLaw s) : NoticeLaw (s.onLink Link.latch) := fun i => by
  have place : (s.onLink Link.latch).link.notices[i] = { s.link.notices[i] with mark := false } := by simp [Link.latch]
  rw [place]
  exact ⟨(h i).1, fun _ => rfl⟩

theorem empty_place_law (i : Fin 30) :
    (∀ n, Place.empty.arg = some n → n.place = i) ∧ (Place.empty.arg = none → Place.empty.mark = false) :=
  ⟨nofun, fun _ => rfl⟩

/-- R190: CLEAR NOTICES empties places alone. -/
theorem clear_noticeLaw (h : NoticeLaw s) : NoticeLaw (s.onLink Link.clear) := fun i => by
  have place : (s.onLink Link.clear).link.notices[i] =
      if s.link.cleared[i] then Place.empty else s.link.notices[i] := by simp [Link.clear]
  rw [place]
  split
  · exact empty_place_law i
  · exact h i

theorem resetRequest_noticeLaw : NoticeLaw (resetRequest s) := fun i => by
  have place : (resetRequest s).link.notices[i] = Place.empty := by simp [resetRequest_link, Link.emptyNotices]
  rw [place]
  exact empty_place_law i

/-- A request whose owner leaves the Panel Link. -/
theorem plainRequest_linkMoves {c : Instr} {owner : State → Reply} (h : hostRequest c owner s = .next t)
    (link : (owner s).state.link = s.link) : LinkMoves s t :=
  raisingRequest_linkMoves h (.same link)

theorem execPortRestart_linkMoves (h : execPortRestart s = .next t) : LinkMoves s t := by
  refine raisingRequest_linkMoves h ?_
  simp only [answer_state]
  split
  · exact .same rfl
  · exact (Raised.keptByOffers s).enterPort _ (.same rfl)

theorem execSetNoticeMask_linkMoves {mask : List Nat} (h : execSetNoticeMask mask s = .next t) : LinkMoves s t := by
  refine request_linkMoves h fun hs => ?_
  split
  · exact noticeLaw_of_notices hs (by simp)
  · exact hs

/-- R184: a whole frame taken in READY is in hand, or refused at once. -/
theorem takeRequest_linkMoves {frame : List Byte} (ready : s.link.status = .ready)
    (complete : requestComplete frame = true) {out : List Byte} :
    LinkMoves s (takeRequest frame (s.onLink fun l => { l with shifted := out })) := by
  have some : frame ≠ [] := by
    simp only [requestComplete, Bool.and_eq_true, bne_iff_ne] at complete
    exact complete.1
  unfold takeRequest
  split
  · exact .busy (by simpa using some) ready rfl rfl rfl rfl
  · exact .answered (u := s.onLink fun l => { l with shifted := out }) id _ _ _ rfl

theorem execRequestFrame_linkMoves {bytes : List Byte} (h : execRequestFrame bytes s = .next t) : LinkMoves s t := by
  cases h
  split
  · rename_i taken
    exact takeRequest_linkMoves taken.2.1 taken.2.2
  · exact .waits rfl rfl rfl rfl

theorem execFetch_linkMoves {len : Nat} (h : execFetch len s = .next t) : LinkMoves s t := by
  cases h
  simp only [State.onLink, Link.fetch]
  by_cases whole : s.link.fetches len = true
  · have response : s.link.status = .response := by
      simp only [Link.fetches, Bool.and_eq_true, beq_iff_eq] at whole
      exact whole.1.2
    rw [if_pos whole]
    exact .fetched response rfl rfl rfl rfl
  · rw [if_neg whole]
    exact .waits rfl rfl rfl rfl

theorem execTrayRemoval_raised (h : execTrayRemoval s = .next t) : Raised s t := by
  by_cases absent : s.changer.tray = none
  · simp only [execTrayRemoval, if_pos absent] at h
    cases h
    exact .same rfl
  · rw [execTrayRemoval_eq absent] at h
    cases h
    exact Raised.trayGone (.same rfl)

theorem execGateStateChange_raised {occupied : Bool} (h : execGateStateChange occupied s = .next t) : Raised s t := by
  simp only [execGateStateChange] at h
  (repeat' split at h) <;> cases h
  · exact .same rfl
  · refine Raised.raised (.same ?_) _
    split <;> rfl
  · exact .same rfl

theorem execIndexPass_raised (h : execIndexPass s = .next t) : Raised s t := by
  simp only [execIndexPass] at h
  (repeat' split at h) <;> cases h
  · exact .same rfl
  · exact Raised.indexHomed (.same rfl)
  · exact .same rfl
  · exact .same rfl

theorem execLifterSwitchChange_raised {up down : Bool} (h : execLifterSwitchChange up down s = .next t) :
    Raised s t := by
  have switched : Raised s (s.onDrive fun d => { d with swUp := up, swDown := down }) := .same rfl
  simp only [execLifterSwitchChange] at h
  (repeat' split at h) <;> cases h
  · exact switched.jam _
  · exact switched.upReached
  · exact switched.elsewhere
  · exact switched

theorem execLiftDone_raised (h : execLiftDone s = .next t) : Raised s t := by
  cases h
  split
  · exact Raised.upReached (.same rfl)
  · exact .same rfl

theorem execStrikeWindowEnd_raised (h : execStrikeWindowEnd s = .next t) : Raised s t := by
  simp only [execStrikeWindowEnd] at h
  (repeat' split at h) <;> cases h
  · exact .same rfl
  · exact Raised.raised (.same (by simp)) _
  · exact .same rfl

theorem execLampPeriodEnd_raised (h : execLampPeriodEnd s = .next t) : Raised s t := by
  rw [execLampPeriodEnd_eq] at h
  cases h
  exact Raised.raisedIf (.same (by simp [counted])) _ _

theorem execPeriodComputation_raised (h : execPeriodComputation s = .next t) : Raised s t := by
  unfold execPeriodComputation at h
  split at h <;> cases h
  · exact Raised.periodComputation (.same rfl) _ _
  · exact .same rfl

theorem execCassetteRemoval_raised (h : execCassetteRemoval s = .next t) : Raised s t := by
  by_cases absent : s.tape.transport = .noTape
  · simp only [execCassetteRemoval, if_pos absent] at h
    cases h
    exact .same rfl
  · have gone : Raised s (cassetteGone s) := .same (by simp [cassetteGone])
    rw [execCassetteRemoval_eq absent] at h
    cases h
    split
    · exact gone
    · exact gone.raised _

theorem irDiscard_raised (cause : FrameFault) : Raised s (irDiscard cause s) := by
  have idle : Raised s (s.onRemote Remote.irIdle) := .same rfl
  exact idle.raised (.remoteBad .ir cause)

theorem execIrFrameError_raised {cause : IrFault} (h : execIrFrameError cause s = .next t) : Raised s t := by
  unfold execIrFrameError at h
  split at h
  · split at h <;> cases h
    · split
      · exact irDiscard_raised _
      · exact .same rfl
    · exact irDiscard_raised _
    · exact (irDiscard_raised (s := s) .cut).elsewhere
  · cases h
    exact .same rfl
  · cases h
    exact .same rfl

theorem execIrGapTimeout_raised (h : execIrGapTimeout s = .next t) : Raised s t := by
  unfold execIrGapTimeout at h
  split at h <;> cases h
  · exact irDiscard_raised _
  · exact .same rfl
  · exact .same rfl

theorem busGap_raised (p : Port) : Raised s (busGap p s) := by
  unfold busGap
  split
  · exact .same rfl
  · split
    · exact (Raised.keptByOffers s).endBad _ _ _ _ (.same rfl)
    · exact .same rfl
    · exact .same rfl

theorem collide_raised (p : Port) : Raised s (collide p s) := by
  have counted {u : State} (link : u.link = s.link) : Raised s (countCollision u) :=
    (Raised.keptByOffers s).decidePort (.same link)
  unfold collide
  split
  · split
    · exact counted rfl
    · split
      · exact (Raised.keptByOffers s).retryFrame (counted rfl)
      · exact .same rfl
  · split
    · exact counted rfl
    · split
      · exact counted rfl
      · exact .same rfl

theorem execOriginationWaitTimeout_raised (h : execOriginationWaitTimeout s = .next t) : Raised s t := by
  unfold execOriginationWaitTimeout at h
  split at h <;> cases h
  · split
    · exact (Raised.keptByOffers s).dropFrame _ (.same rfl)
    · exact .same rfl
  · exact .same rfl

theorem link_readsOnly (s₀ : State) : ReadsOnly (Raised s₀) [.link] := fun _ _ hb m => m.elsewhere (hb .link (by simp))

/-! ### Owners that leave the Panel Link -/

@[simp] theorem offerLampReset_link (s : State) : (offerLampReset s).1.link = s.link := by
  unfold offerLampReset
  (repeat' split) <;> simp

@[simp] theorem writeCue_link (v : CueImage) (s : State) : (writeCue v s).state.link = s.link := by
  unfold writeCue
  (repeat' split) <;> rfl

@[simp] theorem armCue_link (n : Nat) (s : State) : (armCue n s).state.link = s.link := by
  simp only [armCue]
  (repeat' split) <;> rfl

@[simp] theorem pauseCue_link (n : Nat) (s : State) : (pauseCue n s).state.link = s.link := by
  unfold pauseCue
  split <;> rfl

@[simp] theorem offerBlock_link (n : Nat) (s : State) : (offerBlock n s).1.link = s.link := by
  simp only [offerBlock]
  split <;> rfl

@[simp] theorem offerUnblock_link (n : Nat) (s : State) : (offerUnblock n s).1.link = s.link := by
  simp only [offerUnblock]
  split <;> rfl

/-! ### The commands -/

theorem exec_linkMoves {c : Instr} (h : exec c s = .next t) : LinkMoves s t := by
  have offers := Raised.keptByOffers s
  have still : Raised s s := .same rfl
  have whole := h
  unfold exec at h
  cases c with
  | step k => exact raisingRequest_linkMoves h (still.offerStep _ _)
  | goto n => exact raisingRequest_linkMoves h (still.offerGoto _ _ _)
  | portRestart => exact execPortRestart_linkMoves h
  | setNoticeMask mask => exact execSetNoticeMask_linkMoves h
  | readNotices => exact request_linkMoves h latch_noticeLaw
  | clearNotices => exact request_linkMoves h clear_noticeLaw
  | reset => exact request_linkMoves h fun _ => resetRequest_noticeLaw
  | lampReset | selectProfile _ | home | lampOn | tapePlay | tapePause | tapeStop | readShow | hold | resume | flush
  | readDrive | lampOff | readLamp | readCalibration | readThermal | readTape | learnOn | learnOff | readLearn | readCueUnit
  | closePairing | portAbort | readPort =>
    exact plainRequest_linkMoves h (by simp)
  | writeSlot _ _ _ | loadSlots _ _ _ _ | retireSlot _ _ | readSlot _ | setOptions _ _ _ | focus _ _ | setLight _
  | writeExposure _ _ | writeCalibration _ _ _ | writeProfile _ _ | readProfile _ | tapeWind _ | setTapePosition _
  | setGain _ | setDuckDepth _ _ | setMute _ | setCueOptions _ _ | setMasks _ _ _ | writeCue _ | armCue _ | pauseCue _
  | retireCue _ | readCue _ | openPairing _ | readHandset _ | blockHandset _ | unblockHandset _ | retireHandset _
  | setAddress _ _ | sendFrame _ _ _ _ | readNotice _ =>
    exact plainRequest_linkMoves h (by (repeat' split) <;> simp)
  | setRights n rights =>
    refine plainRequest_linkMoves h ?_
    simp only
    (repeat' split) <;> simp
  | pollPeriod kind len | resetPinAssert =>
    cases h
    exact .waits rfl rfl rfl rfl
  | requestFrame bytes => exact execRequestFrame_linkMoves h
  | fetch len => exact execFetch_linkMoves h
  | powerOnReset =>
    cases h
    exact .powerOn rfl
  | trayRemoval => exact .raised (execTrayRemoval_raised h)
  | trayInsertion lugs => exact .raised (keeps_of_guarded (P := Raised s) h still fun _ => Raised.raised still.elsewhere _)
  | gateStateChange occupied => exact .raised (execGateStateChange_raised h)
  | noIndexBudgetExhausted => exact .raised (keeps_of_guarded (P := Raised s) h still fun _ => still.jam _)
  | indexPass => exact .raised (execIndexPass_raised h)
  | stallWatchdogExpiry => exact .raised (keeps_of_guarded (P := Raised s) h still fun _ => still.stall)
  | brakeEnd => exact .raised (keeps_of_guarded (P := Raised s) h still fun _ => still.brakeEnd)
  | liftDone => exact .raised (execLiftDone_raised h)
  | lifterTimeout => exact .raised (keeps_of_guarded (P := Raised s) h still fun _ => Raised.jam still.elsewhere _)
  | lifterSwitchChange up down => exact .raised (execLifterSwitchChange_raised h)
  | settleEnd => exact .raised (keeps_of_guarded (P := Raised s) h still fun _ => Raised.settleEnd (.same rfl))
  | fadeOutEnd => exact .raised (keeps_of_guarded (P := Raised s) h still fun _ => still.enterLifting)
  | fadeInEnd => exact .raised (keeps_of_guarded (P := Raised s) h still fun _ => still.enterShowing)
  | dwellExpiry => exact .raised (keeps_of_guarded (P := Raised s) h still fun _ => still.expireDwell)
  | strikeWindowEnd => exact .raised (execStrikeWindowEnd_raised h)
  | currentLoss => exact .raised (keeps_of_guarded (P := Raised s) h still fun _ => Raised.raised (.same (by simp)) _)
  | lampPeriodEnd => exact .raised (execLampPeriodEnd_raised h)
  | periodComputation => exact .raised (execPeriodComputation_raised h)
  | cassetteRemoval => exact .raised (execCassetteRemoval_raised h)
  | tapeEndTimeout | reelTimeout =>
    exact .raised (keeps_of_guarded (P := Raised s) h still fun _ => Raised.raised (.same (by simp)) _)
  | cueWordComplete stop => exact .raised (offers.cueWordComplete h still)
  | pulseCue => exact .raised (offers.pulseCue h still)
  | irFrame last => exact .raised (offers.irFrame h still)
  | irFrameError cause => exact .raised (execIrFrameError_raised h)
  | irGapTimeout => exact .raised (execIrGapTimeout_raised h)
  | irByteComplete b => exact .raised (offers.irByteComplete h still)
  | busDestinationDecided p b => exact .raised (offers.busDestinationDecided h still)
  | busFrameEnd p last => exact .raised (offers.busFrameEnd h still)
  | busGapTimeout p =>
    cases h
    exact .raised (busGap_raised p)
  | busCollision p =>
    cases h
    exact .raised (collide_raised p)
  | originationWaitTimeout => exact .raised (execOriginationWaitTimeout_raised h)
  | busByteReceived p b => exact .raised (offers.busByteReceived h still)
  | _ => exact .raised ((link_readsOnly s).exec_keeps whole (by simp [touches]) still)

theorem step_linkLaw (h : step s = .next t) (hs : LinkLaw s) : LinkLaw t :=
  step_keeps (fun _ _ hs => hs) (fun _ hs => hs) (fun _ _ _ he => (exec_linkMoves he).linkLaw) h hs

theorem step_noticeLaw (h : step s = .next t) (hs : NoticeLaw s) : NoticeLaw t :=
  step_keeps (fun _ _ hs => hs) (fun _ hs => hs) (fun _ _ _ he => (exec_linkMoves he).noticeLaw) h hs

end

/-- Settles O59: what a step can do to each block is a chain of moves, and each move keeps the block's law. -/
theorem portAndTableLawsAreKept : Obligations.PortAndTableLawsAreKept := by
  unfold Obligations.PortAndTableLawsAreKept
  intro s t h
  exact ⟨step_transportLaw h, step_gateLaw h, step_cueMapLaw h, step_handsetLaw h, step_portLaw h, step_holdLaw h,
    step_counterLaw h, step_linkLaw h, step_noticeLaw h⟩

end Sys2Proof.Machine
end

section
/-! PROOFS. The tape requests by transport state: the entries to the transport states as whole next states, and O36. -/

namespace Sys2Proof.Machine

section

variable {s : State}

/-! ### The entries to the transport states -/

/-- R128: between two states other than PLAYING the Cue Unit's gate does not move. -/
theorem setTransport_of_not_playing {w : Transport} (hw : w ≠ .playing) (h : s.tape.transport ≠ .playing) :
    setTransport w s = { s with tape := { s.tape with transport := w } } := by
  simp [setTransport, CueUnit.gate, beq_eq_false_iff_ne.mpr hw, beq_eq_false_iff_ne.mpr h]

theorem enterWinding_eq {w : Transport} (hw : w.winding = true) (h : s.tape.transport ≠ .playing) : enterWinding w s =
    { s with tape := { s.tape with
      transport := w, runDown := none, sure := false, residue := 0, endTimer := none, reelTimer := some 1000 } } :=
  setTransport_of_not_playing (by rintro rfl; cases hw) h

theorem enterStopped_of_not_playing (r : Option RunDown) (h : s.tape.transport ≠ .playing) : enterStopped r s =
    { s with tape := { s.tape with transport := .stopped, runDown := r, endTimer := none, reelTimer := none } } :=
  setTransport_of_not_playing nofun h

/-- R128: leaving PLAYING for STOPPED closes the Cue Unit's gate. -/
theorem enterStopped_of_playing (r : Option RunDown) (h : s.tape.transport = .playing) : enterStopped r s =
    { s with
      cue := { s.cue with rx := .idle, holding := none, burst := none }
      tape := { s.tape with transport := .stopped, runDown := r, endTimer := none, reelTimer := none } } := by
  have opened : (s.tape.transport == .playing) = true := by simpa using h
  rw [← CueUnit.gate_closes, ← opened]
  rfl

theorem setPendingMotion_eq {r : RunDown} (next : PendingMotion) (h : s.tape.runDown = some r) :
    setPendingMotion next s = { s with tape := { s.tape with runDown := some { r with next := next } } } := by
  simp [setPendingMotion, State.onTape, h]

theorem Transport.ne_playing_of_winding {w : Transport} (h : w.winding = true) : w ≠ .playing := by
  rintro rfl
  cases h

/-! ### The offers -/

theorem offerTapePlay_of_noTape (h : s.tape.transport = .noTape) : offerTapePlay s = (s, .noTape) := by
  simp only [offerTapePlay, h, turnedAway]

theorem offerTapePause_of_noTape (h : s.tape.transport = .noTape) : offerTapePause s = (s, .noTape) := by
  simp only [offerTapePause, h, turnedAway]

theorem offerTapePause_of_playing (h : s.tape.transport = .playing) : offerTapePause s = (enterPaused s, .done) := by
  simp only [offerTapePause, h, taken]

theorem offerTapeStop_of_noTape (h : s.tape.transport = .noTape) : offerTapeStop s = (s, .noTape) := by
  simp only [offerTapeStop, h, turnedAway]

theorem offerTapeStop_of_play (h : s.tape.transport = .playing ∨ s.tape.transport = .paused) :
    offerTapeStop s = (enterStopped none s, .done) := by
  rcases h with h | h <;> simp only [offerTapeStop, h, taken]

/-- R115: a winding tape runs down. -/
theorem offerTapeStop_of_winding (h : s.tape.transport.winding = true) :
    offerTapeStop s = (enterStopped (freshRunDown .none) s, .done) := by
  cases ht : s.tape.transport with
  | windingFwd | windingBack => simp only [offerTapeStop, ht, taken]
  | noTape | stopped | playing | paused => simp [ht, Transport.winding] at h

theorem offerTapeStop_of_runDown {r : RunDown} (h : s.tape.transport = .stopped) (hr : s.tape.runDown = some r) :
    offerTapeStop s = (setPendingMotion .none s, .done) := by
  simp [offerTapeStop, h, hr, taken]

theorem offerTapeStop_of_rest (h : s.tape.transport = .stopped) (hr : s.tape.runDown = none) :
    offerTapeStop s = (s, .notNow) := by
  simp [offerTapeStop, h, hr, turnedAway]

theorem offerTapeWind_of_noTape (d : Dir) (h : s.tape.transport = .noTape) : offerTapeWind d s = (s, .noTape) := by
  simp only [offerTapeWind, h, turnedAway]

theorem offerTapeWind_of_playing (d : Dir) (h : s.tape.transport = .playing) : offerTapeWind d s = (s, .notNow) := by
  simp only [offerTapeWind, h, turnedAway]

/-- R116: a tape at a stand winds at once. -/
theorem offerTapeWind_starts (d : Dir)
    (h : s.tape.transport = .paused ∨ s.tape.transport = .stopped ∧ s.tape.runDown = none) :
    offerTapeWind d s = (enterWinding d.winding s, .done) := by
  rcases h with h | ⟨h, hr⟩
  · simp only [offerTapeWind, h, taken]
  · simp [offerTapeWind, h, hr, taken]

theorem offerTapeWind_of_runDown (d : Dir) {r : RunDown} (h : s.tape.transport = .stopped)
    (hr : s.tape.runDown = some r) : offerTapeWind d s = (setPendingMotion d.pendingWind s, .done) := by
  simp [offerTapeWind, h, hr, taken]

theorem offerTapeWind_same (d : Dir) (h : s.tape.transport = d.winding) : offerTapeWind d s = (s, .done) := by
  cases d <;> simp [offerTapeWind, h, Dir.winding, taken]

/-- R116: a wind the other way runs the tape down first. -/
theorem offerTapeWind_reverses (d : Dir) (h : s.tape.transport.winding = true) (hd : s.tape.transport ≠ d.winding) :
    offerTapeWind d s = (enterStopped (freshRunDown d.pendingWind) s, .done) := by
  cases ht : s.tape.transport with
  | windingFwd | windingBack => cases d <;> simp [offerTapeWind, ht, Dir.winding, taken] at hd ⊢
  | noTape | stopped | playing | paused => simp [ht, Transport.winding] at h

/-! ### The requests -/

theorem execTapePlay_eq (ha : s.link.accepts .tapePlay = true) {t : State} {st : Status}
    (h : offerTapePlay s = (t, st)) : execTapePlay s = .next (respond 27 st [] t) := by
  rw [execTapePlay, hostRequest_of_accepts _ _ _ ha, ofOffer_state, ofOffer_status, h]
  rfl

theorem execTapePause_eq (ha : s.link.accepts .tapePause = true) {t : State} {st : Status}
    (h : offerTapePause s = (t, st)) : execTapePause s = .next (respond 28 st [] t) := by
  rw [execTapePause, hostRequest_of_accepts _ _ _ ha, ofOffer_state, ofOffer_status, h]
  rfl

theorem execTapeStop_eq (ha : s.link.accepts .tapeStop = true) {t : State} {st : Status}
    (h : offerTapeStop s = (t, st)) : execTapeStop s = .next (respond 29 st [] t) := by
  rw [execTapeStop, hostRequest_of_accepts _ _ _ ha, ofOffer_state, ofOffer_status, h]
  rfl

theorem execTapeWind_eq {n : Nat} {d : Dir} (hd : Dir.fromCode n = some d) (ha : s.link.accepts (.tapeWind n) = true)
    {t : State} {st : Status} (h : offerTapeWind d s = (t, st)) :
    execTapeWind n s = .next (respond 30 st [] t) := by
  rw [execTapeWind, hostRequest_of_accepts _ _ _ ha, hd]
  simp only [ofOffer_state, ofOffer_status, h]
  rfl

theorem execTapeWind_of_badValue {n : Nat} (hd : Dir.fromCode n = none) (ha : s.link.accepts (.tapeWind n) = true) :
    execTapeWind n s = .next (respond 30 .badValue [] s) := by
  rw [execTapeWind, hostRequest_of_accepts _ _ _ ha, hd]
  rfl

end

/-- A direction code of TAPE WIND with its direction, its winding state and its pending motion. -/
theorem Dir.fromCode_cases {n : Nat} (h : n ≤ 1) : ∃ d, Dir.fromCode n = some d ∧
    d.winding = (if n = 0 then .windingFwd else .windingBack) ∧
    d.pendingWind = if n = 0 then .windingFwd else .windingBack := by
  obtain rfl | rfl : n = 0 ∨ n = 1 := by omega
  · exact ⟨.forward, rfl, rfl, rfl⟩
  · exact ⟨.backward, rfl, rfl, rfl⟩

/-- Settles O36: each request by the transport state, with the entry it makes as a whole next state. -/
theorem tapeRequestsMoveTheTransport : Obligations.TapeRequestsMoveTheTransport := by
  unfold Obligations.TapeRequestsMoveTheTransport
  intro s
  refine ⟨fun ha => ⟨fun h => ?_, fun h hr => ?_, fun r h hr => ?_, fun h => ?_, fun h => ?_⟩,
    fun ha => ⟨fun h => ?_, fun h => ?_, fun hn h => ?_⟩,
    fun ha => ⟨fun h => ?_, fun h => ?_, fun h => ?_, fun h => ?_, fun r h hr => ?_, fun h hr => ?_⟩,
    fun n ha => ⟨fun big => ?_, fun small => ?_⟩⟩
  · exact execTapePlay_eq ha (offerTapePlay_of_noTape h)
  · exact execTapePlay_eq ha ((offerTapePlay_starts (.inr ⟨h, hr⟩)).trans
      (by rw [enterPlaying_of_not_playing (by simp [h])]))
  · exact execTapePlay_eq ha (offerTapePlay_of_runDown h hr)
  · exact execTapePlay_eq ha ((offerTapePlay_starts (.inl h)).trans (by rw [enterPlaying_of_not_playing (by simp [h])]))
  · exact execTapePlay_eq ha (offerTapePlay_of_moving h)
  · exact execTapePause_eq ha (offerTapePause_of_noTape h)
  · exact execTapePause_eq ha ((offerTapePause_of_playing h).trans (by rw [enterPaused_of_playing h]))
  · exact execTapePause_eq ha (offerTapePause_of_not_playing hn h)
  · exact execTapeStop_eq ha (offerTapeStop_of_noTape h)
  · exact execTapeStop_eq ha ((offerTapeStop_of_play (.inl h)).trans (by rw [enterStopped_of_playing _ h]))
  · exact execTapeStop_eq ha ((offerTapeStop_of_play (.inr h)).trans
      (by rw [enterStopped_of_not_playing _ (by simp [h])]))
  · exact execTapeStop_eq ha ((offerTapeStop_of_winding h).trans
      (by rw [enterStopped_of_not_playing _ (Transport.ne_playing_of_winding h)]; rfl))
  · exact execTapeStop_eq ha ((offerTapeStop_of_runDown h hr).trans (by rw [setPendingMotion_eq _ hr]))
  · exact execTapeStop_eq ha (offerTapeStop_of_rest h hr)
  · obtain ⟨m, rfl⟩ := Nat.exists_eq_add_of_le' big
    exact execTapeWind_of_badValue rfl ha
  · obtain ⟨d, code, way, next⟩ := Dir.fromCode_cases small
    simp only [← way, ← next]
    refine ⟨fun h => ?_, fun h => ?_, fun h hr => ?_, fun r h hr => ?_, fun h => ?_, fun _ h => ?_, fun h hd => ?_⟩
    · exact execTapeWind_eq code ha (offerTapeWind_of_noTape d h)
    · exact execTapeWind_eq code ha (offerTapeWind_of_playing d h)
    · exact execTapeWind_eq code ha ((offerTapeWind_starts d (.inr ⟨h, hr⟩)).trans
        (by rw [enterWinding_eq d.winding_winding (by simp [h])]))
    · exact execTapeWind_eq code ha ((offerTapeWind_of_runDown d h hr).trans (by rw [setPendingMotion_eq _ hr]))
    · exact execTapeWind_eq code ha ((offerTapeWind_starts d (.inl h)).trans
        (by rw [enterWinding_eq d.winding_winding (by simp [h])]))
    · exact execTapeWind_eq code ha (offerTapeWind_same d h)
    · exact execTapeWind_eq code ha ((offerTapeWind_reverses d h hd).trans
        (by rw [enterStopped_of_not_playing _ (Transport.ne_playing_of_winding h)]; rfl))

end Sys2Proof.Machine
end

section
/-! PROOFS. The tape in motion: the end of a run-down, the pulses, the tape ends and the cassette. O37. -/

namespace Sys2Proof.Machine

/-- R111: the state at the end of a run-down with a pending motion. -/
def ranDown : PendingMotion → State → State
  | .none, s => s.onTape fun t => { t with runDown := none }
  | .playing, s => enterPlaying s
  | .windingFwd, s => enterWinding .windingFwd s
  | .windingBack, s => enterWinding .windingBack s

section

variable {s : State}

/-! ### Run-downs and pulses (R111, R117, R119) -/

theorem execRunDownEnd_eq {r : RunDown} (h : s.tape.transport = .stopped) (hr : s.tape.runDown = some r) :
    execRunDownEnd s = .next (ranDown r.next s) := by
  simp only [execRunDownEnd, h, hr]
  cases r.next <;> rfl

/-- R119: a pulse short of the tenth is counted in the residue. -/
theorem Tape.countPulse_of_lt {t : Tape} (h : t.residue < 4) : t.countPulse = { t with residue := t.residue + 1 } :=
  if_pos (show t.residue + 1 < 5 by omega)

/-- R119: the fifth pulse makes a tenth. -/
theorem Tape.countPulse_of_four {t : Tape} (h : t.residue = 4) :
    t.countPulse = { t with counter := min 65535 (t.counter + 1), residue := 0 } :=
  if_neg (by simp [Config.pulsesPerTenth, h])

theorem execCapstanPulse_eq (h : s.tape.transport = .playing) : execCapstanPulse s =
    .next { s with tape := { s.tape.countPulse with endTimer := some 1000 } } :=
  if_pos h

/-! ### Tape ends (R117) -/

theorem execTapeEndTimeout_ends (h : s.tape.transport = .playing) (out : s.tape.endTimer = some 0) :
    execTapeEndTimeout s = .next (raise (.tapeEnd .ended .playing s.tape.counter) (enterStopped none s)) :=
  if_pos ⟨h, out⟩

theorem execTapeEndTimeout_late (h : s.tape.transport ≠ .playing ∨ s.tape.endTimer ≠ some 0) :
    execTapeEndTimeout s = .next s :=
  if_neg (not_and_or.mpr h)

theorem execReelTimeout_ends (h : s.tape.transport.winding = true) (out : s.tape.reelTimer = some 0) :
    execReelTimeout s = .next
      (raise (.tapeEnd .ended s.tape.transport s.tape.counter) (enterStopped (freshRunDown .none) s)) :=
  if_pos ⟨h, out⟩

theorem execReelTimeout_late (h : s.tape.transport.winding = false ∨ s.tape.reelTimer ≠ some 0) :
    execReelTimeout s = .next s :=
  if_neg (not_and_or.mpr (h.imp_left (ne_true_of_eq_false ·)))

/-! ### The cassette (R118) -/

theorem cassetteGone_eq : cassetteGone s = { s with
    tape := { s.tape with
      transport := .noTape, runDown := none, endTimer := none, reelTimer := none, counter := 0, sure := false
      residue := 0 }
    cue := if s.tape.transport = .playing then { s.cue with rx := .idle, holding := none, burst := none }
      else s.cue } := by
  by_cases h : s.tape.transport = .playing
  · simp [cassetteGone, setTransport, State.onTape, h, CueUnit.gate]
  · simp [cassetteGone, setTransport, State.onTape, h, CueUnit.gate]

end

/-- Settles O37: each event by what it finds, through the entries to the transport states. -/
theorem theTapeRuns : Obligations.TheTapeRuns := by
  unfold Obligations.TheTapeRuns
  intro s
  refine ⟨fun r h hr => ⟨fun hn => ?_, fun hn => ?_, fun w hn => ?_⟩,
    fun h => ⟨fun few => ?_, fun four => ?_, fun out => ?_⟩, fun h => ?_, fun h => ?_, fun h => ?_, fun h => ?_,
    fun h => ⟨?_, fun out => ?_⟩, ⟨fun h => ?_, fun h present => ?_⟩, fun h => ?_⟩
  · refine (execRunDownEnd_eq h hr).trans ?_
    rw [hn]
    rfl
  · refine (execRunDownEnd_eq h hr).trans ?_
    rw [hn]
    exact congrArg _ (enterPlaying_of_not_playing (by simp [h]))
  · refine (execRunDownEnd_eq h hr).trans ?_
    rcases hn with ⟨hn, rfl⟩ | ⟨hn, rfl⟩ <;> rw [hn] <;> exact congrArg _ (enterWinding_eq rfl (by simp [h]))
  · exact (execCapstanPulse_eq h).trans (by rw [Tape.countPulse_of_lt few])
  · exact (execCapstanPulse_eq h).trans (by rw [Tape.countPulse_of_four four])
  · exact (execTapeEndTimeout_ends h out).trans (by rw [enterStopped_of_playing _ h])
  · exact if_neg h
  · exact execTapeEndTimeout_late h
  · exact if_neg (ne_true_of_eq_false h)
  · exact execReelTimeout_late h
  · exact if_pos h
  · exact (execReelTimeout_ends h out).trans
      (by rw [enterStopped_of_not_playing _ (Transport.ne_playing_of_winding h)]; rfl)
  · exact (execCassetteRemoval_eq (by simp [h])).trans (by rw [if_pos h, cassetteGone_eq])
  · refine ⟨raise (.tapeEnd .removed s.tape.transport s.tape.counter) (cassetteGone s), ?_, ?_, ?_, s.tape.counter, ?_⟩
    · exact (execCassetteRemoval_eq present).trans (by rw [if_neg h])
    · rw [cassetteGone_eq]
      rfl
    · exact congrArg Place.mark (raise_place_same (.tapeEnd .removed _ _) _)
    · exact congrArg Place.arg (raise_place_same (.tapeEnd .removed _ _) _)
  · exact (if_pos h).trans (by rw [enterStopped_of_not_playing _ (by simp [h])])

end Sys2Proof.Machine
end

section
/-! PROOFS. The sound: the position, the base, the duck and the mute set, and the ramps and the mix of a sound tick. O38. -/

namespace Sys2Proof.Machine

section

variable {s : State}

/-! ### The settings (R120, R122 to R124) -/

theorem Tape.positionTaken_iff (t : Tape) : t.positionTaken = true ↔
    t.transport = .playing ∨ t.transport = .paused ∨ t.transport = .stopped ∧ t.runDown = none := by
  unfold Tape.positionTaken
  cases t.transport <;> simp

/-- R120: SET TAPE POSITION by its checks in order. -/
theorem execSetTapePosition_eq {v : Nat} (ha : s.link.accepts (.setTapePosition v) = true) :
    execSetTapePosition v s = .next (
      if 65535 < v then respond 31 .badValue [] s
      else if s.tape.transport = .noTape then respond 31 .noTape [] s
      else if s.tape.positionTaken then
        respond 31 .done (counterBytes (s.tape.setPosition v)) (s.onTape (Tape.setPosition v))
      else respond 31 .notNow [] s) := by
  rw [execSetTapePosition, hostRequest_of_accepts _ _ _ ha]
  simp only
  (repeat' split) <;> rfl

theorem execSetGain_eq {a : Nat} (ha : s.link.accepts (.setGain a) = true) : execSetGain a s = .next (
    if a ≤ 120 then respond 32 .done [] (s.onTape (Tape.setBase a)) else respond 32 .badValue [] s) := by
  rw [execSetGain, hostRequest_of_accepts _ _ _ ha]
  split <;> rfl

theorem execSetDuckDepth_eq {d sw : Nat} (ha : s.link.accepts (.setDuckDepth d sw) = true) :
    execSetDuckDepth d sw s = .next (
      if d ≤ 120 ∧ sw ≤ 2 then
        respond 33 .done (duckBytes (s.tape.duckSettings d sw)) (s.onTape (Tape.duckSettings d sw))
      else respond 33 .badValue [] s) := by
  rw [execSetDuckDepth, hostRequest_of_accepts _ _ _ ha]
  simp only
  split <;> rfl

theorem onOff_of_le {m : Nat} (h : m ≤ 1) : onOff m = some (m == 1) := by
  obtain rfl | rfl : m = 0 ∨ m = 1 := by omega
  · rfl
  · rfl

theorem execSetMute_eq {m : Nat} (ha : s.link.accepts (.setMute m) = true) (h : m ≤ 1) :
    execSetMute m s = .next (respond 34 .done [] { s with tape := { s.tape with mute := m == 1 } }) := by
  rw [execSetMute, hostRequest_of_accepts _ _ _ ha, onOff_of_le h]
  rfl

/-- R123: the duck settings by the switch: ON, or left ON, the term goes to the depth. -/
theorem Tape.duckSettings_on {t : Tape} (d : Nat) {sw : Nat} (h : sw = 1 ∨ sw = 2 ∧ t.duckOn = true) :
    t.duckSettings d sw =
      { t with duckDepth := d, duckOn := true, duckRamp := some { a := t.duckTerm, b := d, n := 20, k := 0 } } := by
  rcases h with rfl | ⟨rfl, on⟩
  · unfold Tape.duckSettings Tape.setDepth
    simp only
    split <;> rfl
  · simp only [Tape.duckSettings, Tape.setDepth, on, if_true]
    rw [← on]
    rfl

theorem Tape.duckSettings_off (t : Tape) (d : Nat) : t.duckSettings d 0 =
    { t with duckDepth := d, duckOn := false, duckRamp := some { a := t.duckTerm, b := 0, n := 20, k := 0 } } := by
  unfold Tape.duckSettings Tape.setDepth
  simp only
  split <;> rfl

theorem Tape.duckSettings_left {t : Tape} (d : Nat) (off : t.duckOn = false) :
    t.duckSettings d 2 = { t with duckDepth := d, duckOn := false } := by
  simp [Tape.duckSettings, Tape.setDepth, off]

/-! ### The ramps and the mix (R121) -/

/-- R78: the value of a ramp at its next step, exact at the last. -/
theorem Ramp.next_value (r : Ramp) : r.next.value r.next.k =
    if r.n ≤ r.k + 1 then r.b else ((r.a : Int) + (((r.b : Int) - r.a) * (r.k + 1)).tdiv r.n).toNat := by
  by_cases last : r.n ≤ r.k + 1
  · simp [Ramp.value, Ramp.next, last]
  · have step : min r.n (r.k + 1) = r.k + 1 := by omega
    simp [Ramp.value, Ramp.next, last, step]

theorem Tape.stepBase_eq (t : Tape) : t.stepBase =
    { t with base := t.baseRamp.elim t.base fun r => r.next.value r.next.k, baseRamp := t.baseRamp.map Ramp.next } := by
  unfold Tape.stepBase
  split
  · rename_i none
    rw [none, Option.map_none, Option.elim_none, ← none]
  · rename_i r some
    rw [some]
    rfl

theorem Tape.stepDuck_eq (t : Tape) : t.stepDuck =
    { t with
      duckTerm := t.duckRamp.elim t.duckTerm fun r => r.next.value r.next.k
      duckRamp := t.duckRamp.map Ramp.next } := by
  unfold Tape.stepDuck
  split
  · rename_i none
    rw [none, Option.map_none, Option.elim_none, ← none]
  · rename_i r some
    rw [some]
    rfl

theorem Tape.mix_eq (t : Tape) : t.mix =
    if t.mute = true ∨ 120 ≤ t.base + t.duckTerm then none else some (t.base + t.duckTerm) := by
  simp [Tape.mix]

theorem execBaseRampEnd_eq {r : Ramp} (hr : s.tape.baseRamp = some r) : execBaseRampEnd s = .next
    (if r.n ≤ r.k then { s with tape := { s.tape with base := r.b, baseRamp := none } } else s) := by
  by_cases done : r.n ≤ r.k <;> simp [execBaseRampEnd, hr, Ramp.done, done, State.onTape]

theorem execDuckRampEnd_eq {r : Ramp} (hr : s.tape.duckRamp = some r) : execDuckRampEnd s = .next
    (if r.n ≤ r.k then { s with tape := { s.tape with duckTerm := r.b, duckRamp := none } } else s) := by
  by_cases done : r.n ≤ r.k <;> simp [execDuckRampEnd, hr, Ramp.done, done, State.onTape]

end

/-- Settles O38: each setting by its range, and the tick as one step of each ramp and the mix. -/
theorem soundIsMixed : Obligations.SoundIsMixed := by
  unfold Obligations.SoundIsMixed
  intro s
  refine ⟨fun v ha => ⟨fun big => ?_, fun small gone => ?_, fun small moves => ?_, fun small rest => ?_⟩,
    fun a ha => ⟨fun small => ?_, fun big => ?_⟩,
    fun d sw ha => ⟨fun out => ?_, fun small on => ?_, fun small off => ?_, fun small left off => ?_⟩,
    fun m ha small => execSetMute_eq ha small, ?_, fun r hr => ⟨fun done => ?_, fun short => ?_⟩,
    fun r hr => ⟨fun done => ?_, fun short => ?_⟩⟩
  · exact (execSetTapePosition_eq ha).trans (by rw [if_pos big])
  · exact (execSetTapePosition_eq ha).trans (by rw [if_neg (by omega), if_pos gone])
  · have present : s.tape.transport ≠ .noTape := by
      intro gone
      simp [gone, Transport.winding] at moves
    have taken : ¬s.tape.positionTaken = true := by
      rw [Tape.positionTaken_iff]
      rintro (h | h | ⟨h, hr⟩) <;> simp [h, Transport.winding] at moves
      exact moves hr
    exact (execSetTapePosition_eq ha).trans (by rw [if_neg (by omega), if_neg present, if_neg taken])
  · have present : s.tape.transport ≠ .noTape := by
      intro gone
      simp [gone] at rest
    exact (execSetTapePosition_eq ha).trans
      (by rw [if_neg (by omega), if_neg present, if_pos ((Tape.positionTaken_iff _).mpr rest)]; rfl)
  · exact (execSetGain_eq ha).trans (by rw [if_pos small]; rfl)
  · exact (execSetGain_eq ha).trans (by rw [if_neg (by omega)])
  · exact (execSetDuckDepth_eq ha).trans (by rw [if_neg (by omega)])
  · have range : d ≤ 120 ∧ sw ≤ 2 := ⟨small, by omega⟩
    exact (execSetDuckDepth_eq ha).trans (by rw [if_pos range, State.onTape, Tape.duckSettings_on d on])
  · subst off
    exact (execSetDuckDepth_eq ha).trans (by rw [if_pos ⟨small, by omega⟩, State.onTape, Tape.duckSettings_off])
  · subst left
    exact (execSetDuckDepth_eq ha).trans (by rw [if_pos ⟨small, le_rfl⟩, State.onTape, Tape.duckSettings_left d off])
  · simp only [← Ramp.next_value]
    show Host.Outcome.next (s.onTape fun t => { t.stepBase.stepDuck with output := t.stepBase.stepDuck.mix }) = _
    simp only [State.onTape, Tape.mix_eq, Tape.stepDuck_eq, Tape.stepBase_eq]
    rfl
  · exact (execBaseRampEnd_eq hr).trans (by rw [if_pos done])
  · exact (execBaseRampEnd_eq hr).trans (by rw [if_neg (by omega)])
  · exact (execDuckRampEnd_eq hr).trans (by rw [if_pos done])
  · exact (execDuckRampEnd_eq hr).trans (by rw [if_neg (by omega)])

end Sys2Proof.Machine
end

section
/-! PROOFS. What a cue action asks of its owner: the profile and the frame of a RELAY as whole next states. O42. -/

namespace Sys2Proof.Machine

section

variable {s : State}

/-- R100: a profile that is not valid is refused, and another waits for the next period. -/
theorem offerProfile_val (p : Fin 8) : offerProfile p.val s =
    if s.thermal.profiles[p].valid = false then (s, .badValue)
    else (s.onThermal fun t => { t with next := if p = t.active then none else some p }, .done) := by
  rw [offerProfile, profileIndex_val]
  rfl

theorem Bus.canOriginate_iff (b : Bus) : b.canOriginate = true ↔ b.slot = none ∧ b.state = .active := by
  simp [Bus.canOriginate]

/-- R176: no frame is taken with the Origination Slot in use or the port not ACTIVE. -/
theorem offerFrame_barred {origin dest key : Nat} {args : List Nat} {rep : Bool}
    (h : ¬(s.bus.slot = none ∧ s.bus.state = .active)) : offerFrame origin dest key args rep s = (s, .notNow) :=
  if_pos (eq_false_of_ne_true fun able => h (s.bus.canOriginate_iff.mp able))

/-- R176: a frame is taken into the empty Origination Slot of an ACTIVE port, with the next running count. -/
theorem offerFrame_taken {origin dest key : Nat} {args : List Nat} (empty : s.bus.slot = none)
    (active : s.bus.state = .active) : offerFrame origin dest key args false s =
    let seq := (s.bus.running + 1) % 256
    let f : RemoteFrame := { dest := dest, source := s.bus.address, seq := seq, key := key, rep := false, args := args }
    ({ s with bus := { s.bus with
       running := seq
       slot := some { origin := origin, dest := dest, key := key, seq := seq, frame := f.toBytes, phase := .waiting,
                      retries := 0, wait := 500 } } }, .done) :=
  if_neg (ne_false_of_eq_true (s.bus.canOriginate_iff.mpr ⟨empty, active⟩))

end

/-- Settles O42: each action is its owner's request, and the owner's answer is a lemma of its own where it has cases. -/
theorem cueActionsReachTheirOwners : Obligations.CueActionsReachTheirOwners := by
  unfold Obligations.CueActionsReachTheirOwners
  intro n s
  refine ⟨fun _ => rfl, fun _ => rfl, rfl, rfl, fun _ => rfl, fun _ => rfl, fun _ => rfl, fun p valid => ?profile,
    fun p invalid => ?invalid, fun present still => ?still, fun playing => ?pauses, fun dest key arg barred => ?barred,
    fun dest key arg empty active => ?relay, fun _ => rfl⟩
  case profile => exact (offerProfile_val p).trans (if_neg (ne_false_of_eq_true valid))
  case invalid => exact (offerProfile_val p).trans (if_pos invalid)
  case still => exact offerTapePause_of_not_playing present still
  case pauses =>
    have pauses : offerAction n .tapePause s = (enterPaused s, .done) := offerTapePause_of_playing playing
    rw [pauses, enterPaused_of_playing playing]
    exact ⟨rfl, rfl⟩
  case barred => exact offerFrame_barred barred
  case relay => exact offerFrame_taken empty active

end Sys2Proof.Machine
end

section
/-! PROOFS. The requests on the Cue Map: the entry a WRITE CUE names and writes, and ARM, PAUSE and RETIRE CUE (O39). -/

namespace Sys2Proof.Machine

/-! ### The entry numbers -/

theorem mem_cueNumbers {n : Nat} : n ∈ cueNumbers ↔ 1 ≤ n ∧ n ≤ 32 := by
  simp only [cueNumbers, List.mem_map, List.mem_range]
  exact ⟨fun ⟨i, hi, h⟩ => by omega, fun h => ⟨n - 1, by omega, by omega⟩⟩

/-- The search through the entries finds the lowest number that qualifies. -/
theorem cueNumbers_find?_lowest {p : Nat → Bool} {n : Nat} (hn : 1 ≤ n ∧ n ≤ 32) (here : p n = true)
    (below : ∀ m, 1 ≤ m → m < n → p m = false) : cueNumbers.find? p = some n := by
  have back : n - 1 + 1 = n := by omega
  have first : (List.range 32).find? (p ∘ (· + 1)) = some (n - 1) := by
    rw [List.find?_range_eq_some]
    refine ⟨by simpa [back] using here, by simp; omega, fun j hj => ?_⟩
    simpa using below (j + 1) (by omega) (by omega)
  rw [cueNumbers, List.find?_map, first, Option.map_some, back]

theorem cueNumbers_find?_none {p : Nat → Bool} (h : ∀ n, 1 ≤ n → n ≤ 32 → p n = false) :
    cueNumbers.find? p = none := by
  rw [List.find?_eq_none]
  intro n hn
  obtain ⟨low, high⟩ := mem_cueNumbers.mp hn
  simp [h n low high]

theorem cueInRange_iff (n : Nat) : cueInRange n = true ↔ 1 ≤ n ∧ n ≤ 32 := by simp [cueInRange]

/-- R137, R138: a duplicate is another ARMED entry with the same code and selector. -/
theorem CueUnit.duplicate_iff (u : CueUnit) (n : Nat) (code : CueCode) (sel : Selector) :
    u.duplicate n code sel = true ↔ ∃ m, 1 ≤ m ∧ m ≤ 32 ∧ m ≠ n ∧ (u.entry m).state = .armed ∧
      (u.entry m).code = code ∧ (u.entry m).selector = sel := by
  simp [CueUnit.duplicate, mem_cueNumbers, and_assoc]

/-- A write of an entry changes the map alone. -/
theorem CueUnit.setEntry_eq_map (u : CueUnit) (n : Nat) (e : CueEntry) :
    u.setEntry n e = { u with map := (u.setEntry n e).map } := by
  unfold CueUnit.setEntry
  split <;> rfl

/-! ### The entry a WRITE CUE names (R137 step 1) -/

section

variable {u : CueUnit} {n : Nat}

theorem cueNamed_of_range (hn : 1 ≤ n ∧ n ≤ 32) : cueNamed u n = .ok n := by
  rw [cueNamed, if_neg (by omega), if_pos ((cueInRange_iff n).mpr hn)]

theorem cueNamed_beyond (hn : 32 < n) : cueNamed u n = .error .badIndex := by
  rw [cueNamed, if_neg (by omega), if_neg (mt (cueInRange_iff n).mp (by omega))]

theorem cueNamed_lowest (hn : 1 ≤ n ∧ n ≤ 32) (free : (u.entry n).state = .free)
    (below : ∀ m, 1 ≤ m → m < n → (u.entry m).state ≠ .free) : cueNamed u 0 = .ok n := by
  have found : (cueNumbers.find? fun m => (u.entry m).state == .free) = some n :=
    cueNumbers_find?_lowest hn (by simp [free]) fun m low less => by simp [below m low less]
  rw [cueNamed, if_pos rfl, found]

theorem cueNamed_full (used : ∀ m, 1 ≤ m → m ≤ 32 → (u.entry m).state ≠ .free) : cueNamed u 0 = .error .full := by
  have none : (cueNumbers.find? fun m => (u.entry m).state == .free) = none :=
    cueNumbers_find?_none fun m low high => by simp [used m low high]
  rw [cueNamed, if_pos rfl, none]

end

/-! ### The fields of a WRITE CUE (R135, R137 step 2) -/

theorem CueState.wanted_eq (n : Nat) :
    CueState.wanted n = if n = 1 ∨ n = 2 then some (if n = 1 then .armed else .paused) else none := by
  match n with
  | 0 => rfl
  | 1 => rfl
  | 2 => rfl
  | n + 3 => simp [CueState.wanted]

theorem Selector.fromCode_code (sel : Selector) : Selector.fromCode sel.code = some sel := by cases sel <;> rfl

theorem Selector.fromCode_beyond {n : Nat} (h : 3 < n) : Selector.fromCode n = none := by
  match n with
  | n + 4 => rfl

theorem onOff_beyond {n : Nat} (h : 1 < n) : onOff n = none := by
  match n with
  | n + 2 => rfl

/-- R135: a window as carried is absent, or has its ends in order within their bounds. -/
def windowFits (present lo hi least most : Nat) : Prop := present = 0 ∨ present = 1 ∧ least ≤ lo ∧ lo ≤ hi ∧ hi ≤ most

theorem windowOf_of_fits {present lo hi least most : Nat} (h : windowFits present lo hi least most) :
    windowOf present lo hi least most = some (if present = 1 then some { lo := lo, hi := hi } else none) := by
  rcases h with rfl | ⟨rfl, low, order, high⟩
  · rfl
  · exact if_pos ⟨low, high, order⟩

theorem windowOf_of_not_fits {present lo hi least most : Nat} (h : ¬windowFits present lo hi least most) :
    windowOf present lo hi least most = none := by
  match present with
  | 0 => exact absurd (.inl rfl) h
  | 1 => exact if_neg fun ⟨low, high, order⟩ => h (.inr ⟨rfl, low, order, high⟩)
  | n + 2 => rfl

theorem cueActionOf_step {v : CueImage} (h : v.action = 1) : cueActionOf v =
    if 1 ≤ v.a1 ∧ v.a1 ≤ 9 ∧ v.a0 ≤ 1 then some (.step (if v.a0 = 0 then v.a1 else -(v.a1 : Int))) else none := by
  simp only [cueActionOf, h]
  by_cases count : 1 ≤ v.a1 ∧ v.a1 ≤ 9
  · rcases Nat.lt_or_ge 1 v.a0 with beyond | sign
    · simp [count, show v.a0 ≠ 0 by omega, show v.a0 ≠ 1 by omega, Nat.not_le.mpr beyond]
    · obtain zero | one : v.a0 = 0 ∨ v.a0 = 1 := by omega
      · simp [count, zero]
      · simp [count, one]
  · have outside : ¬(1 ≤ v.a1 ∧ v.a1 ≤ 9 ∧ v.a0 ≤ 1) := fun ⟨low, high, _⟩ => count ⟨low, high⟩
    rw [if_neg count, if_neg outside]

theorem cueActionOf_duck {v : CueImage} (h : v.action = 8) : cueActionOf v =
    if v.a0 ≤ 1 then some (.duck (v.a0 == 1)) else none := by
  simp only [cueActionOf, h]
  split
  · rename_i range
    simp [onOff_of_le range]
  · rename_i range
    simp [onOff_beyond (Nat.not_le.mp range)]

/-- R135: a key another projector may be sent, with the count of its arguments. -/
theorem keySendable_args_iff (key count : Nat) : keySendable key = true ∧ keyArgs key = some count ↔
    1 ≤ key ∧ key ≤ 18 ∧ key ≠ 17 ∧ count = if key = 3 then 1 else 0 := by
  by_cases out : key = 0 ∨ 19 < key
  · have args : keyArgs key = none := if_pos out
    simp [keySendable, args]
    omega
  by_cases three : key = 3
  · simp [three, keySendable, keyArgs, eq_comm]
  by_cases answer : key = 19
  · simp [answer, keySendable]
  have args : keyArgs key = some 0 := by rw [keyArgs, if_neg out, if_neg three, if_neg answer]
  simp only [keySendable, args, Option.isSome_some, Bool.true_and, Bool.and_eq_true, bne_iff_ne, Option.some.injEq,
    if_neg three]
  omega

theorem cueActionOf_relay {v : CueImage} (h : v.action = 10) : cueActionOf v =
    if 1 ≤ v.a0 ∧ v.a0 ≤ 31 ∧ 1 ≤ v.a1 ∧ v.a1 ≤ 18 ∧ v.a1 ≠ 17 ∧ v.a2 = (if v.a1 = 3 then 1 else 0) ∧ v.a3 ≤ 255
    then some (.relay v.a0 v.a1 (if v.a2 = 1 then some v.a3 else none)) else none := by
  simp only [cueActionOf, h]
  refine if_congr ?_ rfl rfl
  have key := keySendable_args_iff v.a1 v.a2
  constructor
  · rintro ⟨low, high, sendable, args, -, byte⟩
    obtain ⟨one, last, pair, count⟩ := key.mp ⟨sendable, args⟩
    exact ⟨low, high, one, last, pair, count, byte⟩
  · rintro ⟨low, high, one, last, pair, count, byte⟩
    obtain ⟨sendable, args⟩ := key.mpr ⟨one, last, pair, count⟩
    exact ⟨low, high, sendable, args, by rw [count]; split <;> omega, byte⟩

/-- R137 step 2: every field and the argument lie in their ranges. -/
structure ImageInRange (v : CueImage) : Prop where
  want : v.want = 1 ∨ v.want = 2
  code : v.code ≤ 4095
  selector : v.selector ≤ 3
  action : cueActionOf v ≠ none
  single : v.single ≤ 1
  tape : windowFits v.tapePresent v.tapeFrom v.tapeTo 0 65535
  slot : windowFits v.slotPresent v.slotLo v.slotHi 1 140

theorem imageInRange_of_cueEntryOf {v : CueImage} {e : CueEntry} (h : cueEntryOf v = some e) : ImageInRange v := by
  simp only [cueEntryOf, Option.bind_eq_bind, Option.bind_eq_some_iff] at h
  obtain ⟨st, want, sel, selector, a, action, single, flag, tape, tapeWindow, slot, slotWindow, h⟩ := h
  refine ⟨?_, ?_, ?_, by simp [action], ?_, ?_, ?_⟩ <;> by_contra out
  · simp [CueState.wanted_eq, out] at want
  · simp [out] at h
  · simp [Selector.fromCode_beyond (Nat.not_le.mp out)] at selector
  · simp [onOff_beyond (Nat.not_le.mp out)] at flag
  · simp [windowOf_of_not_fits out] at tapeWindow
  · simp [windowOf_of_not_fits out] at slotWindow

theorem cueEntryOf_eq_none {v : CueImage} (h : ¬ImageInRange v) : cueEntryOf v = none :=
  Option.eq_none_iff_forall_ne_some.mpr fun _ he => h (imageInRange_of_cueEntryOf he)

/-- R137: the entry written holds the fields as carried, in the state wanted and with no hits. -/
theorem cueEntryOf_eq_some {v : CueImage} (range : ImageInRange v) {new : CueEntry}
    (state : new.state = if v.want = 1 then .armed else .paused) (code : new.code.toNat = v.code)
    (selector : new.selector.code = v.selector) (action : new.action = cueActionOf v)
    (single : new.single = (v.single == 1))
    (tape : new.tapeWindow = if v.tapePresent = 1 then some { lo := v.tapeFrom, hi := v.tapeTo } else none)
    (slot : new.slotWindow = if v.slotPresent = 1 then some { lo := v.slotLo, hi := v.slotHi } else none)
    (hits : new.hits = 0) : cueEntryOf v = some new := by
  obtain ⟨a, ha⟩ := Option.ne_none_iff_exists'.mp range.action
  have wanted : CueState.wanted v.want = some new.state := by rw [CueState.wanted_eq, if_pos range.want, state]
  have mask : Selector.fromCode v.selector = some new.selector := by rw [← selector, Selector.fromCode_code]
  have flag : onOff v.single = some new.single := by rw [onOff_of_le range.single, single]
  have tapeWindow := windowOf_of_fits range.tape
  have slotWindow := windowOf_of_fits range.slot
  rw [← tape] at tapeWindow
  rw [← slot] at slotWindow
  simp only [cueEntryOf, wanted, mask, ha, flag, tapeWindow, slotWindow, if_pos range.code, Option.bind_eq_bind,
    Option.bind_some, Option.some.injEq]
  rw [← code, BitVec.ofNat_toNat, BitVec.setWidth_eq, ← ha, ← action, ← hits]

/-! ### The requests (R137 to R139) -/

section

variable {s : State} {n : Nat}

theorem writeCue_unnamed {v : CueImage} {st : Status} (h : cueNamed s.cue v.entry = .error st) :
    writeCue v s = refuse st s := by
  rw [writeCue, h]

theorem writeCue_of_bad {v : CueImage} (named : cueNamed s.cue v.entry = .ok n) (bad : ¬ImageInRange v) :
    writeCue v s = refuse .badValue s := by
  simp only [writeCue, named, cueEntryOf_eq_none bad]

/-- R137: an entry in range is refused as a duplicate or written. -/
theorem writeCue_of_entry {v : CueImage} {new : CueEntry} (hn : 1 ≤ n ∧ n ≤ 32)
    (named : cueNamed s.cue v.entry = .ok n) (image : cueEntryOf v = some new) : writeCue v s =
      if new.state = .armed ∧ s.cue.duplicate n new.code new.selector = true then refuse .duplicate s
      else answer { s with cue := s.cue.setEntry n new } (cueEntryBytes n new) := by
  simp only [writeCue, named, image, State.onCue, CueUnit.entry_setEntry_same _ _ hn]

/-- A request on an entry of the map is its owner's answer. -/
theorem entryRequest_of_range {c : Instr} {owner : State → Reply} {r : Reply} (ha : s.link.accepts c = true)
    (hn : 1 ≤ n ∧ n ≤ 32) (h : owner s = r) :
    hostRequest c (fun s => if cueInRange n then owner s else refuse .badIndex s) s =
      .next (respond (requestCode c) r.status r.payload r.state) := by
  rw [hostRequest_of_accepts _ _ _ ha, if_pos ((cueInRange_iff n).mpr hn), h]

theorem entryRequest_beyond {c : Instr} {owner : State → Reply} (ha : s.link.accepts c = true) (hn : n = 0 ∨ 32 < n) :
    hostRequest c (fun s => if cueInRange n then owner s else refuse .badIndex s) s =
      .next (respond (requestCode c) .badIndex [] s) := by
  rw [hostRequest_of_accepts _ _ _ ha, if_neg (mt (cueInRange_iff n).mp (by omega))]
  rfl

theorem execRetireCue_eq (ha : s.link.accepts (.retireCue n) = true) (hn : 1 ≤ n ∧ n ≤ 32) : execRetireCue n s =
    .next (respond 41 .done [] { s with cue := s.cue.setEntry n CueEntry.blank }) := by
  rw [execRetireCue, hostRequest_of_accepts _ _ _ ha, if_pos ((cueInRange_iff n).mpr hn)]
  rfl

theorem execWriteCue_of {v : CueImage} {r : Reply} (ha : s.link.accepts (.writeCue v) = true) (h : writeCue v s = r) :
    execWriteCue v s = .next (respond 38 r.status r.payload r.state) := by
  rw [execWriteCue, hostRequest_of_accepts _ _ _ ha, h]
  rfl

theorem armCue_of_free (h : (s.cue.entry n).state = .free) : armCue n s = refuse .notNow s := by
  simp only [armCue, h]

theorem armCue_of_armed (h : (s.cue.entry n).state = .armed) : armCue n s = answer s [1] := by
  simp only [armCue, h]
  rfl

/-- R138: a PAUSED or SPENT entry is refused as a duplicate or armed. -/
theorem armCue_of_stopped (h : (s.cue.entry n).state = .paused ∨ (s.cue.entry n).state = .spent) : armCue n s =
    if s.cue.duplicate n (s.cue.entry n).code (s.cue.entry n).selector = true then refuse .duplicate s
    else answer { s with cue := s.cue.setEntry n { s.cue.entry n with state := .armed } } [1] := by
  rcases h with h | h <;> simp only [armCue, h] <;> rfl

theorem pauseCue_of_unready (h : (s.cue.entry n).state = .free ∨ (s.cue.entry n).state = .spent) :
    pauseCue n s = refuse .notNow s := by
  rcases h with h | h <;> simp only [pauseCue, h]

theorem pauseCue_of_armed (h : (s.cue.entry n).state = .armed) : pauseCue n s =
    answer { s with cue := s.cue.setEntry n { s.cue.entry n with state := .paused } } [2] := by
  simp only [pauseCue, h]
  rfl

theorem pauseCue_of_paused (h : (s.cue.entry n).state = .paused) : pauseCue n s = answer s [2] := by
  simp only [pauseCue, h]
  rfl

end

/-- Settles O39: the named entry and the image decide a WRITE CUE, the entry's state the other requests; what is written
is one entry of the map. -/
theorem cueEntriesAreKept : Obligations.CueEntriesAreKept := by
  unfold Obligations.CueEntriesAreKept
  intro s n hn e twin becomes refused
  have written {c : Instr} {code : Nat} {new : CueEntry} {payload : List Byte}
      (h : exec c s = .next (respond code .done payload { s with cue := s.cue.setEntry n new })) :
      becomes c code new payload :=
    ⟨_, h, congrArg (fun u => { s with cue := u }) (s.cue.setEntry_eq_map n new), s.cue.entry_setEntry_same new hn,
      fun m hm => s.cue.entry_setEntry_other new hm⟩
  have twinned (code : CueCode) (sel : Selector) : s.cue.duplicate n code sel = true ↔ twin code sel :=
    s.cue.duplicate_iff n code sel
  refine ⟨fun v ha names => ?write, fun m out => ⟨fun ha => ?_, fun ha => ?_, fun ha => ?_⟩,
    fun v ha => ⟨fun beyond => ?_, fun lowest used => ?_⟩,
    fun ha => ⟨fun free => ?_, fun armed => ?_, fun stopped => ⟨fun double => ?_, fun single => ?_⟩⟩,
    fun ha => ⟨fun away => ?_, fun armed => ?_, fun paused => ?_⟩, fun ha => ?_⟩
  case write =>
    intro window windowed word action good
    have named : cueNamed s.cue v.entry = .ok n := by
      rcases names with rfl | ⟨lowest, free, below⟩
      · exact cueNamed_of_range hn
      · rw [lowest]
        exact cueNamed_lowest hn free below
    have asked : cueActionOf v = action := by
      simp only [action]
      split
      case h_1 h => exact cueActionOf_step h
      case h_8 h => exact cueActionOf_duck h
      case h_10 h => exact cueActionOf_relay h
      all_goals simp [cueActionOf, word, *]
    have ranged : ImageInRange v ↔ good :=
      ⟨fun ⟨want, code, sel, act, single, tape, slot⟩ => ⟨want, code, sel, asked ▸ act, single, tape, slot⟩,
        fun ⟨want, code, sel, act, single, tape, slot⟩ => ⟨want, code, sel, asked ▸ act, single, tape, slot⟩⟩
    refine ⟨fun bad => ?_, fun fits new state code sel act single tape slot hits => ?_⟩
    · exact (execWriteCue_of ha (writeCue_of_bad named (mt ranged.mp bad)) : execWriteCue v s = _)
    · have image := cueEntryOf_eq_some (ranged.mpr fits) state code sel (act.trans asked.symm) single tape slot hits
      have reply := writeCue_of_entry hn named image
      refine ⟨fun armed double => ?_, fun apart => ?_⟩
      · rw [if_pos ⟨armed, (twinned ..).mpr double⟩] at reply
        exact (execWriteCue_of ha reply : execWriteCue v s = _)
      · rw [if_neg fun ⟨armed, double⟩ => apart ⟨armed, (twinned ..).mp double⟩] at reply
        exact written (execWriteCue_of ha reply : execWriteCue v s = _)
  · exact (entryRequest_beyond ha out : execArmCue m s = _)
  · exact (entryRequest_beyond ha out : execPauseCue m s = _)
  · exact (entryRequest_beyond ha out : execRetireCue m s = _)
  · exact (execWriteCue_of ha (writeCue_unnamed (cueNamed_beyond beyond)) : execWriteCue v s = _)
  · exact (execWriteCue_of ha (writeCue_unnamed (by rw [lowest, cueNamed_full used])) : execWriteCue v s = _)
  · exact (entryRequest_of_range ha hn (armCue_of_free free) : execArmCue n s = _)
  · exact (entryRequest_of_range ha hn (armCue_of_armed armed) : execArmCue n s = _)
  · have reply := armCue_of_stopped stopped
    rw [if_pos ((twinned ..).mpr double)] at reply
    exact (entryRequest_of_range ha hn reply : execArmCue n s = _)
  · have reply := armCue_of_stopped stopped
    rw [if_neg (mt (twinned ..).mp single)] at reply
    exact written (entryRequest_of_range ha hn reply : execArmCue n s = _)
  · exact (entryRequest_of_range ha hn (pauseCue_of_unready away) : execPauseCue n s = _)
  · exact written (entryRequest_of_range ha hn (pauseCue_of_armed armed) : execPauseCue n s = _)
  · exact (entryRequest_of_range ha hn (pauseCue_of_paused paused) : execPauseCue n s = _)
  · exact written (execRetireCue_eq ha hn)

end Sys2Proof.Machine
end

section
/-! PROOFS. The cue receiver and the confirm stage (O40), and how an accepted code comes about: a complete word, and a
pulse. -/

namespace Sys2Proof.Machine

/-! ### The code of a word (R130) -/

/-- Bit i of the code is the i-th bit received. -/
theorem wordCode_testBit (bits : List Bool) (i : Nat) : (wordCode bits).testBit i = bits.getD i false := by
  induction bits generalizing i with
  | nil => simp [wordCode]
  | cons b rest ih =>
    cases i with
    | zero => cases b <;> simp [wordCode, Nat.testBit_zero, Nat.add_mod]
    | succ i =>
      have half : ((if b then 1 else 0) + 2 * wordCode rest) / 2 = wordCode rest := by split <;> omega
      simp only [wordCode, Nat.testBit_add_one, half, ih, List.getD_cons_succ]

/-- R130: the data bits spell a code, least significant bit first. -/
def Spells (bits : List Bool) (code : CueCode) : Prop := ∀ i, i < 12 → code.getLsbD i = bits.getD i false

theorem Spells.wordCode_eq {bits : List Bool} {code : CueCode} (h : Spells bits code) :
    wordCode (bits.take 12) = code.toNat := by
  refine Nat.eq_of_testBit_eq fun i => ?_
  rw [wordCode_testBit, BitVec.testBit_toNat, List.getD_eq_getElem?_getD, List.getElem?_take]
  split
  · rw [h i ‹_›, List.getD_eq_getElem?_getD]
  · exact (code.getLsbD_of_ge i (Nat.not_lt.mp ‹_›)).symm

theorem reserved_getLsbD {i : Nat} (hi : i < 12) : (4095 : CueCode).getLsbD i = true := by
  decide +revert

/-- R130: twelve 1s are the reserved code. -/
theorem spells_reserved {bits : List Bool} (ones : ∀ i, i < 12 → bits.getD i false = true) : Spells bits 4095 :=
  fun i hi => (reserved_getLsbD hi).trans (ones i hi).symm

/-! ### The check of a word (R130) -/

section

variable {bits : List Bool}

theorem checkWord_framing : checkWord bits false = .bad .framing := rfl

theorem checkWord_parity (odd : ¬bits.countP (fun b => b) % 2 = 0) : checkWord bits true = .bad .parity := by
  simp [checkWord, evenParity, odd]

theorem checkWord_reserved (even : bits.countP (fun b => b) % 2 = 0) (spelled : Spells bits 4095) :
    checkWord bits true = .bad .reserved := by
  simp [checkWord, evenParity, even, spelled.wordCode_eq]

theorem checkWord_good {code : CueCode} (even : bits.countP (fun b => b) % 2 = 0) (spelled : Spells bits code)
    (free : code ≠ 4095) : checkWord bits true = .good code := by
  have below : code.toNat ≠ 4095 := fun h => free (BitVec.eq_of_toNat_eq h)
  simp [checkWord, evenParity, even, spelled.wordCode_eq, below]

end

/-! ### A complete word and a pulse (R130, R131, R133) -/

section

variable {s : State} {bits : List Bool} {code : CueCode}

theorem cueGateOpen_iff : cueGateOpen s = true ↔ s.tape.transport = .playing := by simp [cueGateOpen]

theorem wordDone_bad {stop : Bool} {cause : CueFault} (h : checkWord bits stop = .bad cause) :
    wordDone bits stop s = raise (.cueBad cause) { s with cue := { s.cue with rx := .idle } } := by
  simp only [wordDone, h]
  rfl

/-- R131: a good word goes to the confirm stage, or with confirm pairs off is accepted as it comes. -/
theorem wordDone_good {stop : Bool} (h : checkWord bits stop = .good code) : wordDone bits stop s =
    if s.cue.confirm = true then confirmWord code { s with cue := { s.cue with rx := .idle } }
    else acceptCode code .coded { s with cue := { s.cue with rx := .idle } } := by
  simp only [wordDone, h]
  rfl

theorem confirmWord_held (other : ∀ h, s.cue.holding = some h → h.code ≠ code) : confirmWord code s =
    { s with cue := { s.cue with holding := some { code := code, left := 150 } } } := by
  unfold confirmWord
  split
  · rename_i held found
    exact if_neg (other held found)
  · rfl

theorem confirmWord_same {left : Nat} (held : s.cue.holding = some { code := code, left := left }) :
    confirmWord code s = acceptCode code .coded { s with cue := { s.cue with holding := none } } := by
  simp only [confirmWord, held, if_true]
  rfl

theorem wordDone_held {stop : Bool} (h : checkWord bits stop = .good code) (pairs : s.cue.confirm = true)
    (other : ∀ h, s.cue.holding = some h → h.code ≠ code) : wordDone bits stop s =
      { s with cue := { s.cue with rx := .idle, holding := some { code := code, left := 150 } } } := by
  rw [wordDone_good h, if_pos pairs]
  exact confirmWord_held other

theorem wordDone_single {stop : Bool} (h : checkWord bits stop = .good code) (single : s.cue.confirm = false) :
    wordDone bits stop s = acceptCode code .coded { s with cue := { s.cue with rx := .idle } } := by
  rw [wordDone_good h, if_neg (by simp [single])]

theorem wordDone_confirmed {stop : Bool} {left : Nat} (h : checkWord bits stop = .good code)
    (pairs : s.cue.confirm = true) (held : s.cue.holding = some { code := code, left := left }) :
    wordDone bits stop s =
      acceptCode code .coded { s with cue := { s.cue with rx := .idle, holding := none } } := by
  rw [wordDone_good h, if_pos pairs]
  exact confirmWord_same held

/-- R129: with the gate open and thirteen bits taken the stop bit completes the word. -/
theorem execCueWordComplete_of_open (opened : s.tape.transport = .playing) (rx : s.cue.rx = .word bits)
    (full : bits.length = 13) (stop : Bool) : execCueWordComplete stop s = .next (wordDone bits stop s) := by
  simp only [execCueWordComplete, rx, if_pos (show _ ∧ _ from ⟨cueGateOpen_iff.mpr opened, full⟩)]

/-- R130, R131: with confirm pairs off a good word is accepted as it comes. -/
theorem execCueWordComplete_single (opened : s.tape.transport = .playing) (rx : s.cue.rx = .word bits)
    (full : bits.length = 13) (good : checkWord bits true = .good code) (single : s.cue.confirm = false) :
    execCueWordComplete true s =
      .next (acceptCode code .coded { s with cue := { s.cue with rx := .idle } }) :=
  (execCueWordComplete_of_open opened rx full true).trans (congrArg _ (wordDone_single good single))

/-- R131: a good word that repeats the held one is accepted, and the word is no longer held. -/
theorem execCueWordComplete_confirmed {left : Nat} (opened : s.tape.transport = .playing) (rx : s.cue.rx = .word bits)
    (full : bits.length = 13) (good : checkWord bits true = .good code) (pairs : s.cue.confirm = true)
    (held : s.cue.holding = some { code := code, left := left }) : execCueWordComplete true s =
      .next (acceptCode code .coded { s with cue := { s.cue with rx := .idle, holding := none } }) :=
  (execCueWordComplete_of_open opened rx full true).trans (congrArg _ (wordDone_confirmed good pairs held))

/-- R133: with the gate open a burst that was timed is accepted as the code FFFh. -/
theorem execPulseCue_of_open (opened : s.tape.transport = .playing) (timed : s.cue.burst ≠ none) :
    execPulseCue s =
      .next (acceptCode 4095 .pulse { s with cue := { s.cue with tone := false, burst := none } }) :=
  congrArg Host.Outcome.next
    (if_pos ⟨cueGateOpen_iff.mpr opened, Option.isSome_iff_ne_none.mpr timed⟩)

end

/-! ### The receiver with the gate open and closed (R128, R129) -/

section

variable {s : State}

theorem execCueBitSample_of_open {bits : List Bool} (opened : s.tape.transport = .playing)
    (rx : s.cue.rx = .word bits) (room : bits.length < 13) (high : Bool) :
    execCueBitSample high s = .next { s with cue := { s.cue with rx := .word (bits ++ [high]) } } := by
  simp only [execCueBitSample, rx, if_pos (show _ ∧ _ from ⟨cueGateOpen_iff.mpr opened, room⟩)]
  rfl

theorem execCueBitSample_of_closed (closed : ¬cueGateOpen s = true) (high : Bool) :
    execCueBitSample high s = .next s := by
  unfold execCueBitSample
  split
  · rw [if_neg fun h => closed h.1]
  · rfl
  · rfl

theorem execCueWordComplete_of_closed (closed : ¬cueGateOpen s = true) (stop : Bool) :
    execCueWordComplete stop s = .next s := by
  unfold execCueWordComplete
  split
  · rw [if_neg fun h => closed h.1]
  · rfl
  · rfl

theorem execToneBurstStart_eq : execToneBurstStart s = .next { s with cue := { s.cue with
    tone := true, burst := if cueGateOpen s = true then some (s.cue.burst.getD 0) else s.cue.burst } } := rfl

end

/-- Settles O40: each event of the receiver by its state, a complete word by its check, and the closed gate. -/
theorem cueWordsAreReceived : Obligations.CueWordsAreReceived := by
  unfold Obligations.CueWordsAreReceived
  intro s rx
  refine ⟨fun opened => ?opened, fun closed b => ?closed, rfl, rfl⟩
  case opened =>
    have gate := cueGateOpen_iff.mpr opened
    refine ⟨fun idle => ?_, fun busy => ?_, fun start => ⟨?_, ?_⟩, fun bits word => ⟨fun high room => ?_,
      fun full => ?complete⟩, ?_⟩
    · exact congrArg Host.Outcome.next (if_pos ⟨gate, idle⟩)
    · exact congrArg Host.Outcome.next (if_neg fun h => busy h.2)
    · exact congrArg Host.Outcome.next (if_pos ⟨gate, start⟩)
    · exact congrArg Host.Outcome.next (if_pos ⟨gate, start⟩)
    · exact execCueBitSample_of_open opened word room high
    case complete =>
      have completes := execCueWordComplete_of_open opened word full
      refine ⟨?_, fun odd => ?_, fun even ones => ?_, fun even mixed pairs code spelled other => ?_⟩
      · exact (completes false).trans (by rw [wordDone_bad checkWord_framing])
      · exact (completes true).trans (by rw [wordDone_bad (checkWord_parity odd)])
      · exact (completes true).trans (by rw [wordDone_bad (checkWord_reserved even (spells_reserved ones))])
      · have free : code ≠ 4095 := by
          rintro rfl
          exact mixed fun i hi => (spelled i hi).symm.trans (reserved_getLsbD hi)
        exact (completes true).trans (by rw [wordDone_held (checkWord_good even spelled free) pairs other])
    · exact execToneBurstStart_eq.trans (by rw [if_pos gate])
  case closed =>
    have gate : ¬cueGateOpen s = true := mt cueGateOpen_iff.mp closed
    refine ⟨?_, ?_, execCueBitSample_of_closed gate b, execCueWordComplete_of_closed gate b, ?_, ?_⟩
    · exact congrArg Host.Outcome.next (if_neg fun h => gate h.1)
    · exact congrArg Host.Outcome.next (if_neg fun h => gate h.1)
    · exact execToneBurstStart_eq.trans (by rw [if_neg gate])
    · exact congrArg Host.Outcome.next (if_neg fun h => gate h.1)

end Sys2Proof.Machine
end

section
/-! PROOFS. What an accepted code is taken for: with learn mode OFF its entry and the entry's action (O41), else the Learn
Buffer (O43). -/

namespace Sys2Proof.Machine

/-! ### The lookup (R141) -/

section

variable {s : State} {code : CueCode} {kind : CodeKind} {n : Nat}

theorem Window.holds_iff (w : Option Window) (n : Option Nat) :
    Window.holds w n = true ↔ ∀ x, w = some x → ∃ k, n = some k ∧ x.lo ≤ k ∧ k ≤ x.hi := by
  cases w <;> cases n <;> simp [Window.holds]

theorem tapeWindowHolds_iff (w : Option Window) (t : Tape) : tapeWindowHolds w t = true ↔
    ∀ x, w = some x → t.sure = true ∧ x.lo ≤ t.counter ∧ t.counter ≤ x.hi := by
  cases w <;> simp [tapeWindowHolds, Window.holds]

/-- R136, R141: an entry matches when it is ARMED, agrees under its mask and both its windows hold. -/
theorem cueMatches_iff (s : State) (code : CueCode) (e : CueEntry) : cueMatches s code e = true ↔
    e.state = .armed ∧ code &&& s.cue.mask e.selector = e.code &&& s.cue.mask e.selector ∧
      (∀ w, e.tapeWindow = some w → s.tape.sure = true ∧ w.lo ≤ s.tape.counter ∧ s.tape.counter ≤ w.hi) ∧
      (∀ w, e.slotWindow = some w → ∃ k, s.changer.current = some k ∧ w.lo ≤ k ∧ k ≤ w.hi) := by
  simp only [cueMatches, codesMatch, Bool.and_eq_true, beq_iff_eq, tapeWindowHolds_iff, Window.holds_iff, and_assoc]

theorem acceptCode_of_off (off : s.cue.learn = .off) : acceptCode code kind s = lookUp code kind s := by
  simp only [acceptCode, off]

theorem lookUp_of_winner (hn : 1 ≤ n ∧ n ≤ 32) (here : cueMatches s code (s.cue.entry n) = true)
    (below : ∀ m, 1 ≤ m → m < n → ¬cueMatches s code (s.cue.entry m) = true) :
    lookUp code kind s = cueHit n code s := by
  have winner : cueWinner s code = some n :=
    cueNumbers_find?_lowest hn here fun m low less => eq_false_of_ne_true (below m low less)
  simp only [lookUp, winner]

theorem lookUp_of_none (none : ∀ m, 1 ≤ m → m ≤ 32 → ¬cueMatches s code (s.cue.entry m) = true) :
    lookUp code kind s =
      if kind = .pulse ∧ s.cue.legacy = true then legacyStep code s else raise (.cueUnmatched code) s := by
  have winner : cueWinner s code = .none :=
    cueNumbers_find?_none fun m low high => eq_false_of_ne_true (none m low high)
  simp only [lookUp, winner]

/-- R134: the legacy STEP +1 raises the notice of its answer. -/
theorem legacyStep_eq (code : CueCode) (s : State) : legacyStep code s =
    raise (if (offerStep (.cue 0) 1 s).2 = .done then .cueHit 0 code 0
      else .cueMissed 0 (.status (offerStep (.cue 0) 1 s).2)) (offerStep (.cue 0) 1 s).1 := by
  simp only [legacyStep]
  split <;> rfl

/-! ### The winner's action (R142) -/

variable {a : CueAction}

theorem cueHit_of_refused (ha : (s.cue.entry n).action = some a) (no : (offerAction n a s).2 ≠ .done) :
    cueHit n code s = raise (.cueMissed n (.status (offerAction n a s).2)) (offerAction n a s).1 := by
  simp only [cueHit, ha, if_neg no]

theorem cueHit_of_taken (ha : (s.cue.entry n).action = some a) (yes : (offerAction n a s).2 = .done) :
    cueHit n code s = raise (.cueHit n code a.notifyValue)
      ((offerAction n a s).1.onCue fun u => u.setEntry n (s.cue.entry n).hit) := by
  have same : (offerAction n a s).1.cue.entry n = s.cue.entry n := CueUnit.entry_of_map (offerAction_map n a s) n
  simp only [cueHit, ha, if_pos yes, State.onCue, same]

/-- R142: a taken action counts a hit at its entry, spends a single-shot one and leaves every other entry. -/
theorem cueHit_taken (hn : 1 ≤ n ∧ n ≤ 32) (ha : (s.cue.entry n).action = some a)
    (armed : (s.cue.entry n).state = .armed) (yes : (offerAction n a s).2 = .done) : ∃ t : State,
      cueHit n code s = raise (.cueHit n code a.notifyValue) t ∧
      t = { (offerAction n a s).1 with cue := { (offerAction n a s).1.cue with map := t.cue.map } } ∧
      t.cue.entry n = { s.cue.entry n with
        hits := min 255 ((s.cue.entry n).hits + 1)
        state := if (s.cue.entry n).single then .spent else .armed } ∧
      ∀ m, m ≠ n → t.cue.entry m = s.cue.entry m := by
  let offered := (offerAction n a s).1
  refine ⟨_, cueHit_of_taken ha yes, ?_, ?_, fun m hm => ?_⟩
  · exact congrArg (fun u => { offered with cue := u }) (offered.cue.setEntry_eq_map n _)
  · rw [State.onCue_cue, CueUnit.entry_setEntry_same _ _ hn, CueEntry.hit, armed]
    rfl
  · rw [State.onCue_cue, CueUnit.entry_setEntry_other _ _ hm]
    exact CueUnit.entry_of_map (offerAction_map n a s) m

/-! ### Learn mode (R146) -/

theorem acceptCode_of_empty (on : s.cue.learn = .on) (empty : s.cue.buffer = none) : acceptCode code kind s =
    raise (.learnReady code) { s with cue := { s.cue with
      learn := .on
      buffer := some { code := code, kind := kind, counter := s.tape.counter, sure := s.tape.sure } } } := by
  simp only [acceptCode, learn, on, empty, State.onCue]

theorem acceptCode_of_full (on : s.cue.learn = .on) (full : s.cue.buffer ≠ none) : acceptCode code kind s =
    raise (.learnOverrun code) { s with cue := { s.cue with learn := .overrun } } := by
  simp only [acceptCode, learn, on]
  split
  · exact absurd ‹_› full
  · rfl

theorem acceptCode_of_overrun (lost : s.cue.learn = .overrun) : acceptCode code kind s = s := by
  simp only [acceptCode, lost]

theorem CueUnit.learnOn_of_off {u : CueUnit} (off : u.learn = .off) :
    u.learnOn = { u with learn := .on, buffer := none } := by
  simp only [CueUnit.learnOn, off]

theorem CueUnit.learnOn_of_not_off {u : CueUnit} (h : u.learn ≠ .off) : u.learnOn = u := by
  unfold CueUnit.learnOn
  split
  · exact absurd ‹_› h
  · rfl
  · rfl

theorem execLearnOn_eq (ha : s.link.accepts .learnOn = true) :
    execLearnOn s = .next (respond 43 .done [] { s with cue := s.cue.learnOn }) :=
  hostRequest_of_accepts _ _ _ ha

end

/-- Settles O41: a code comes of a single word, of a confirmed one or of a pulse, and its lookup is the same. -/
theorem acceptedCodesFindTheirEntry : Obligations.AcceptedCodesFindTheirEntry := by
  unfold Obligations.AcceptedCodesFindTheirEntry
  intro s code opened off finds
  have found {c : Instr} {kind : CodeKind} {u : CueUnit} {legacy : Bool} (map : u.map = s.cue.map)
      (masks : u.mask = s.cue.mask) (mode : u.learn = s.cue.learn) (option : legacy = (kind == .pulse && u.legacy))
      (accepted : exec c s = .next (acceptCode code kind { s with cue := u })) : finds c { s with cue := u } legacy := by
    rw [acceptCode_of_off (mode.trans off)] at accepted
    have entry (m : Nat) : u.entry m = s.cue.entry m := CueUnit.entry_of_map map m
    have matching (m : Nat) := cueMatches_iff { s with cue := u } code (u.entry m)
    simp only [masks, entry] at matching
    refine ⟨fun n a low high here below ha => ?winner, fun none => ?nobody⟩
    case winner =>
      have winner : lookUp code kind { s with cue := u } = cueHit n code { s with cue := u } :=
        lookUp_of_winner ⟨low, high⟩ (entry n ▸ (matching n).mpr here)
          fun m mlow less => entry m ▸ mt (matching m).mp (below m mlow less)
      rw [winner] at accepted
      have asks : (u.entry n).action = some a := entry n ▸ ha
      refine ⟨fun yes => ?_, fun no => ?_⟩
      · obtain ⟨armed, -⟩ := here
        rw [← entry n] at armed
        obtain ⟨t, hit, frame, spent, others⟩ := cueHit_taken ⟨low, high⟩ asks armed yes
        exact ⟨t, accepted.trans (congrArg _ hit), frame, entry n ▸ spent, fun m hm => (others m hm).trans (entry m)⟩
      · exact accepted.trans (congrArg _ (cueHit_of_refused asks no))
    case nobody =>
      rw [lookUp_of_none fun m low high => entry m ▸ mt (matching m).mp (none m low high)] at accepted
      refine ⟨fun modern => ?_, fun stepping => ?_⟩
      · rw [if_neg (by simpa [option] using modern)] at accepted
        exact accepted
      · rw [if_pos (by simpa [option] using stepping), legacyStep_eq] at accepted
        exact accepted
  refine ⟨fun bits word full even free spelled => ⟨fun single => ?_, fun left pairs held => ?_⟩, fun pulse timed => ?_⟩
  · have good := checkWord_good even spelled free
    exact found (kind := .coded) rfl rfl rfl rfl (execCueWordComplete_single opened word full good single)
  · have good := checkWord_good even spelled free
    exact found (kind := .coded) rfl rfl rfl rfl (execCueWordComplete_confirmed opened word full good pairs held)
  · subst pulse
    exact found (kind := .pulse) rfl rfl rfl rfl (execPulseCue_of_open opened timed)

/-- Settles O43: the three requests on the mode, and an accepted code, of a pulse or of a word, by the mode. -/
theorem learnModeParksTheCodes : Obligations.LearnModeParksTheCodes := by
  unfold Obligations.LearnModeParksTheCodes
  intro s learned
  refine ⟨fun ha => ⟨fun off => ?_, fun busy => ?_⟩, fun ha => ?_, fun ha => ?_, fun opened => ?codes⟩
  · exact (execLearnOn_eq ha).trans (by rw [CueUnit.learnOn_of_off off])
  · exact (execLearnOn_eq ha).trans (by rw [CueUnit.learnOn_of_not_off busy])
  · exact (hostRequest_of_accepts _ _ _ ha : execLearnOff s = _)
  · exact (hostRequest_of_accepts _ _ _ ha : execReadLearn s = _)
  case codes =>
    intro parks
    have parked {c : Instr} {code : CueCode} {kind : CodeKind} {u : CueUnit} (mode : u.learn = s.cue.learn)
        (buffer : u.buffer = s.cue.buffer)
        (accepted : exec c s = .next (acceptCode code kind { s with cue := u })) : parks c code kind u := by
      refine ⟨fun on empty => ?_, fun on full => ?_, fun lost => ?_⟩
      · exact accepted.trans (by rw [acceptCode_of_empty (mode.trans on) (buffer.trans empty)])
      · rw [← buffer]
        exact accepted.trans (by rw [acceptCode_of_full (mode.trans on) (buffer ▸ full)])
      · exact accepted.trans (by rw [acceptCode_of_overrun (mode.trans lost)])
    refine ⟨fun timed => ?_, fun code bits word full even free spelled => ⟨fun single => ?_, fun left pairs held => ?_⟩⟩
    · exact parked rfl rfl (execPulseCue_of_open opened timed)
    · have good := checkWord_good even spelled free
      exact parked rfl rfl (execCueWordComplete_single opened word full good single)
    · have good := checkWord_good even spelled free
      exact parked rfl rfl (execCueWordComplete_confirmed opened word full good pairs held)

end Sys2Proof.Machine
end

section
/-! PROOFS. The pairing window and the requests on the Handset Table (O44). -/

namespace Sys2Proof.Machine

/-! ### The operands and the table -/

theorem handsetInRange_iff (n : Nat) : handsetInRange n = true ↔ 1 ≤ n ∧ n ≤ 8 := by simp [handsetInRange]

theorem Rights.fromCode_code (r : Rights) : Rights.fromCode r.code = some r := by cases r <;> rfl

theorem Rights.fromCode_beyond {v : Nat} (h : 2 < v) : Rights.fromCode v = none := by
  match v with
  | v + 3 => rfl

/-- A write of an entry changes the table alone. -/
theorem Remote.setHandset_eq_table (r : Remote) (n : Nat) (e : Handset) :
    r.setHandset n e = { r with handsets := (r.setHandset n e).handsets } := by
  unfold Remote.setHandset
  split <;> rfl

/-- An entry written as it reads leaves the table. -/
theorem Remote.setHandset_self (r : Remote) (n : Nat) : r.setHandset n (r.handset n) = r := by
  unfold Remote.setHandset Remote.handset
  split
  · rw [Vector.set_getElem_self]
  · rfl

/-- A table that ages as a whole ages entry by entry. -/
theorem Remote.handset_second (r : Remote) (n : Nat) :
    Remote.handset { r with handsets := Vector.ofFn fun i : Fin 8 => r.handsets[i].second } n =
      (r.handset n).second := by
  unfold Remote.handset
  split
  · simp
  · rfl

/-! ### An entry at the step of one second (R157) -/

section

variable {h : Handset}

theorem Handset.second_of_empty (empty : h.state = .empty) : h.second = h := if_pos empty

theorem Handset.second_of_active (active : h.state = .active) : h.second =
    { h with quiet := min 65535 (h.quiet + 1)
             state := if 1800 ≤ min 65535 (h.quiet + 1) then .lapsed else .active } := by
  simp [Handset.second, active, satAdd, Config.lapseSeconds]

theorem Handset.second_of_lapsed_or_blocked (idle : h.state = .lapsed ∨ h.state = .blocked) :
    h.second = { h with quiet := min 65535 (h.quiet + 1) } := by
  rcases idle with idle | idle <;> simp [Handset.second, idle, satAdd]

end

/-! ### The requests (R158, R165 to R167) -/

section

variable {s : State} {n : Nat}

theorem execOpenPairing_eq {v : Nat} (ha : s.link.accepts (.openPairing v) = true) : execOpenPairing v s =
    .next (match Rights.fromCode v with
      | none => respond 47 .badValue [] s
      | some r => respond 47 .done []
          { s with remote := { s.remote with window := some { rights := r, left := 30000 } } }) := by
  rw [execOpenPairing, hostRequest_of_accepts _ _ _ ha]
  cases Rights.fromCode v <;> rfl

/-- A request on an entry of the table is its owner's answer. -/
theorem handsetRequest_of_range {c : Instr} {owner : State → Reply} {r : Reply} (ha : s.link.accepts c = true)
    (hn : 1 ≤ n ∧ n ≤ 8) (h : owner s = r) :
    hostRequest c (fun s => if handsetInRange n then owner s else refuse .badIndex s) s =
      .next (respond (requestCode c) r.status r.payload r.state) := by
  rw [hostRequest_of_accepts _ _ _ ha, if_pos ((handsetInRange_iff n).mpr hn), h]

theorem handsetRequest_beyond {c : Instr} {owner : State → Reply} (ha : s.link.accepts c = true)
    (hn : n = 0 ∨ 8 < n) :
    hostRequest c (fun s => if handsetInRange n then owner s else refuse .badIndex s) s =
      .next (respond (requestCode c) .badIndex [] s) := by
  rw [hostRequest_of_accepts _ _ _ ha, if_neg (mt (handsetInRange_iff n).mp (by omega))]
  rfl

theorem execSetRights_beyond {v : Nat} (ha : s.link.accepts (.setRights n v) = true) (hn : n = 0 ∨ 8 < n) :
    execSetRights n v s = .next (respond 50 .badIndex [] s) := by
  have out : handsetInRange n = false := eq_false_of_ne_true (mt (handsetInRange_iff n).mp (by omega))
  rw [execSetRights, hostRequest_of_accepts _ _ _ ha, if_pos out]
  rfl

theorem execSetRights_badValue {v : Nat} (ha : s.link.accepts (.setRights n v) = true) (hn : 1 ≤ n ∧ n ≤ 8)
    (hv : 2 < v) : execSetRights n v s = .next (respond 50 .badValue [] s) := by
  rw [execSetRights, hostRequest_of_accepts _ _ _ ha, if_neg (by simp [(handsetInRange_iff n).mpr hn]),
    Rights.fromCode_beyond hv]
  rfl

/-- R165: with rights of the list, an EMPTY entry is refused and any other takes them. -/
theorem execSetRights_of_rights {r : Rights} (ha : s.link.accepts (.setRights n r.code) = true)
    (hn : 1 ≤ n ∧ n ≤ 8) : execSetRights n r.code s =
      .next (if (s.remote.handset n).state = .empty then respond 50 .notNow [] s
        else respond 50 .done (handsetBytes n { s.remote.handset n with rights := r })
          { s with remote := s.remote.setHandset n { s.remote.handset n with rights := r } }) := by
  rw [execSetRights, hostRequest_of_accepts _ _ _ ha, if_neg (by simp [(handsetInRange_iff n).mpr hn]),
    Rights.fromCode_code]
  simp only [State.onRemote, Remote.handset_setHandset_same _ _ hn]
  split <;> rfl

theorem offerBlock_of_empty (empty : (s.remote.handset n).state = .empty) :
    offerBlock n s = turnedAway .notNow s := by
  simp only [offerBlock, empty]

/-- R166: any entry that is not EMPTY is BLOCKED afterwards; one that was stands as it is. -/
theorem offerBlock_of_used (used : (s.remote.handset n).state ≠ .empty) : offerBlock n s =
    taken { s with remote := s.remote.setHandset n { s.remote.handset n with state := .blocked } } := by
  cases st : (s.remote.handset n).state with
  | empty => exact absurd st used
  | active | lapsed =>
    simp only [offerBlock, st]
    rfl
  | blocked =>
    have same : ({ s.remote.handset n with state := .blocked } : Handset) = s.remote.handset n := by rw [← st]
    simp only [offerBlock, st, same, Remote.setHandset_self]

theorem offerUnblock_of_not_blocked (away : (s.remote.handset n).state ≠ .blocked) :
    offerUnblock n s = turnedAway .notNow s := by
  cases st : (s.remote.handset n).state with
  | blocked => exact absurd st away
  | empty | active | lapsed => simp only [offerUnblock, st]

theorem offerUnblock_of_blocked (blocked : (s.remote.handset n).state = .blocked) : offerUnblock n s =
    taken { s with remote :=
      s.remote.setHandset n { s.remote.handset n with state := .active, quiet := 0 } } := by
  simp only [offerUnblock, blocked]
  rfl

end

/-- Settles O44: each request by the entry it names and that entry's state; what is written is one entry of the
table, but for the second, which ages them all. -/
theorem theHandsetTableIsKept : Obligations.TheHandsetTableIsKept := by
  unfold Obligations.TheHandsetTableIsKept
  intro s window
  refine ⟨fun v ha => ⟨fun r code => ?_, fun beyond => ?_⟩, fun ha => ?_, rfl, fun n out => ?outside,
    fun n v ha hn beyond => execSetRights_badValue ha hn beyond, fun n hn => ?entry,
    ⟨_, rfl, rfl, fun n hn => ?second⟩⟩
  · exact (execOpenPairing_eq ha).trans (by rw [← code, Rights.fromCode_code])
  · exact (execOpenPairing_eq ha).trans (by rw [Rights.fromCode_beyond beyond])
  · exact (hostRequest_of_accepts _ _ _ ha : execClosePairing s = _)
  case outside =>
    intro outside
    refine ⟨fun v ha => execSetRights_beyond ha out, fun ha => ?_, fun ha => ?_, fun ha => ?_⟩
    · exact (handsetRequest_beyond ha out : execBlockHandset n s = _)
    · exact (handsetRequest_beyond ha out : execUnblockHandset n s = _)
    · exact (handsetRequest_beyond ha out : execRetireHandset n s = _)
  case entry =>
    intro h becomes notNow
    have written {c : Instr} {code : Nat} {payload : List Byte} {new : Handset}
        (h : exec c s = .next (respond code .done payload { s with remote := s.remote.setHandset n new })) :
        becomes c code payload new :=
      ⟨_, h, congrArg (fun r => { s with remote := r }) (s.remote.setHandset_eq_table n new),
        s.remote.handset_setHandset_same new hn, fun m hm => s.remote.handset_setHandset_other new hm⟩
    refine ⟨fun r ha => ⟨fun empty => ?_, fun used => ?_⟩, fun ha => ⟨fun empty => ?_, fun used => ?_⟩,
      fun ha => ⟨fun away => ?_, fun blocked => ?_⟩, fun ha => ?_⟩
    · exact (execSetRights_of_rights ha hn).trans (by rw [if_pos empty])
    · exact written ((execSetRights_of_rights ha hn).trans (by rw [if_neg used]))
    · exact (handsetRequest_of_range ha hn (congrArg Reply.ofOffer (offerBlock_of_empty empty)) :
        execBlockHandset n s = _)
    · exact written (handsetRequest_of_range ha hn (congrArg Reply.ofOffer (offerBlock_of_used used)) :
        execBlockHandset n s = _)
    · exact (handsetRequest_of_range ha hn (congrArg Reply.ofOffer (offerUnblock_of_not_blocked away)) :
        execUnblockHandset n s = _)
    · exact written (handsetRequest_of_range ha hn (congrArg Reply.ofOffer (offerUnblock_of_blocked blocked)) :
        execUnblockHandset n s = _)
    · exact written (handsetRequest_of_range ha hn rfl : execRetireHandset n s = _)
  case second =>
    have aged := s.remote.handset_second n
    refine ⟨fun empty => ?_, fun active => ?_, fun idle => ?_⟩
    · exact aged.trans (Handset.second_of_empty empty)
    · exact aged.trans (Handset.second_of_active active)
    · exact aged.trans (Handset.second_of_lapsed_or_blocked idle)

end Sys2Proof.Machine
end

section
/-! PROOFS. The infrared receiver takes leaders and bytes and discards broken frames (O45), and a complete frame is
checked and acts (O46). -/

namespace Sys2Proof.Machine

/-! ### The bytes of a frame (R151, R170) -/

theorem frameLength_iff (b : Byte) : frameLength b = true ↔ 8 ≤ b.toNat ∧ b.toNat ≤ 12 := by simp [frameLength]

/-- R151: a frame is complete with the bytes its length byte names. -/
theorem frameComplete_iff (first : Byte) (rest : List Byte) :
    frameComplete (first :: rest) = true ↔ rest.length = first.toNat := by
  simp [frameComplete, frameByte]

theorem Bus.hears_iff (b : Bus) (dest : Nat) :
    b.hears dest = true ↔ dest = 0 ∨ dest = 31 ∨ dest = b.address ∨ b.inGroup dest = true := by
  simp [Bus.hears, or_assoc]

/-! ### A byte in BYTES (R153) -/

section

variable {s : State} {before : List Byte} {mine : Bool} {b first : Byte}

theorem irTake_of_bytes (h : s.remote.ir = .bytes before mine) : irTake b s = irByte before mine b s := by
  simp only [irTake, h]

theorem irByte_of_bad_length (out : b.toNat < 8 ∨ 12 < b.toNat) : irByte [] mine b s = irDiscard .length s := by
  have bad : frameLength b = false := eq_false_of_ne_true (mt (frameLength_iff b).mp (by omega))
  simp [irByte, bad]

/-- R153: a byte before the last is taken, and restarts the gap timer. -/
theorem irByte_of_short {rest : List Byte} (bytes : before ++ [b] = first :: rest) (low : 8 ≤ first.toNat)
    (high : first.toNat ≤ 12) (short : rest.length < first.toNat) : irByte before mine b s =
      s.onRemote (Remote.irBytes (before ++ [b]) (if before.length == 1 then s.bus.hears b.toNat else mine)) := by
  have length := (frameLength_iff first).mpr ⟨low, high⟩
  have part : frameComplete (first :: rest) = false :=
    eq_false_of_ne_true (mt (frameComplete_iff first rest).mp (by omega))
  simp [irByte, bytes, length, part]

/-- R154: the last byte completes the frame, which is dealt with as its destination byte decided. -/
theorem irByte_of_last {rest : List Byte} (bytes : before = first :: rest) (low : 8 ≤ first.toNat)
    (high : first.toNat ≤ 12) (full : before.length = first.toNat) :
    irByte before mine b s = irFrameDone (before ++ [b]) mine (s.onRemote Remote.irIdle) := by
  have length := (frameLength_iff first).mpr ⟨low, high⟩
  have whole : frameComplete (first :: (rest ++ [b])) = true :=
    (frameComplete_iff _ _).mpr (by simpa [bytes] using full)
  have late : before.length ≠ 1 := by omega
  simp only [irByte, beq_eq_false_iff_ne.mpr late]
  simp [bytes, length, whole]

theorem execIrFrame_of_last {rest : List Byte} (ir : s.remote.ir = .bytes before mine)
    (bytes : before = first :: rest) (low : 8 ≤ first.toNat) (high : first.toNat ≤ 12)
    (full : before.length = first.toNat) :
    execIrFrame b s = .next (irFrameDone (before ++ [b]) mine (s.onRemote Remote.irIdle)) := by
  have completes : s.remote.irCompletes b = true := by
    have whole : frameComplete (first :: (rest ++ [b])) = true :=
      (frameComplete_iff _ _).mpr (by simpa [bytes] using full)
    simp [Remote.irCompletes, ir, bytes, whole]
  rw [execIrFrame, if_pos completes, irTake_of_bytes ir, irByte_of_last bytes low high full]

theorem execIrByteComplete_of_bytes (ir : s.remote.ir = .bytes before mine) :
    execIrByteComplete b s = .next (irByte before mine b s) :=
  congrArg Host.Outcome.next (irTake_of_bytes ir)

theorem execIrFrameError_of_bytes (ir : s.remote.ir = .bytes before mine) (cause : IrFault) :
    execIrFrameError cause s = .next (match cause with
      | .length => if before = [] then irDiscard .length s else s
      | .framing => irDiscard .framing s
      | .cut => (irDiscard .cut s).onRemote (Remote.irBytes [] false)) := by
  simp only [execIrFrameError, ir]
  cases cause <;> rfl

theorem execIrGapTimeout_of_bytes (ir : s.remote.ir = .bytes before mine) :
    execIrGapTimeout s = .next (irDiscard .gap s) := by
  simp only [execIrGapTimeout, ir]

/-- R153: in LEADER the length of the burst decides. -/
theorem execIrLeaderEnd_of_leader (ir : s.remote.ir = .leader) (us : Nat) : execIrLeaderEnd us s =
    .next (if 6000 ≤ us ∧ us ≤ 10000 then s.onRemote (Remote.irBytes [] false) else s.onRemote Remote.irIdle) := by
  rw [execIrLeaderEnd, if_neg (not_not.mpr ir)]

end

/-- Settles O45: the carrier and the leader by the receiver's state, a byte by what was taken before it, and the four
ways a frame is discarded. -/
theorem irFramesAreReceived : Obligations.IrFramesAreReceived := by
  unfold Obligations.IrFramesAreReceived
  intro s rx discarded
  refine ⟨fun idle => ?_, fun busy => ?_, fun leader => ⟨fun us low high => ?_, fun us out => ?_, ?_⟩,
    fun before mine ir => ⟨?first, ?second, ?later, ?_, ?_, fun untaken => ?_, ?_⟩⟩
  · exact congrArg Host.Outcome.next (if_pos idle)
  · exact congrArg Host.Outcome.next (if_neg busy)
  · exact (execIrLeaderEnd_of_leader leader us).trans (by rw [if_pos ⟨low, high⟩]; rfl)
  · exact (execIrLeaderEnd_of_leader leader us).trans (by rw [if_neg (by omega)]; rfl)
  · exact congrArg Host.Outcome.next (if_pos leader)
  case first =>
    rintro b rfl
    refine ⟨fun low high => ?_, fun out => ?_⟩
    · exact (execIrByteComplete_of_bytes ir).trans (by
        rw [irByte_of_short (rest := []) rfl low high (by simp; omega)]
        rfl)
    · exact (execIrByteComplete_of_bytes ir).trans (by rw [irByte_of_bad_length out]; rfl)
  case second =>
    rintro b first rfl low high here
    have taken := (execIrByteComplete_of_bytes ir).trans (congrArg Host.Outcome.next
      (irByte_of_short (b := b) (rest := [b]) rfl low high (by simp; omega)))
    refine ⟨fun ours => ?_, fun theirs => ?_⟩
    · exact taken.trans (by rw [(s.bus.hears_iff _).mpr ours]; rfl)
    · exact taken.trans (by rw [eq_false_of_ne_true (mt (s.bus.hears_iff _).mp theirs)]; rfl)
  case later =>
    rintro b first rest rfl more low high short
    have late : (first :: rest).length ≠ 1 := by simpa using more
    refine (execIrByteComplete_of_bytes ir).trans ?_
    rw [irByte_of_short (rest := rest ++ [b]) rfl low high (by simpa using short), beq_eq_false_iff_ne.mpr late]
    rfl
  · exact execIrFrameError_of_bytes ir .framing
  · exact execIrFrameError_of_bytes ir .cut
  · exact (execIrFrameError_of_bytes ir .length).trans (by rw [if_pos untaken]; rfl)
  · exact execIrGapTimeout_of_bytes ir

/-! ### The search through the Handset Table (R155, R159) -/

theorem mem_handsetNumbers {n : Nat} : n ∈ handsetNumbers ↔ 1 ≤ n ∧ n ≤ 8 := by
  simp [handsetNumbers]
  omega

/-- The entry numbers split at an entry into the lower and the higher ones. -/
theorem handsetNumbers_split {n : Nat} (hn : 1 ≤ n ∧ n ≤ 8) : ∃ low high, handsetNumbers = low ++ n :: high ∧
    (∀ m ∈ low, 1 ≤ m ∧ m < n) ∧ ∀ m ∈ high, n < m ∧ m ≤ 8 := by
  obtain ⟨low, high, split⟩ := List.append_of_mem (mem_handsetNumbers.mpr hn)
  have sorted : handsetNumbers.Pairwise (· < ·) := by decide
  have range (m : Nat) (hm : m ∈ low ++ n :: high) : 1 ≤ m ∧ m ≤ 8 := mem_handsetNumbers.mp (split ▸ hm)
  rw [split, List.pairwise_append, List.pairwise_cons] at sorted
  obtain ⟨-, ⟨above, -⟩, below⟩ := sorted
  refine ⟨low, high, split, fun m hm => ⟨(range m ?_).1, below m hm n (by simp)⟩,
    fun m hm => ⟨above m hm, (range m ?_).2⟩⟩
  · simp [hm]
  · simp [hm]

theorem handsetNumbers_find?_lowest {p : Nat → Bool} {n : Nat} (hn : 1 ≤ n ∧ n ≤ 8) (here : p n = true)
    (below : ∀ m, 1 ≤ m → m < n → p m = false) : handsetNumbers.find? p = some n := by
  obtain ⟨low, high, split, lower, -⟩ := handsetNumbers_split hn
  rw [split, List.find?_append, List.find?_eq_none.mpr fun m hm => ?_, Option.none_or, List.find?_cons, here]
  obtain ⟨one, less⟩ := lower m hm
  simp [below m one less]

theorem handsetNumbers_find?_none {p : Nat → Bool} (h : ∀ n, 1 ≤ n → n ≤ 8 → p n = false) :
    handsetNumbers.find? p = none := by
  rw [List.find?_eq_none]
  intro n hn
  obtain ⟨low, high⟩ := mem_handsetNumbers.mp hn
  simp [h n low high]

namespace Remote

variable {r : Remote} {n : Nat}

theorem longer_of_not_lapsed {best : Option Nat} (h : (r.handset n).state ≠ .lapsed) : r.longer best n = best :=
  if_pos h

/-- R159: with no LAPSED entry in a list, the best so far stands. -/
theorem foldl_longer_of_none_lapsed {l : List Nat} (h : ∀ m ∈ l, (r.handset m).state ≠ .lapsed)
    (best : Option Nat) : l.foldl r.longer best = best := by
  induction l with
  | nil => rfl
  | cons m l ih =>
    rw [List.foldl_cons, longer_of_not_lapsed (h m (by simp))]
    exact ih fun k hk => h k (by simp [hk])

/-- R159: the better of the best so far and an entry is one of the two, the entry only if it is LAPSED. -/
theorem longer_mem {best : Option Nat} {k m : Nat} (h : r.longer best k = some m) :
    best = some m ∨ m = k ∧ (r.handset m).state = .lapsed := by
  by_cases lapsed : (r.handset k).state = .lapsed
  · have entry (same : k = m) : m = k ∧ (r.handset m).state = .lapsed := ⟨same.symm, same ▸ lapsed⟩
    cases best with
    | none => exact .inr (entry (by simpa [longer, lapsed] using h))
    | some old =>
      by_cases shorter : (r.handset old).quiet < (r.handset k).quiet
      · exact .inr (entry (by simpa [longer, lapsed, shorter] using h))
      · exact .inl (by simpa [longer, lapsed, shorter] using h)
  · exact .inl ((longer_of_not_lapsed lapsed).symm.trans h)

/-- R159: the best of a list is the best before it or a LAPSED entry of the list. -/
theorem foldl_longer_mem {l : List Nat} {best : Option Nat} {m : Nat} (h : l.foldl r.longer best = some m) :
    best = some m ∨ m ∈ l ∧ (r.handset m).state = .lapsed := by
  induction l generalizing best with
  | nil => exact .inl h
  | cons k l ih =>
    rcases ih h with found | ⟨hm, lapsed⟩
    · exact (longer_mem found).imp id fun ⟨same, lapsed⟩ => ⟨by simp [same], lapsed⟩
    · exact .inr ⟨by simp [hm], lapsed⟩

/-- R159: an entry stands as the best through a list whose LAPSED entries are no quieter. -/
theorem foldl_longer_stays {l : List Nat}
    (h : ∀ m ∈ l, (r.handset m).state = .lapsed → (r.handset m).quiet ≤ (r.handset n).quiet) :
    l.foldl r.longer (some n) = some n := by
  induction l with
  | nil => rfl
  | cons m l ih =>
    have stands : r.longer (some n) m = some n := by
      by_cases lapsed : (r.handset m).state = .lapsed
      · simp [longer, lapsed, h m (by simp) lapsed]
      · exact longer_of_not_lapsed lapsed
    rw [List.foldl_cons, stands]
    exact ih fun k hk => h k (by simp [hk])

/-- R159: the LAPSED entry that no other LAPSED entry outlasts, the lowest among equals. -/
theorem longestLapsed_eq (hn : 1 ≤ n ∧ n ≤ 8) (lapsed : (r.handset n).state = .lapsed)
    (longest : ∀ m, 1 ≤ m ∧ m ≤ 8 → (r.handset m).state = .lapsed →
      (r.handset m).quiet < (r.handset n).quiet ∨ (r.handset m).quiet = (r.handset n).quiet ∧ n ≤ m) :
    r.longestLapsed = some n := by
  obtain ⟨low, high, split, lower, higher⟩ := handsetNumbers_split hn
  have reached : r.longer (low.foldl r.longer none) n = some n := by
    cases best : low.foldl r.longer none with
    | none => simp [longer, lapsed]
    | some m =>
      obtain absent | ⟨hm, quiet⟩ := foldl_longer_mem best
      · cases absent
      · obtain ⟨one, less⟩ := lower m hm
        have shorter : (r.handset m).quiet < (r.handset n).quiet := by
          have := longest m ⟨one, by omega⟩ quiet
          omega
        simp [longer, lapsed, shorter]
  rw [longestLapsed, split, List.foldl_append, List.foldl_cons, reached]
  refine foldl_longer_stays fun m hm quiet => ?_
  obtain ⟨more, last⟩ := higher m hm
  have := longest m ⟨by omega, last⟩ quiet
  omega

theorem longestLapsed_eq_none (h : ∀ m, 1 ≤ m ∧ m ≤ 8 → (r.handset m).state ≠ .lapsed) : r.longestLapsed = none :=
  foldl_longer_of_none_lapsed (fun m hm => h m (mem_handsetNumbers.mp hm)) none

theorem find_lowest {id : Nat} (hn : 1 ≤ n ∧ n ≤ 8) (here : (r.handset n).id = some id)
    (below : ∀ m, 1 ≤ m → m < n → (r.handset m).id ≠ some id) : r.find id = some n :=
  handsetNumbers_find?_lowest hn (by simp [here]) fun m one less => by simp [below m one less]

theorem find_none {id : Nat} (h : ∀ n, 1 ≤ n ∧ n ≤ 8 → (r.handset n).id ≠ some id) : r.find id = none :=
  handsetNumbers_find?_none fun n one last => by simp [h n ⟨one, last⟩]

theorem firstEmpty_lowest (hn : 1 ≤ n ∧ n ≤ 8) (here : (r.handset n).state = .empty)
    (below : ∀ m, 1 ≤ m → m < n → (r.handset m).state ≠ .empty) : r.firstEmpty = some n :=
  handsetNumbers_find?_lowest hn (by simp [here]) fun m one less => by simp [below m one less]

theorem firstEmpty_none (h : ∀ n, 1 ≤ n ∧ n ≤ 8 → (r.handset n).state ≠ .empty) : r.firstEmpty = none :=
  handsetNumbers_find?_none fun n one last => by simp [h n ⟨one, last⟩]

end Remote

/-! ### The sender of a frame (R155, R159, R160) -/

section

variable {s : State} {f : RemoteFrame} {w : PairingWindow} {n : Nat}

/-- R159: a PAIR asks for a pairing while the window is open. -/
theorem asks_none (h : f.key ≠ 17 ∨ s.remote.window = none) :
    (if f.key = 17 then s.remote.window else none) = none := by
  split
  · exact h.resolve_left (not_not.mpr ‹_›)
  · rfl

theorem asks_some (pair : f.key = 17) (opened : s.remote.window = some w) :
    (if f.key = 17 then s.remote.window else none) = some w :=
  (if_pos pair).trans opened

theorem senderFrame_of_unknown (new : s.remote.find f.source = none) (quiet : f.key ≠ 17 ∨ s.remote.window = none) :
    senderFrame f s = s := by
  simp only [senderFrame, new, asks_none quiet]

theorem senderFrame_pairNew (new : s.remote.find f.source = none) (pair : f.key = 17)
    (opened : s.remote.window = some w) : senderFrame f s = pairNew w f s := by
  simp only [senderFrame, new, asks_some pair opened]

theorem senderFrame_refused (known : s.remote.find f.source = some n) (blocked : (s.remote.handset n).state = .blocked)
    (pair : f.key = 17) (opened : s.remote.window = some w) :
    senderFrame f s = raise (.handsetRefused f.source .blocked) s := by
  simp only [senderFrame, known, blocked, asks_some pair opened]

theorem senderFrame_pairs (known : s.remote.find f.source = some n)
    (paired : (s.remote.handset n).state = .active ∨ (s.remote.handset n).state = .lapsed) (pair : f.key = 17)
    (opened : s.remote.window = some w) : senderFrame f s = pairEntry n w f none s := by
  rcases paired with st | st <;> simp only [senderFrame, known, st, asks_some pair opened]

theorem senderFrame_of_blocked (known : s.remote.find f.source = some n)
    (blocked : (s.remote.handset n).state = .blocked) (quiet : f.key ≠ 17 ∨ s.remote.window = none) :
    senderFrame f s = s := by
  simp only [senderFrame, known, blocked, asks_none quiet]

theorem senderFrame_of_paired (known : s.remote.find f.source = some n)
    (paired : (s.remote.handset n).state = .active ∨ (s.remote.handset n).state = .lapsed)
    (quiet : f.key ≠ 17 ∨ s.remote.window = none) : senderFrame f s = handsetFrame n f s := by
  rcases paired with st | st <;> simp only [senderFrame, known, st, asks_none quiet]

theorem pairNew_of_empty (empty : s.remote.firstEmpty = some n) : pairNew w f s = pairEntry n w f none s := by
  simp only [pairNew, empty]

theorem pairNew_of_lapsed (used : s.remote.firstEmpty = none) (lapsed : s.remote.longestLapsed = some n) :
    pairNew w f s = pairEntry n w f (s.remote.handset n).id s := by
  simp only [pairNew, used, lapsed]

theorem pairNew_of_full (used : s.remote.firstEmpty = none) (fresh : s.remote.longestLapsed = none) :
    pairNew w f s = raise (.handsetRefused f.source .full) s := by
  simp only [pairNew, used, fresh]

/-! ### A handset's press (R157, R160) -/

variable {h : Handset}

/-- R157, R160: a frame out of LAPSED, or with a sequence other than the last, is a new press. -/
theorem Handset.press_of_new (new : h.state = .lapsed ∨ h.lastSeq ≠ f.seq) : h.press f = .new := by
  unfold Handset.press
  split
  · rfl
  · simp [pressOf, new.resolve_left ‹_›]

theorem Handset.press_of_same (active : h.state = .active) (same : h.lastSeq = f.seq) :
    h.press f = if f.rep then .again else .duplicate := by
  simp [Handset.press, active, pressOf, same]

/-- R155, R160: an entry heard is ACTIVE, not quiet, and holds the sequence of the frame. -/
theorem Handset.heard_eq (paired : h.state = .active ∨ h.state = .lapsed) :
    h.heard f = { h with state := .active, quiet := 0, lastSeq := f.seq } := by
  by_cases new : h.state = .lapsed ∨ h.lastSeq ≠ f.seq
  · simp [Handset.heard, Handset.press_of_new new]
  · obtain ⟨fresh, same⟩ := not_or.mp new
    have active := paired.resolve_right fresh
    have pressed := Handset.press_of_same active (not_not.mp same)
    have held : ¬h.press f = .new := by rw [pressed]; split <;> nofun
    simp [Handset.heard, held, not_not.mp same]

theorem keyRepeats_iff (key : Nat) : keyRepeats key = true ↔ 5 ≤ key ∧ key ≤ 10 := by simp [keyRepeats]

/-- R160: a new press acts, and a REPEAT of a key that repeats. -/
theorem handsetFrame_acts (acts : (s.remote.handset n).state = .lapsed ∨ (s.remote.handset n).lastSeq ≠ f.seq ∨
      f.rep = true ∧ 5 ≤ f.key ∧ f.key ≤ 10)
    (paired : (s.remote.handset n).state = .active ∨ (s.remote.handset n).state = .lapsed) :
    handsetFrame n f s = actHandsetKey (s.remote.handset n).rights f
      (s.onRemote fun r => r.setHandset n ((s.remote.handset n).heard f)) := by
  by_cases new : (s.remote.handset n).state = .lapsed ∨ (s.remote.handset n).lastSeq ≠ f.seq
  · simp only [handsetFrame, Handset.press_of_new new]
  · obtain ⟨fresh, same⟩ := not_or.mp new
    obtain ⟨rep, repeats⟩ := (acts.resolve_left fresh).resolve_left same
    have pressed := Handset.press_of_same (paired.resolve_right fresh) (not_not.mp same)
    simp only [handsetFrame, pressed, rep, if_true, if_pos ((keyRepeats_iff f.key).mpr repeats)]

/-- R160: a duplicate does not act, nor does a REPEAT of a key that does not repeat. -/
theorem handsetFrame_rests (active : (s.remote.handset n).state = .active)
    (same : (s.remote.handset n).lastSeq = f.seq) (rests : f.rep = false ∨ f.key < 5 ∨ 10 < f.key) :
    handsetFrame n f s = s.onRemote fun r => r.setHandset n ((s.remote.handset n).heard f) := by
  have pressed := Handset.press_of_same active same
  cases rep : f.rep with
  | false => simp only [handsetFrame, pressed, rep, Bool.false_eq_true, if_false]
  | true =>
    have once : ¬keyRepeats f.key = true := mt (keyRepeats_iff f.key).mp (by simp [rep] at rests; omega)
    simp only [handsetFrame, pressed, rep, if_true, if_neg once]

/-- R155: a PAIR that finds the window closed only makes its entry heard. -/
theorem handsetFrame_of_pair (pair : f.key = 17) :
    handsetFrame n f s = s.onRemote fun r => r.setHandset n ((s.remote.handset n).heard f) := by
  have once : ¬keyRepeats f.key = true := by simp [pair, keyRepeats]
  simp only [handsetFrame, actHandsetKey, if_pos pair, if_neg once]
  split <;> rfl

end

/-! ### The checks of a complete frame (R154) -/

section

variable {s : State} {bytes : List Byte} {mine : Bool}

theorem irFrameDone_of_bad (bad : frameGood bytes = false) :
    irFrameDone bytes mine s = raise (.remoteBad .ir .check) s := by
  simp [irFrameDone, bad]

variable (good : frameGood bytes = true)
include good

theorem irFrameDone_beyond (out : 31 < (RemoteFrame.ofBytes bytes).dest) :
    irFrameDone bytes mine s = raise (.remoteBad .ir .format) s := by
  simp [irFrameDone, good, out]

theorem irFrameDone_elsewhere (range : (RemoteFrame.ofBytes bytes).dest ≤ 31) : irFrameDone bytes false s = s := by
  simp [irFrameDone, good, Nat.not_lt.mpr range]

theorem irFrameDone_malformed (range : (RemoteFrame.ofBytes bytes).dest ≤ 31)
    (form : (RemoteFrame.ofBytes bytes).wellFormed = false) :
    irFrameDone bytes true s = raise (.remoteBad .ir .format) s := by
  simp [irFrameDone, good, Nat.not_lt.mpr range, form]

theorem irFrameDone_checked (range : (RemoteFrame.ofBytes bytes).dest ≤ 31)
    (form : (RemoteFrame.ofBytes bytes).wellFormed = true) : irFrameDone bytes true s =
      if (RemoteFrame.ofBytes bytes).key = 18 ∨ (RemoteFrame.ofBytes bytes).key = 19 then s
      else senderFrame (RemoteFrame.ofBytes bytes) s := by
  simp [irFrameDone, good, Nat.not_lt.mpr range, form]

end

/-- Settles O46: the checks in their order, then the sender by its entry, the window and its press. -/
theorem irFramesAct : Obligations.IrFramesAct := by
  unfold Obligations.IrFramesAct
  intro s before mine last first rest ir bytes low high full f u ends entry pairs
  have done : ends (irFrameDone (before ++ [last]) mine u) := execIrFrame_of_last ir bytes low high full
  have ended {t : State} (h : irFrameDone (before ++ [last]) mine u = t) : ends t := h ▸ done
  refine ⟨fun bad => ended (irFrameDone_of_bad bad), fun good => ⟨fun out => ended (irFrameDone_beyond good out),
    fun range away => ?_, fun range ours form => ?_, fun range ours form => ?sender⟩⟩
  · subst away
    exact ended (irFrameDone_elsewhere good range)
  · subst ours
    exact ended (irFrameDone_malformed good range form)
  case sender =>
    subst ours
    have checked := irFrameDone_checked (s := u) good range form
    have sent {t : State} (key : f.key < 18) (h : senderFrame f u = t) : ends t := by
      have speaks : ¬(f.key = 18 ∨ f.key = 19) := by omega
      exact ended (checked.trans ((if_neg speaks).trans h))
    have paired {n : Nat} {w : PairingWindow} {old : Option Nat} (key : f.key < 18) (hn : 1 ≤ n ∧ n ≤ 8)
        (h : senderFrame f u = pairEntry n w f old u) : pairs n w old := by
      refine ⟨u.onRemote (Remote.paired n w f), sent key h, ?_, u.remote.handset_setHandset_same _ hn,
        fun m hm => u.remote.handset_setHandset_other _ hm⟩
      exact congrArg (fun r : Remote => { u with remote := { r with window := none } })
        (u.remote.setHandset_eq_table n _)
    refine ⟨fun silent => ended (checked.trans (if_pos silent)), fun key stranger => ⟨fun closed => ?_,
      fun w pair opened => ⟨fun n hn empty below => ?_, fun used => ⟨fun n hn lapsed longest => ?_, fun fresh => ?_⟩⟩⟩,
      fun n key hn here below => ⟨fun w pair opened => ⟨fun blocked => ?_, fun known => ?_⟩,
        fun closed => ⟨fun blocked => ?_, fun known => ?heard⟩⟩⟩
    · exact sent key (senderFrame_of_unknown (Remote.find_none stranger) closed)
    · exact paired key hn ((senderFrame_pairNew (s := u) (Remote.find_none stranger) pair opened).trans
        (pairNew_of_empty (Remote.firstEmpty_lowest hn empty below)))
    · exact paired key hn ((senderFrame_pairNew (s := u) (Remote.find_none stranger) pair opened).trans
        (pairNew_of_lapsed (Remote.firstEmpty_none used) (Remote.longestLapsed_eq hn lapsed longest)))
    · exact sent key ((senderFrame_pairNew (s := u) (Remote.find_none stranger) pair opened).trans
        (pairNew_of_full (Remote.firstEmpty_none used) (Remote.longestLapsed_eq_none fresh)))
    · exact sent key (senderFrame_refused (Remote.find_lowest hn here below) blocked pair opened)
    · exact paired key hn (senderFrame_pairs (Remote.find_lowest hn here below) known pair opened)
    · exact sent key (senderFrame_of_blocked (Remote.find_lowest hn here below) blocked closed)
    case heard =>
      have dealt := senderFrame_of_paired (s := u) (Remote.find_lowest hn here below) known closed
      refine ⟨u.onRemote fun r => r.setHandset n ((entry n).heard f), ?_, ?_,
        fun m hm => u.remote.handset_setHandset_other _ hm, fun pair => ?_, fun other acts => ?_,
        fun active same rests => ?_⟩
      · exact congrArg (fun r : Remote => { u with remote := r }) (u.remote.setHandset_eq_table n _)
      · exact (u.remote.handset_setHandset_same _ hn).trans (Handset.heard_eq known)
      · exact sent key (dealt.trans (handsetFrame_of_pair pair))
      · exact sent key (dealt.trans (handsetFrame_acts acts known))
      · exact sent key (dealt.trans (handsetFrame_rests active same rests))

end Sys2Proof.Machine
end

section
/-! PROOFS. A port of the wired bus receives frames, forwards, consumes and judges them (O49). -/

namespace Sys2Proof.Machine

/-! ### Counting a frame (R179, R180) -/

/-- R179, R180: one frame more, good or bad, leaves the port in its state. -/
def Bus.HasRoom (b : Bus) : Prop :=
  b.state = .active ∧ b.errors < 95 ∨ b.state = .passive ∧ 65 ≤ b.errors ∧ b.errors < 159 ∨
    b.state = .silent ∧ b.goodRun < 31

/-- The counter, the run and the port state of two ports agree. -/
structure Bus.SameCounts (b c : Bus) : Prop where
  errors : c.errors = b.errors
  goodRun : c.goodRun = b.goodRun
  state : c.state = b.state

theorem Bus.Quiets.sameCounts {b c : Bus} (h : b.Quiets c) : b.SameCounts c := ⟨h.errors, h.goodRun, h.state⟩

theorem Bus.SameCounts.setRx {b c : Bus} (h : b.SameCounts c) (p : Port) (r : BusRx) : b.SameCounts (c.setRx p r) :=
  ⟨by simpa using h.errors, by simpa using h.goodRun, by simpa using h.state⟩

theorem Bus.HasRoom.of_sameCounts {b c : Bus} (room : b.HasRoom) (h : b.SameCounts c) : c.HasRoom := by
  unfold Bus.HasRoom
  rwa [h.errors, h.goodRun, h.state]

section

variable {s : State} {p : Port}

/-- R180: a counter and a run that agree with the port state move nothing. -/
theorem decidePort_of_agrees (h : s.bus.state = .active ∧ s.bus.errors < 96 ∨
    s.bus.state = .passive ∧ 64 ≤ s.bus.errors ∧ s.bus.errors < 160 ∨ s.bus.state = .silent ∧ s.bus.goodRun < 32) :
    decidePort s = s := by
  rcases h with ⟨st, low⟩ | ⟨st, low, high⟩ | ⟨st, run⟩
  · simp only [decidePort, st, if_neg (Nat.not_le.mpr low)]
  · simp only [decidePort, st, if_neg (Nat.not_le.mpr high), if_neg (Nat.not_lt.mpr low)]
  · simp only [decidePort, st, if_neg (Nat.not_le.mpr run)]

theorem countGood_of_room (room : s.bus.HasRoom) : countGood s = { s with bus := { s.bus with
    errors := s.bus.errors - 1, goodRun := min 32 (s.bus.goodRun + 1) } } := by
  refine decidePort_of_agrees ?_
  simp only [State.onBus_bus, satAdd]
  exact room.imp (And.imp id fun _ => by omega)
    (Or.imp (And.imp id fun _ => by omega) (And.imp id fun _ => by omega))

theorem countBad_of_room (room : s.bus.HasRoom) : countBad s = { s with bus := { s.bus with
    errors := min 255 (s.bus.errors + 1), goodRun := 0 } } := by
  refine decidePort_of_agrees ?_
  simp only [State.onBus_bus, satAdd]
  exact room.imp (And.imp id fun _ => by omega)
    (Or.imp (And.imp id fun _ => by omega) (And.imp id fun _ => by omega))

theorem reportBad_eq (p : Port) (named : Bool) (cause : FrameFault) (s : State) : reportBad p named cause s =
    if p = .inn ∧ named = true then raise (.remoteBad .bus cause) s else s := by
  cases p <;> simp [reportBad]

/-- R171, R174, R179: a frame that ends bad is dropped, counted, and reported by its port. -/
theorem endBad_of_room (room : s.bus.HasRoom) (p : Port) (rx : BusRx) (named : Bool) (cause : FrameFault) :
    endBad p rx named cause s = reportBad p named cause { s with bus := { (s.bus.dropHeld p).setRx p rx with
      errors := min 255 (s.bus.errors + 1), goodRun := 0 } } := by
  have counts := (Bus.Quiets.dropHeld s.bus p).sameCounts.setRx p rx
  have after : (reportBad p named cause (s.onBus fun b => (b.dropHeld p).setRx p rx)).bus =
      (s.bus.dropHeld p).setRx p rx := by simp
  rw [endBad, countBad_of_room (after ▸ room.of_sameCounts counts), after, counts.errors, reportBad_eq, reportBad_eq]
  split <;> rfl

/-! ### A byte by the state of the receiver (R171) -/

variable {b length : Byte} {before : List Byte} {consume : Bool}

section

variable (free : s.bus.transmits p = false)
include free

theorem busByte_of_tail (rx : s.bus.rx p = .tail) : busByte p b s = s := by simp [busByte, free, rx]

theorem busByte_of_quiet (rx : s.bus.rx p = .quiet) : busByte p b s = firstByte p b s := by simp [busByte, free, rx]

theorem busByte_of_length (rx : s.bus.rx p = .frame [length] consume) :
    busByte p b s = decideDestination p length b s := by
  simp [busByte, free, rx]

theorem busByte_of_later (rx : s.bus.rx p = .frame before consume) (two : 2 ≤ before.length) :
    busByte p b s = laterByte p before consume b s := by
  match before, two with
  | _ :: _ :: _, _ => simp [busByte, free, rx]

theorem busErrorByte_of_tail (rx : s.bus.rx p = .tail) : busErrorByte p s = s := by simp [busErrorByte, free, rx]

theorem busErrorByte_of_quiet (rx : s.bus.rx p = .quiet) :
    busErrorByte p s = endBad p .tail true .framing (s.onBus (Bus.endForward p)) := by
  simp [busErrorByte, free, rx]

theorem busErrorByte_of_frame (rx : s.bus.rx p = .frame before consume) :
    busErrorByte p s = endBad p .tail (consume || before.length == 1) .framing s := by
  simp [busErrorByte, free, rx]

theorem busGap_of_frame (rx : s.bus.rx p = .frame before consume) :
    busGap p s = endBad p .quiet (consume || before.length == 1) .gap s := by
  simp [busGap, free, rx]

theorem execBusTailQuiet_of_tail (rx : s.bus.rx p = .tail) :
    execBusTailQuiet p s = .next { s with bus := s.bus.setRx p .quiet } :=
  congrArg Host.Outcome.next (if_pos ⟨rx, free⟩)

theorem execBusDestinationDecided_of_length (rx : s.bus.rx p = .frame [length] consume) :
    execBusDestinationDecided p b s = .next (decideDestination p length b s) := by
  have first : (s.bus.rx p).atDestination = true := by rw [rx]; rfl
  rw [← busByte_of_length free rx]
  exact congrArg Host.Outcome.next (if_pos first)

theorem execBusFrameEnd_of_last (rx : s.bus.rx p = .frame before consume) (two : 2 ≤ before.length)
    (last : frameComplete (before ++ [b]) = true) :
    execBusFrameEnd p (some b) s = .next (laterByte p before consume b s) := by
  have completes : (s.bus.rx p).completes b = true := by simp [rx, BusRx.completes, last]
  rw [← busByte_of_later free rx two]
  exact congrArg Host.Outcome.next (if_pos completes)

end

/-! ### The length byte (R171, R173) -/

theorem firstByte_of_length (low : 8 ≤ b.toNat) (high : b.toNat ≤ 12) : firstByte p b s =
    s.onBus fun u => (if u.state = .silent then u.endForward p
      else (u.endForward p).setFwdFrom p .holding).setRx p (.frame [b] false) := by
  simp only [firstByte, if_pos ((frameLength_iff b).mpr ⟨low, high⟩), State.onBus,
    (Bus.Quiets.endForward s.bus p).state]

theorem firstByte_of_bad_length (out : b.toNat < 8 ∨ 12 < b.toNat) :
    firstByte p b s = endBad p .tail true .length (s.onBus (Bus.endForward p)) := by
  simp only [firstByte, if_neg (mt (frameLength_iff b).mp (show ¬(8 ≤ b.toNat ∧ b.toNat ≤ 12) by omega))]

/-! ### What gives way to a forward (R173, R175, R177) -/

variable {bytes : List Byte}

/-- R173: giving up a held length byte sets one forward and leaves the rest of the port. -/
theorem Bus.dropHeld_eq (u : Bus) (p : Port) :
    u.dropHeld p = u.setFwdFrom p (if u.fwdFrom p = .holding then .none else u.fwdFrom p) := by
  unfold Bus.dropHeld
  split
  · rfl
  · cases p <;> rfl

theorem startForward_out_of_idle (idle : s.bus.answering = false) : startForward .out bytes s =
    { s with bus := { s.bus.dropHeld .inn with fwdUp := .sending bytes } } := by
  simp only [startForward, giveWay, idle]
  rfl

/-- R175: an answer being sent is abandoned. -/
theorem startForward_out_of_answering (busy : s.bus.answering = true) : startForward .out bytes s =
    { s with bus := { s.bus.dropHeld .inn with fwdUp := .sending bytes, answer := none, rxIn := .tail } } := by
  simp only [startForward, giveWay, busy, if_true, Bus.abandonAnswer, Bus.dropHeld_eq, State.onBus]
  rfl

theorem startForward_inn_of_idle (idle : s.bus.originating = false) : startForward .inn bytes s =
    { s with bus := { s.bus.dropHeld .out with fwdDown := .sending bytes } } := by
  have stands : retryFrame s = s := by
    unfold retryFrame
    split
    · rfl
    · rename_i o held
      exact if_pos (by simpa [Bus.originating, held] using idle)
  simp only [startForward, giveWay, stands]
  rfl

section

variable {o : Origination} (held : s.bus.slot = some o) (sends : o.phase = .sending)
include held sends

/-- R177: a frame being sent backs off. -/
theorem startForward_inn_of_retry (again : o.retries < 3) : startForward .inn bytes s = { s with bus :=
    { s.bus.dropHeld .out with
      fwdDown := .sending bytes
      slot := some { o with phase := .backoff, retries := o.retries + 1 }
      rxOut := .tail } } := by
  have retried : retryFrame s = { s with bus := { s.bus with
      slot := some { o with phase := .backoff, retries := o.retries + 1 }, rxOut := .tail } } := by
    simp only [retryFrame, held, sends, ne_eq, not_true, if_false, if_pos (show o.retries + 1 < 4 by omega)]
    rfl
  simp only [startForward, giveWay, retried, Bus.dropHeld_eq, State.onBus]
  rfl

/-- R177: a frame that has backed off three times is dropped. -/
theorem startForward_inn_of_last (last : 3 ≤ o.retries) : startForward .inn bytes s =
    raise (.relayDropped o.origin o.dest o.key .collision) { s with bus :=
      { s.bus.dropHeld .out with fwdDown := .sending bytes, slot := none, rxOut := .tail } } := by
  have busy : s.bus.originating = true := by simp [Bus.originating, held, sends]
  have dropped : retryFrame s = raise (.relayDropped o.origin o.dest o.key .collision)
      { s with bus := { s.bus with slot := none, rxOut := .tail } } := by
    simp only [retryFrame, held, sends, ne_eq, not_true, if_false, if_neg (show ¬o.retries + 1 < 4 by omega),
      dropFrame, State.onBus, Bus.emptySlot, busy, if_true]
    rfl
  simp only [startForward, giveWay, dropped, Bus.dropHeld_eq, State.onBus]
  rfl

end

/-! ### The destination byte (R172, R173) -/

theorem decideOut_of_silent (mute : s.bus.state = .silent) : decideOut length b s =
    { s with bus := Bus.dropHeld .out { s.bus with rxOut := .frame [length, b] false } } := by
  simp only [decideOut, State.onBus]
  exact if_pos mute

theorem decideOut_of_speaking (speaks : s.bus.state ≠ .silent) : decideOut length b s =
    startForward .out [length, b] { s with bus := { s.bus with rxOut := .frame [length, b] false } } := by
  simp only [decideOut, State.onBus]
  exact if_neg speaks

theorem decideIn_beyond (out : b.toNat = 0 ∨ 31 < b.toNat) :
    decideIn length b s = endBad .inn .tail true .format s := if_pos out

/-- The Bus Port with a destination byte taken on IN, and whether the frame is consumed decided (R172). -/
def Bus.takenIn (u : Bus) (length b : Byte) : Bus :=
  { u with rxIn := .frame [length, b] (b.toNat == u.address || b.toNat == 31 || u.inGroup b.toNat) }

variable (low : 1 ≤ b.toNat) (high : b.toNat ≤ 31)
include low high

theorem decideIn_of_kept (kept : b.toNat = s.bus.address ∨ s.bus.state = .silent) :
    decideIn length b s = { s with bus := (s.bus.takenIn length b).dropHeld .inn } := by
  have stays : ¬(s.bus.forwards b.toNat && s.bus.state != .silent) = true := by
    simp [Bus.forwards]
    tauto
  simp only [decideIn, if_neg (show ¬(b.toNat = 0 ∨ 31 < b.toNat) by omega), if_neg stays]
  rfl

theorem decideIn_of_forwarded (other : b.toNat ≠ s.bus.address) (speaks : s.bus.state ≠ .silent) :
    decideIn length b s = startForward .inn [length, b] { s with bus := s.bus.takenIn length b } := by
  have goes : (s.bus.forwards b.toNat && s.bus.state != .silent) = true := by
    simp [Bus.forwards, low, high, other, speaks]
  simp only [decideIn, if_neg (show ¬(b.toNat = 0 ∨ 31 < b.toNat) by omega), if_pos goes]
  rfl

end

/-! ### A complete frame (R171, R174) -/

section

variable {s : State} {p : Port} {b : Byte} {before bytes : List Byte} {consume : Bool}

theorem laterByte_of_part (part : frameComplete (before ++ [b]) = false) : laterByte p before consume b s =
    { s with bus := (s.bus.forwardByte p b).setRx p (.frame (before ++ [b]) consume) } := by
  simp only [laterByte, part]
  rfl

theorem laterByte_of_last (last : frameComplete (before ++ [b]) = true) : laterByte p before consume b s =
    endComplete p (before ++ [b]) consume { s with bus := s.bus.forwardByte p b } := by
  simp only [laterByte, last, if_true]
  rfl

theorem endComplete_of_bad (bad : frameGood bytes = false) :
    endComplete p bytes consume s = endBad p .tail consume .check s := by
  simp [endComplete, bad]

theorem endComplete_malformed (good : frameGood bytes = true) (form : (RemoteFrame.ofBytes bytes).wellFormed = false) :
    endComplete p bytes true s = endBad p .tail true .format s := by
  simp [endComplete, good, form]

theorem endComplete_not_consumed (good : frameGood bytes = true) :
    endComplete p bytes false s = countGood { s with bus := s.bus.setRx p .tail } := by
  simp [endComplete, good, State.onBus]

/-- R174: a good frame that is consumed is dealt with, and then counted. -/
theorem endComplete_consumed (good : frameGood bytes = true) (form : (RemoteFrame.ofBytes bytes).wellFormed = true) :
    endComplete p bytes true s =
      countGood (takeFrame (RemoteFrame.ofBytes bytes) { s with bus := s.bus.setRx p .tail }) := by
  simp [endComplete, good, form, State.onBus]

variable {f : RemoteFrame}

theorem takeFrame_of_dropped (silent : f.key = 17 ∨ f.key = 19) : takeFrame f s = s := by
  rcases silent with key | key <;> simp [takeFrame, consoleFrame, key]

/-- R175: a STATUS to the own address is answered by an ACTIVE port with no answer held. -/
theorem takeFrame_of_status (key : f.key = 18) : takeFrame f s =
    if f.dest ≤ 23 ∧ s.bus.state = .active ∧ s.bus.answer = none then { s with bus := { s.bus with
      answer := some
        { frame := (statusFrame f.seq s).toBytes, seq := f.seq, sending := false, left := 500 } } }
    else s := by
  simp only [takeFrame, if_pos key, answerStatus, ite_and]
  rfl

theorem takeFrame_of_key (key : f.key < 17) : takeFrame f s = consoleFrame f s := by
  simp only [takeFrame, if_neg (show ¬f.key = 18 by omega), if_neg (show ¬f.key = 19 by omega)]

/-- R173: a byte sent on and a frame that ends leave the answer in hand and the address. -/
theorem Bus.forwardByte_tail_keeps (u : Bus) (p : Port) (b : Byte) :
    ((u.forwardByte p b).setRx p .tail).answer = u.answer ∧
    ((u.forwardByte p b).setRx p .tail).address = u.address := by
  unfold Bus.forwardByte
  split <;> cases p <;> exact ⟨rfl, rfl⟩

/-! ### A console's press (R160, R161) -/

variable (key : f.key < 17)
include key

theorem consoleFrame_of_new (new : s.remote.console ≠ some { station := f.source, seq := f.seq }) :
    consoleFrame f s = actKey (.console f.source) f.key f.args
      { s with remote := { s.remote with console := some { station := f.source, seq := f.seq } } } := by
  simp only [consoleFrame, if_neg (show ¬f.key = 17 by omega), beq_eq_false_iff_ne.mpr new]
  rfl

theorem consoleFrame_of_again (same : s.remote.console = some { station := f.source, seq := f.seq })
    (rep : f.rep = true) (low : 5 ≤ f.key) (high : f.key ≤ 10) :
    consoleFrame f s = actKey (.console f.source) f.key f.args s := by
  have repeats := (keyRepeats_iff f.key).mpr ⟨low, high⟩
  simp [consoleFrame, show ¬f.key = 17 by omega, same, pressOf, rep, repeats]

theorem consoleFrame_rests (same : s.remote.console = some { station := f.source, seq := f.seq })
    (rests : f.rep = false ∨ f.key < 5 ∨ 10 < f.key) : consoleFrame f s = s := by
  cases rep : f.rep with
  | false => simp [consoleFrame, show ¬f.key = 17 by omega, same, pressOf, rep]
  | true =>
    have once : ¬keyRepeats f.key = true := mt (keyRepeats_iff f.key).mp (by simp [rep] at rests; omega)
    simp [consoleFrame, show ¬f.key = 17 by omega, same, pressOf, rep, once]

end

/-- Settles O49: each event by the state of the port's receiver; the destination byte by its port, and the last byte by
the checks in their order. -/
theorem busFramesAreReceived : Obligations.BusFramesAreReceived := by
  unfold Obligations.BusFramesAreReceived
  intro s p free room bus unheld bad
  have endsBad {d : Bus} (counts : s.bus.SameCounts d) (rx : BusRx) (named : Bool) (cause : FrameFault) :
      endBad p rx named cause (bus d) = bad d rx named cause := by
    rw [endBad_of_room (s := bus d) (Bus.HasRoom.of_sameCounts room counts), reportBad_eq]
    simp only [bus, counts.errors]
    rfl
  refine ⟨fun tail => ⟨fun b => ?_, ?_, ?_⟩, fun quiet => ?quiet, fun length consume b rx => ?destination,
    fun before consume rx taken => ⟨?_, ?_⟩, fun before consume b rx two => ?later⟩
  · exact congrArg Host.Outcome.next (busByte_of_tail free tail)
  · exact congrArg Host.Outcome.next (busErrorByte_of_tail free tail)
  · exact execBusTailQuiet_of_tail free tail
  case quiet =>
    intro ended
    have counts : s.bus.SameCounts ended := (Bus.Quiets.endForward s.bus p).sameCounts
    refine ⟨fun b low high => ?_, fun b out => ?_, ?_⟩
    · exact congrArg Host.Outcome.next ((busByte_of_quiet free quiet).trans (firstByte_of_length low high))
    · exact congrArg Host.Outcome.next ((busByte_of_quiet free quiet).trans
        ((firstByte_of_bad_length out).trans (endsBad counts ..)))
    · exact congrArg Host.Outcome.next ((busErrorByte_of_quiet free quiet).trans (endsBad counts ..))
  case destination =>
    intro decided
    have decides {t : State} (h : decideDestination p length b s = t) : decided t :=
      (execBusDestinationDecided_of_length free rx).trans (congrArg _ h)
    refine ⟨?out, ?inn⟩
    case out =>
      rintro rfl taken
      refine ⟨fun mute => decides (decideOut_of_silent mute), fun speaks => ?_⟩
      have starts := decideOut_of_speaking (length := length) (b := b) speaks
      exact ⟨fun idle => decides (starts.trans (startForward_out_of_idle idle)),
        fun busy => decides (starts.trans (startForward_out_of_answering busy))⟩
    case inn =>
      rintro rfl
      refine ⟨fun out => decides ((decideIn_beyond out).trans (endsBad (Bus.Quiets.refl s.bus).sameCounts ..)),
        fun low high => ⟨fun kept => decides (decideIn_of_kept low high kept), fun other speaks => ?_⟩⟩
      have starts := decideIn_of_forwarded (length := length) low high other speaks
      exact ⟨fun idle => decides (starts.trans (startForward_inn_of_idle idle)),
        fun o held sends =>
          ⟨fun again => decides (starts.trans (startForward_inn_of_retry held sends again)),
            fun last => decides (starts.trans (startForward_inn_of_last held sends last))⟩⟩
  · exact congrArg Host.Outcome.next ((busGap_of_frame free rx).trans (endsBad (Bus.Quiets.refl s.bus).sameCounts ..))
  · exact congrArg Host.Outcome.next
      ((busErrorByte_of_frame free rx).trans (endsBad (Bus.Quiets.refl s.bus).sameCounts ..))
  case later =>
    intro sent ends judged f
    have forwarded : s.bus.forwardByte p b = sent := rfl
    have counts : s.bus.SameCounts sent := forwarded ▸ (Bus.Quiets.forwardByte s.bus p b).sameCounts
    refine ⟨fun part => ?_, fun last => ?_⟩
    · exact congrArg Host.Outcome.next ((busByte_of_later free rx two).trans (laterByte_of_part part))
    have completes {t : State} (h : endComplete p (before ++ [b]) consume (bus sent) = t) : ends t :=
      (execBusFrameEnd_of_last free rx two last).trans (congrArg _ ((laterByte_of_last last).trans h))
    have tail : s.bus.SameCounts (sent.setRx p .tail) := counts.setRx p .tail
    have counted {t : State} (same : s.bus.SameCounts t.bus) : countGood t = { t with bus := { t.bus with
        errors := s.bus.errors - 1, goodRun := min 32 (s.bus.goodRun + 1) } } := by
      rw [countGood_of_room (Bus.HasRoom.of_sameCounts room same), same.errors, same.goodRun]
    refine ⟨fun broken => completes ((endComplete_of_bad broken).trans (endsBad counts ..)),
      fun good => ⟨fun passed => ?_, fun own form => ?_, fun own form => ?_⟩⟩
    · subst passed
      exact completes ((endComplete_not_consumed good).trans (counted tail))
    · subst own
      exact completes ((endComplete_malformed good form).trans (endsBad counts ..))
    subst own
    have dealt {t : State} (h : takeFrame f (bus (sent.setRx p .tail)) = t) (same : s.bus.SameCounts t.bus) :
        ends { t with bus := { t.bus with errors := s.bus.errors - 1, goodRun := min 32 (s.bus.goodRun + 1) } } :=
      completes ((endComplete_consumed good form).trans ((congrArg countGood h).trans (counted same)))
    refine ⟨fun silent => dealt (takeFrame_of_dropped silent) tail, fun status => ?status, fun key => ?press⟩
    case status =>
      intro answer answers
      obtain ⟨held, address⟩ := s.bus.forwardByte_tail_keeps p b
      rw [forwarded] at held address
      have asked := takeFrame_of_status (s := bus (sent.setRx p .tail)) status
      have composed : statusFrame f.seq (bus (sent.setRx p .tail)) = answer := by
        simp only [statusFrame, bus, address]
        rfl
      rw [composed] at asked
      refine ⟨fun ⟨named, active, clear⟩ => ?_, fun unable => ?_⟩
      · exact dealt (asked.trans (if_pos ⟨named, tail.state.trans active, held.trans clear⟩))
          ⟨tail.errors, tail.goodRun, tail.state⟩
      · refine dealt (asked.trans (if_neg fun ⟨named, active, clear⟩ => unable ⟨named, ?_, ?_⟩)) tail
        · exact tail.state.symm.trans active
        · exact held.symm.trans clear
    case press =>
      intro press acts
      have acted {u : State} (h : takeFrame f (bus (sent.setRx p .tail)) = actKey (.console f.source) f.key f.args u)
          (same : u.bus = sent.setRx p .tail) :
          ends { actKey (.console f.source) f.key f.args u with bus := judged } := by
        have kept : (actKey (.console f.source) f.key f.args u).bus = sent.setRx p .tail := by simp [same]
        have done := dealt h (kept ▸ tail)
        rwa [kept] at done
      refine ⟨fun new => ?_, fun same => ⟨fun rep low high => ?_, fun rests => ?_⟩⟩
      · exact acted ((takeFrame_of_key key).trans (consoleFrame_of_new key new)) rfl
      · exact acted ((takeFrame_of_key key).trans (consoleFrame_of_again key same rep low high)) rfl
      · exact dealt ((takeFrame_of_key key).trans (consoleFrame_rests key same rests)) tail

end Sys2Proof.Machine
end

section
/-! PROOFS. What the Bus Port holds and stops sending, case by case, and the host's requests on it (O48). -/

namespace Sys2Proof.Machine

/-! ### What is emptied, dropped and abandoned (R173, R175, R177) -/

section

variable {s : State} {b : Bus} {o : Origination} {a : StatusAnswer}

theorem Bus.originating_of_held (held : b.slot = some o) : b.originating = (o.phase == .sending) := by
  simp [Bus.originating, held]

theorem Bus.answering_of_held (held : b.answer = some a) : b.answering = a.sending := by simp [Bus.answering, held]

/-- R177: the slot is emptied, and OUT goes to TAIL if the frame in it is being sent. -/
theorem Bus.emptySlot_of_held (held : b.slot = some o) : b.emptySlot =
    { b with slot := none, rxOut := if o.phase = .sending then .tail else b.rxOut } := by
  by_cases sends : o.phase = .sending <;>
    simp [Bus.emptySlot, Bus.originating_of_held held, sends, Bus.stopSending, Bus.setRx]

/-- R175: the answer is given up, and IN goes to TAIL if it is being sent. -/
theorem Bus.abandonAnswer_of_held (held : b.answer = some a) : b.abandonAnswer =
    { b with answer := none, rxIn := if a.sending = true then .tail else b.rxIn } := by
  by_cases sends : a.sending = true <;>
    simp [Bus.abandonAnswer, Bus.answering_of_held held, sends, Bus.stopSending, Bus.setRx]

theorem dropFrame_of_held (held : s.bus.slot = some o) (cause : DropCause) : dropFrame cause s =
    raise (.relayDropped o.origin o.dest o.key cause) { s with bus := { s.bus with
      slot := none, rxOut := if o.phase = .sending then .tail else s.bus.rxOut } } := by
  simp only [dropFrame, held, State.onBus, Bus.emptySlot_of_held held]

/-- R177: a frame stopped while it is being sent backs off. -/
theorem retryFrame_of_early (held : s.bus.slot = some o) (sends : o.phase = .sending) (early : o.retries < 3) :
    retryFrame s = { s with bus := { s.bus with
      slot := some { o with phase := .backoff, retries := o.retries + 1 }, rxOut := .tail } } := by
  simp only [retryFrame, held, sends, ne_eq, not_true, if_false, if_pos (show o.retries + 1 < 4 by omega)]
  rfl

/-- R177: at its fourth failure a frame is dropped. -/
theorem retryFrame_of_fourth (held : s.bus.slot = some o) (sends : o.phase = .sending) (fourth : 3 ≤ o.retries) :
    retryFrame s = raise (.relayDropped o.origin o.dest o.key .collision)
      { s with bus := { s.bus with slot := none, rxOut := .tail } } := by
  simp only [retryFrame, held, sends, ne_eq, not_true, if_false, if_neg (show ¬o.retries + 1 < 4 by omega),
    dropFrame_of_held held, if_true]

end

/-! ### Addresses and groups (R170) -/

/-- R170: of the group numbers, a group set made of a list holds those in the list. -/
theorem Bus.inGroup_groupSet {b : Bus} {gs : List Nat} (set : b.groups = groupSet gs)
    (range : ∀ g ∈ gs, 24 ≤ g ∧ g ≤ 30) (g : Nat) : b.inGroup g = true ↔ g ∈ gs := by
  unfold Bus.inGroup
  split
  · rename_i inside
    simp [set, groupSet, show 24 + (g - 24) = g by omega]
  · rename_i outside
    exact iff_of_false Bool.false_ne_true fun member => outside (range g member)

/-- R180: ACTIVE is entered with PORT_STATE, from SILENT with the counter and the run at 0. -/
theorem enterPort_active (s : State) : enterPort .active s =
    raise (.portState .active (s.bus.entered .active).errors) { s with bus := s.bus.entered .active } := rfl

/-! ### The host's requests (R170, R176, R178, R180) -/

section

variable {s : State}

theorem execSetAddress_eq {a : Nat} {gs : List Nat} (ha : s.link.accepts (.setAddress a gs) = true) :
    execSetAddress a gs s =
      if 1 ≤ a ∧ a ≤ 23 ∧ ∀ g ∈ gs, 24 ≤ g ∧ g ≤ 30 then
        let t := s.onBus fun b => { b with address := a, groups := groupSet gs }
        .next (respond 54 .done (addressBytes t.bus) t)
      else .next (respond 54 .badValue [] s) := by
  rw [execSetAddress, hostRequest_of_accepts _ _ _ ha]
  simp only [List.all_eq_true, Bool.and_eq_true, decide_eq_true_eq]
  split <;> rfl

theorem sendFrameInRange_iff (dest key : Nat) (args : List Nat) (rep : Nat) :
    sendFrameInRange dest key args rep = true ↔ 1 ≤ dest ∧ dest ≤ 31 ∧ 1 ≤ key ∧ key ≤ 18 ∧ key ≠ 17 ∧
      args.length = (if key = 3 then 1 else 0) ∧ rep ≤ 1 := by
  have flag : (onOff rep).isSome = true ↔ rep ≤ 1 := by
    rcases Nat.lt_or_ge 1 rep with beyond | within
    · simp [onOff_beyond beyond, beyond]
    · simp [onOff_of_le within, within]
  have sent := keySendable_args_iff key args.length
  simp only [sendFrameInRange, Bool.and_eq_true, decide_eq_true_eq, beq_iff_eq, flag]
  tauto

/-- R176: a frame is taken into the empty slot of an ACTIVE port, with the count that a new frame or a REPEAT carries. -/
theorem offerFrame_of_free {origin dest key : Nat} {args : List Nat} {rep : Bool} (empty : s.bus.slot = none)
    (active : s.bus.state = .active) : offerFrame origin dest key args rep s =
    let seq := s.bus.nextSeq rep
    let f : RemoteFrame := { dest := dest, source := s.bus.address, seq := seq, key := key, rep := rep, args := args }
    ({ s with bus := { s.bus with
       running := seq
       slot := some { origin := origin, dest := dest, key := key, seq := seq, frame := f.toBytes, phase := .waiting,
                      retries := 0, wait := 500 } } }, .done) :=
  if_neg (ne_false_of_eq_true (s.bus.canOriginate_iff.mpr ⟨empty, active⟩))

theorem Bus.nextSeq_eq (b : Bus) (rep : Nat) :
    b.nextSeq (rep == 1) = if rep = 1 then b.running else (b.running + 1) % 256 := by
  simp [Bus.nextSeq]

section

variable {dest key : Nat} {args : List Nat} {rep : Nat} (ha : s.link.accepts (.sendFrame dest key args rep) = true)
include ha

theorem execSendFrame_of_bad (bad : sendFrameInRange dest key args rep = false) :
    execSendFrame dest key args rep s = .next (respond 55 .badValue [] s) := by
  rw [execSendFrame, hostRequest_of_accepts _ _ _ ha, bad]
  rfl

theorem execSendFrame_of_offer (good : sendFrameInRange dest key args rep = true) {t : State} {st : Status}
    (offered : offerFrame 0 dest key args (rep == 1) s = (t, st)) :
    execSendFrame dest key args rep s = .next (respond 55 st [] t) := by
  rw [execSendFrame, hostRequest_of_accepts _ _ _ ha, if_pos good, offered]
  rfl

end

theorem execPortAbort_eq (ha : s.link.accepts .portAbort = true) : execPortAbort s =
    .next (respond 56 .done (flag s.bus.slot.isSome) { s with bus := s.bus.emptySlot }) :=
  hostRequest_of_accepts _ _ _ ha

theorem execPortRestart_of_active (ha : s.link.accepts .portRestart = true) (active : s.bus.state = .active) :
    execPortRestart s = .next (respond 57 .done []
      { s with bus := { s.bus with errors := 0, goodRun := 0, state := .active } }) := by
  rw [execPortRestart, hostRequest_of_accepts _ _ _ ha]
  simp only [answer, State.onBus, active, if_true]
  rfl

/-- R180: ACTIVE is entered from PASSIVE or SILENT with the counter and the run already at 0. -/
theorem execPortRestart_of_away (ha : s.link.accepts .portRestart = true) (away : s.bus.state ≠ .active) :
    execPortRestart s = .next (respond 57 .done [] (raise (.portState .active 0)
      { s with bus := { s.bus with errors := 0, goodRun := 0, state := .active } })) := by
  have entered : Bus.entered .active { s.bus with errors := 0, goodRun := 0 } =
      { s.bus with errors := 0, goodRun := 0, state := .active } := by
    simp only [Bus.entered]
    split <;> rfl
  rw [execPortRestart, hostRequest_of_accepts _ _ _ ha]
  simp only [answer, State.onBus, if_neg away, enterPort_active, entered]
  rfl

end

/-- Settles O48: each request by its checks in their order. -/
theorem portRequests : Obligations.PortRequests := by
  unfold Obligations.PortRequests
  intro s
  refine ⟨fun a gs ha => ?address, fun dest key args rep ha => ?frame, fun ha => ⟨fun empty => ?_, fun o held => ?_⟩,
    fun ha => ⟨fun active => execPortRestart_of_active ha active, fun away => execPortRestart_of_away ha away⟩⟩
  case address =>
    exact ⟨fun ⟨low, high, range⟩ =>
        ⟨_, (execSetAddress_eq ha).trans (if_pos ⟨low, high, range⟩), rfl, Bus.inGroup_groupSet rfl range⟩,
      fun bad => (execSetAddress_eq ha).trans (if_neg bad)⟩
  case frame =>
    intro good
    have checks : sendFrameInRange dest key args rep = true ↔ good := sendFrameInRange_iff dest key args rep
    refine ⟨fun bad => execSendFrame_of_bad ha (eq_false_of_ne_true (mt checks.mp bad)), fun fits barred => ?_,
      fun fits empty active => ?_⟩
    · exact execSendFrame_of_offer ha (checks.mpr fits)
        (offerFrame_barred fun ⟨empty, active⟩ => barred.elim (· empty) (· active))
    · have taken := execSendFrame_of_offer ha (checks.mpr fits) (offerFrame_of_free empty active)
      rwa [Bus.nextSeq_eq] at taken
  · refine (execPortAbort_eq ha).trans ?_
    rw [Bus.emptySlot_of_free empty, empty]
    rfl
  · refine (execPortAbort_eq ha).trans ?_
    rw [Bus.emptySlot_of_held held, held]
    rfl

end Sys2Proof.Machine
end

section
/-! PROOFS. What an ACTIVE port sends starts, ends, and stops at a collision (O50). -/

namespace Sys2Proof.Machine

section

variable {s : State} {p : Port} {bytes : List Byte}

/-! ### A forward that stops (R173) -/

theorem Bus.endForward_of_sending {b : Bus} (sends : b.fwdFrom p = .sending bytes) :
    b.endForward p = (b.setFwdFrom p .none).setRx (otherPort p) .tail := by
  simp [Bus.endForward, sends, Forward.isSending, Bus.stopSending]

theorem Bus.cutForward_of_sending {b : Bus} (sends : b.fwdFrom p = .sending bytes) :
    b.cutForward p = (b.setFwdFrom p .abandoned).setRx (otherPort p) .tail := by
  simp only [Bus.cutForward, sends, Bus.stopSending]

theorem execBusForwardEnd_of_sending (sends : s.bus.fwdFrom p = .sending bytes)
    (ended : s.bus.rx p = .quiet ∨ s.bus.rx p = .tail) : execBusForwardEnd (otherPort p) s =
    .next { s with bus := (s.bus.setFwdFrom p .none).setRx (otherPort p) .tail } := by
  have same : otherPort (otherPort p) = p := by cases p <;> rfl
  have heard : ¬(s.bus.rx p).inFrame = true := by rcases ended with rx | rx <;> simp [rx, BusRx.inFrame]
  simp only [execBusForwardEnd, same, if_neg heard, State.onBus, Bus.endForward_of_sending sends]

/-! ### Collisions (R173, R175, R177, R179) -/

/-- R179: a collision counts 8 up, which leaves an ACTIVE port ACTIVE below 88. -/
theorem countCollision_of_room (active : s.bus.state = .active) (room : s.bus.errors < 88) :
    countCollision s = { s with bus := { s.bus with errors := s.bus.errors + 8 } } := by
  have sum : satAdd 255 s.bus.errors 8 = s.bus.errors + 8 := by simp only [satAdd]; omega
  simp only [countCollision, State.onBus, sum]
  exact decidePort_of_agrees (.inl ⟨active, by simp only; omega⟩)

theorem collide_of_originating (clear : s.bus.fwdDown.isSending = false) (busy : s.bus.originating = true) :
    collide .out s = retryFrame (countCollision s) := by
  simp [collide, clear, busy]

theorem collide_of_answering (clear : s.bus.fwdUp.isSending = false) (busy : s.bus.answering = true) :
    collide .inn s = countCollision (s.onBus Bus.abandonAnswer) := by
  simp [collide, clear, busy]

theorem collide_of_forward (sends : s.bus.fwdFrom p = .sending bytes) :
    collide (otherPort p) s = countCollision (s.onBus (Bus.cutForward p)) := by
  have busy : (s.bus.fwdFrom p).isSending = true := by rw [sends]; rfl
  cases p <;> exact if_pos busy

/-! ### The waiting frame and the held answer start (R175, R177) -/

variable {o : Origination} {a : StatusAnswer}

theorem execOriginationStart_of_held (held : s.bus.slot = some o) : execOriginationStart s =
    .next (if o.phase = .waiting ∧ s.bus.state = .active ∧ s.bus.rxOut = .quiet ∧ s.bus.fwdDown.idle = true then
      { s with bus := { s.bus with slot := some { o with phase := .sending } } } else s) := by
  simp only [execOriginationStart, held]
  split <;> rfl

theorem execStatusAnswerStart_of_held (held : s.bus.answer = some a) : execStatusAnswerStart s =
    .next (if a.sending = false ∧ s.bus.state = .active ∧ s.bus.rxIn = .quiet ∧ s.bus.fwdUp.idle = true then
      { s with bus := { s.bus with answer := some { a with sending := true } } } else s) := by
  simp only [execStatusAnswerStart, held]
  split <;> rfl

/-! ### The ends of a wait, a back-off and a sending (R175, R177) -/

theorem execOriginationWaitTimeout_of_waiting (held : s.bus.slot = some o) (waits : o.phase = .waiting) :
    execOriginationWaitTimeout s = .next (raise (.relayDropped o.origin o.dest o.key .wait)
      { s with bus := { s.bus with slot := none } }) := by
  simp [execOriginationWaitTimeout, held, waits, dropFrame_of_held held]

theorem execBackoffEnd_of_backoff (held : s.bus.slot = some o) (rests : o.phase = .backoff) :
    execBackoffEnd s = .next { s with bus := { s.bus with
      slot := some { o with phase := .waiting, wait := 500 } } } := by
  simp only [execBackoffEnd, held, if_pos rests]
  rfl

theorem execOriginationDone_of_sending (held : s.bus.slot = some o) (sends : o.phase = .sending) :
    execOriginationDone s = .next { s with bus := { s.bus with slot := none, rxOut := .tail } } := by
  simp [execOriginationDone, Bus.originating_of_held held, sends, State.onBus, Bus.emptySlot_of_held held]

theorem execStatusAnswerTimeout_of_waiting (held : s.bus.answer = some a) (waits : a.sending = false) :
    execStatusAnswerTimeout s = .next { s with bus := { s.bus with answer := none } } := by
  simp [execStatusAnswerTimeout, Bus.answering_of_held held, waits, State.onBus, Bus.abandonAnswer_of_held held]

theorem execStatusAnswerDone_of_sending (held : s.bus.answer = some a) (sends : a.sending = true) :
    execStatusAnswerDone s = .next { s with bus := { s.bus with answer := none, rxIn := .tail } } := by
  simp [execStatusAnswerDone, Bus.answering_of_held held, sends, State.onBus, Bus.abandonAnswer_of_held held]

end

/-- Settles O50: by what the port holds, its phase, and the event. -/
theorem thePortSends : Obligations.ThePortSends := by
  unfold Obligations.ThePortSends
  intro s bus
  have idle {f : Forward} (h : f = .none) : f.idle = true := by rw [h]; rfl
  refine ⟨fun o held => ⟨fun waits => ⟨fun active quiet clear => ?_, fun loud => ?_, ?_⟩, fun rests => ?_,
      fun sends => ⟨?_, fun active room clear => ?collides⟩⟩,
    fun a held => ⟨fun waits => ⟨fun active quiet clear => ?_, ?_⟩, fun sends => ⟨?_, fun active room clear => ?answer⟩⟩,
    fun p bytes sends active room => ?forward, fun p bytes sends ended => execBusForwardEnd_of_sending sends ended⟩
  · exact (execOriginationStart_of_held held).trans (by rw [if_pos ⟨waits, active, quiet, idle clear⟩])
  · exact (execOriginationStart_of_held held).trans (by rw [if_neg fun ⟨_, _, quiet, _⟩ => loud quiet])
  · exact execOriginationWaitTimeout_of_waiting held waits
  · exact execBackoffEnd_of_backoff held rests
  · exact execOriginationDone_of_sending held sends
  case collides =>
    have busy : s.bus.originating = true := by simp [Bus.originating_of_held held, sends]
    have stopped : collide .out s = retryFrame (bus { s.bus with errors := s.bus.errors + 8 }) := by
      rw [collide_of_originating clear busy, countCollision_of_room active room]
    exact ⟨fun early => congrArg Host.Outcome.next (stopped.trans (retryFrame_of_early held sends early)),
      fun fourth => congrArg Host.Outcome.next (stopped.trans (retryFrame_of_fourth held sends fourth))⟩
  · exact (execStatusAnswerStart_of_held held).trans (by rw [if_pos ⟨waits, active, quiet, idle clear⟩])
  · exact execStatusAnswerTimeout_of_waiting held waits
  · exact execStatusAnswerDone_of_sending held sends
  case answer =>
    have busy : s.bus.answering = true := (Bus.answering_of_held held).trans sends
    have given : s.onBus Bus.abandonAnswer = bus { s.bus with answer := none, rxIn := .tail } := by
      rw [State.onBus, Bus.abandonAnswer_of_held held, if_pos sends]
    exact congrArg Host.Outcome.next
      ((collide_of_answering clear busy).trans (given ▸ countCollision_of_room active room))
  case forward =>
    have counts := (Bus.Quiets.cutForward s.bus p).sameCounts
    have counted := countCollision_of_room (s := s.onBus (Bus.cutForward p)) (counts.state.trans active)
      (counts.errors.symm ▸ room)
    rw [State.onBus_bus, counts.errors, Bus.cutForward_of_sending sends] at counted
    exact congrArg Host.Outcome.next ((collide_of_forward sends).trans counted)

end Sys2Proof.Machine
end

section
/-! PROOFS. The error counter and the good-frame run move the port state (O51). -/

namespace Sys2Proof.Machine

/-! ### Entering a port state (R180) -/

theorem Bus.entered_active_state (b : Bus) : (b.entered .active).state = .active := by
  simp only [Bus.entered]
  split <;> rfl

theorem Bus.entered_active_of_passive {b : Bus} (passive : b.state = .passive) :
    b.entered .active = { b with state := .active } := if_neg (by simp [passive])

theorem Bus.entered_active_of_silent {b : Bus} (silent : b.state = .silent) :
    b.entered .active = { b with state := .active, errors := 0, goodRun := 0 } := if_pos silent

section

variable {s : State}

/-- R180: PORT_STATE names the state entered and the counter as it then stands. -/
theorem enterPort_raises (new : PortState) (s : State) : (enterPort new s).link.notices[29] =
    { arg := some (.portState new (s.bus.entered new).errors), mark := true } := by
  rw [← enterPort_bus]
  simp only [enterPort, raise_frame]
  exact raise_place_same (.portState new _) _

/-- R180: leaving ACTIVE drops the frame in the slot, with RELAY_DROPPED. -/
theorem enterPort_drops {new : PortState} (leaves : new ≠ .active) {o : Origination} (held : s.bus.slot = some o) :
    (enterPort new s).link.notices[28] =
      { arg := some (.relayDropped o.origin o.dest o.key .port), mark := true } := by
  have dropped : (dropFrame .port s).link.notices[28] =
      { arg := some (.relayDropped o.origin o.dest o.key .port), mark := true } := by
    rw [dropFrame_of_held held]
    exact raise_place_same (.relayDropped o.origin o.dest o.key .port) _
  have other (n : Nat) (u : State) : (raise (.portState new n) u).link.notices[28] = u.link.notices[28] :=
    raise_place_other (.portState new n) u (show (28 : Fin 30) ≠ 29 by decide)
  cases new with
  | active => exact absurd rfl leaves
  | passive | silent => exact (other _ _).trans dropped

/-! ### The state decided after a count (R180) -/

theorem decidePort_of_active (active : s.bus.state = .active) (high : 96 ≤ s.bus.errors) :
    decidePort s = enterPort .passive s := by
  simp only [decidePort, active, if_pos high]

theorem decidePort_of_passive_high (passive : s.bus.state = .passive) (high : 160 ≤ s.bus.errors) :
    decidePort s = enterPort .silent s := by
  simp only [decidePort, passive, if_pos high]

theorem decidePort_of_passive_low (passive : s.bus.state = .passive) (low : s.bus.errors < 64) :
    decidePort s = enterPort .active s := by
  simp only [decidePort, passive, if_neg (show ¬160 ≤ s.bus.errors by omega), if_pos low]

theorem decidePort_of_silent (silent : s.bus.state = .silent) (run : 32 ≤ s.bus.goodRun) :
    decidePort s = enterPort .active s := by
  simp only [decidePort, silent, if_pos run]

/-! ### A frame that ends on OUT is counted (R171, R179) -/

variable {before : List Byte} {b : Byte} (rx : s.bus.rxOut = .frame before false) (free : s.bus.transmits .out = false)
include rx free

/-- R171, R179: the gap ends the frame bad: from this state, with the slot as before, the port state is decided. -/
theorem busGap_out_counts : ∃ u : State, busGap .out s = decidePort u ∧ s.bus.state = u.bus.state ∧
    u.bus.slot = s.bus.slot ∧ u.bus.errors = min 255 (s.bus.errors + 1) ∧ u.bus.goodRun = 0 := by
  have counts := (Bus.Quiets.dropHeld s.bus .out).sameCounts
  refine ⟨_, busGap_of_frame (p := .out) free rx, counts.state.symm, ?_, ?_, rfl⟩
  · simp [Bus.dropHeld_eq, reportBad]
  · simp [reportBad, satAdd, counts.errors]

/-- R171, R179: the last byte of a good frame ends it good: from this state the port state is decided. -/
theorem busFrameEnd_out_counts (two : 2 ≤ before.length) (last : frameComplete (before ++ [b]) = true)
    (good : frameGood (before ++ [b]) = true) : ∃ u : State,
    execBusFrameEnd .out (some b) s = .next (decidePort u) ∧ u.bus.state = s.bus.state ∧
      u.bus.errors = s.bus.errors - 1 ∧ u.bus.goodRun = min 32 (s.bus.goodRun + 1) := by
  have counts := (Bus.Quiets.forwardByte s.bus .out b).sameCounts.setRx .out .tail
  refine ⟨_, (execBusFrameEnd_of_last (p := .out) free rx two last).trans
    (congrArg Host.Outcome.next ((laterByte_of_last last).trans (endComplete_not_consumed good))), counts.state, ?_, ?_⟩
  · exact congrArg (· - 1) counts.errors
  · exact congrArg (fun run => min 32 (run + 1)) counts.goodRun

end

/-- Settles O51: a frame that ends is counted, and the count decides the state that is entered. -/
theorem errorsMoveThePortState : Obligations.ErrorsMoveThePortState := by
  unfold Obligations.ErrorsMoveThePortState
  intro s before b rx two free moved dropped
  obtain ⟨u, counted, state, slot, errors, run⟩ := busGap_out_counts rx free
  have gap : exec (.busGapTimeout .out) s = .next (decidePort u) := congrArg Host.Outcome.next counted
  have moves {v : State} {new : PortState} {n : Nat} (stands : (v.bus.entered new).state = new)
      (counter : (v.bus.entered new).errors = n) : moved (enterPort new v) new n := by
    refine ⟨?_, ?_, ?_⟩
    · rw [enterPort_bus, stands]
    · rw [enterPort_bus, counter]
    · rw [enterPort_raises, counter]
  have drops {new : PortState} (stands : (u.bus.entered new).state = new) (leaves : new ≠ .active) :
      dropped (enterPort new u) := by
    obtain ⟨empty, clear⟩ := (u.bus.entered_portFits new).passive (stands.symm ▸ leaves)
    refine ⟨?_, ?_, fun o held => enterPort_drops leaves (slot.trans held)⟩
    · rw [enterPort_bus, empty]
    · rw [enterPort_bus, clear]
  refine ⟨fun active low high => ?passive, fun passive low high => ?silent, fun silent => ?stays,
    fun last good => ?goodFrame⟩
  case passive =>
    obtain ⟨counter, -, stands⟩ := u.bus.entered_passive_counts
    refine ⟨enterPort .passive u, ?_, moves stands (by omega), drops stands nofun⟩
    rw [gap, decidePort_of_active (state ▸ active) (by omega)]
  case silent =>
    obtain ⟨counter, zero, stands⟩ := u.bus.entered_silent_counts
    refine ⟨enterPort .silent u, ?_, moves stands (by omega), drops stands nofun, ?_, fun p => ?_⟩
    · rw [gap, decidePort_of_passive_high (state ▸ passive) (by omega)]
    · rw [enterPort_bus, zero]
    · rw [enterPort_bus]
      exact (u.bus.entered_portFits .silent).silent stands p
  case stays =>
    refine ⟨u, ?_, state ▸ silent, errors, run⟩
    rw [gap, decidePort_of_agrees (.inr (.inr ⟨state ▸ silent, by omega⟩))]
  case goodFrame =>
    obtain ⟨v, ends, state, errors, run⟩ := busFrameEnd_out_counts rx free two last good
    refine ⟨fun passive at64 => ?_, fun silent long => ?_, fun silent short => ?_⟩
    · have left := Bus.entered_active_of_passive (state.trans passive)
      refine ⟨enterPort .active v, ?_, moves v.bus.entered_active_state ?_⟩
      · exact ends.trans (by rw [decidePort_of_passive_low (state.trans passive) (by omega)])
      · simp only [left, errors, at64]
    · have left := Bus.entered_active_of_silent (state.trans silent)
      refine ⟨enterPort .active v, ?_, moves v.bus.entered_active_state ?_, ?_⟩
      · exact ends.trans (by rw [decidePort_of_silent (state.trans silent) (by omega)])
      · rw [left]
      · rw [enterPort_bus, left]
    · refine ⟨v, ?_, state.trans silent, by omega, errors⟩
      exact ends.trans (by rw [decidePort_of_agrees (.inr (.inr ⟨state.trans silent, by omega⟩))])

end Sys2Proof.Machine
end

section
/-! PROOFS. A host request is answered with a checked response frame, or changes nothing (O4). -/

namespace Sys2Proof.Machine

/-! ### Frames with their checks (R152) -/

@[simp] theorem withSums_length (bytes : List Byte) : (withSums bytes).length = bytes.length + 2 := by simp [withSums]

theorem take_withSums (bytes : List Byte) : (withSums bytes).take bytes.length = bytes := by simp [withSums]

/-- R152: bytes with their own two sums behind them pass the test of those sums. -/
theorem frameGood_withSums (bytes : List Byte) : frameGood (withSums bytes) = true := by
  have body : (withSums bytes).dropLast.dropLast = bytes := by simp [withSums, List.dropLast_append_of_ne_nil]
  simp [frameGood, body]

/-- R185: what the two checks of a response frame cover. -/
theorem responseFrame_eq (code : Nat) (st : Status) (payload : List Byte) :
    let p := if st = .done then payload else []
    responseFrame code st payload = withSums
      ([BitVec.ofNat 8 (4 + p.length), BitVec.ofNat 8 code, BitVec.ofNat 8 st.code] ++ p) := rfl

/-! ### Every request goes through the link -/

/-- R183: a command with a request code is its owner's answer, given while the link carries the request. -/
theorem exec_is_hostRequest {c : Instr} (request : requestCode c ≠ 0) :
    ∃ owner : State → Reply, ∀ s, exec c s = hostRequest c owner s := by
  cases c with
  | writeSlot | loadSlots | retireSlot | readSlot | readShow | setOptions | step | goto | home | hold | resume
  | flush | readDrive | focus | lampOn | lampOff | lampReset | setLight | writeExposure | readLamp | writeCalibration
  | readCalibration | writeProfile | readProfile | selectProfile | readThermal | tapePlay | tapePause | tapeStop
  | tapeWind | setTapePosition | setGain | setDuckDepth | setMute | readTape | setCueOptions | setMasks | writeCue
  | armCue | pauseCue | retireCue | readCue | learnOn | learnOff | readLearn | readCueUnit | openPairing
  | closePairing | readHandset | setRights | blockHandset | unblockHandset | retireHandset | setAddress | sendFrame
  | portAbort | portRestart | readPort | setNoticeMask | readNotices | readNotice | clearNotices | reset =>
    exact ⟨_, fun _ => rfl⟩
  | _ => exact absurd rfl request

/-- Settles O4: a request is its owner's answer or nothing; the answer is the status and payload under two checks. -/
theorem requestsAreAnsweredOrIgnored : Obligations.RequestsAreAnsweredOrIgnored := by
  unfold Obligations.RequestsAreAnsweredOrIgnored
  refine ⟨fun c s request => ?_, fun code st payload => ?_, fun _ _ _ _ => rfl⟩
  · obtain ⟨owner, meaning⟩ := exec_is_hostRequest request
    rw [meaning]
    refine ⟨fun carried => ?_, hostRequest_of_not_accepts c owner s⟩
    exact ⟨_, (owner s).status, (owner s).payload, hostRequest_of_accepts c owner s carried, rfl, rfl, rfl⟩
  · intro p
    have count : ([BitVec.ofNat 8 (4 + p.length), BitVec.ofNat 8 code, BitVec.ofNat 8 st.code] ++ p).length =
        3 + p.length := by rw [List.length_append]; rfl
    rw [responseFrame_eq]
    refine ⟨?_, ?_, frameGood_withSums _⟩
    · rw [withSums_length, count]
      omega
    · rw [← count, take_withSums]

end Sys2Proof.Machine
end

section
/-! PROOFS. Notices are raised, latched and cleared, and ATTN shows the pending ones of the enabled kinds (O52). -/

namespace Sys2Proof.Machine

section

variable (l : Link) (i : Fin 30)

/-- R189: the pending set holds the kinds whose place is not empty. -/
theorem Link.pending_get : l.pending[i] = l.notices[i].arg.isSome := by simp [Link.pending]

theorem Link.latch_notices_get : l.latch.notices[i] = { l.notices[i] with mark := false } := by simp [Link.latch]

/-- R190: a place is emptied when it is of the latched set, is pending, and has not been raised since. -/
theorem Link.cleared_get : l.cleared[i] = true ↔
    (∃ set, l.latched = some set ∧ set[i] = true) ∧ l.notices[i].arg ≠ none ∧ l.notices[i].mark = false := by
  cases latch : l.latched with
  | none => simp [Link.cleared, latch]
  | some set => simp [Link.cleared, clears, latch, Option.isSome_iff_ne_none, and_assoc]

theorem Link.clear_notices_get :
    l.clear.notices[i] = if l.cleared[i] then { arg := none, mark := false } else l.notices[i] := by
  simp [Link.clear, Place.empty]

/-- R188, R191: ATTN stands for a pending place of an enabled kind, while the RESET pin is released. -/
theorem Link.attn_iff :
    l.attn = true ↔ l.resetPin = false ∧ ∃ i : Fin 30, l.notices[i].arg ≠ none ∧ l.mask[i] = true := by
  simp [Link.attn, Option.isSome_iff_ne_none]

variable {s : State}

theorem execReadNotices_of_accepts (carried : s.link.accepts .readNotices = true) : execReadNotices s =
    .next (respond 60 .done (s.link.pending.toList.flatMap flag) (s.onLink Link.latch)) := by
  unfold execReadNotices
  simp only [hostRequest_of_accepts _ _ _ carried, requestCode, answer]

theorem execClearNotices_of_accepts (carried : s.link.accepts .clearNotices = true) : execClearNotices s =
    .next (respond 62 .done (u8 (s.link.cleared.toList.countP fun b => b)) (s.onLink Link.clear)) := by
  unfold execClearNotices
  simp only [hostRequest_of_accepts _ _ _ carried, requestCode, answer]

end

/-- Settles O52: each operation on the Notice Set, place by place. -/
theorem noticesAreLatchedAndCleared : Obligations.NoticesAreLatchedAndCleared := by
  unfold Obligations.NoticesAreLatchedAndCleared
  intro s
  refine ⟨fun n => ⟨raise_place_same n s, fun i other => raise_place_other n s other, rfl⟩, fun carried => ?reads,
    fun carried => ?clears, s.link.attn_iff⟩
  case reads =>
    refine ⟨s.onLink Link.latch, s.link.pending, execReadNotices_of_accepts carried, rfl, fun i => ⟨?_, ?_⟩⟩
    · exact s.link.pending_get i
    · exact s.link.latch_notices_get i
  case clears =>
    refine ⟨s.onLink Link.clear, s.link.cleared, execClearNotices_of_accepts carried, rfl, fun i => ⟨?_, ?_⟩⟩
    · exact s.link.cleared_get i
    · exact s.link.clear_notices_get i

end Sys2Proof.Machine
end

section
/-! PROOFS. What a chip-select period shifts out, the checks the link makes of a request frame, and what a FETCH carries
(O53). -/

namespace Sys2Proof.Machine

/-! ### What is shifted out (R183, R191) -/

section

variable {l : Link} {len : Nat}

/-- R183: with nothing behind the status, the status byte and zeros; R191: BUSY alone while the RESET pin is held. -/
theorem Link.shiftOut_nil (l : Link) (len : Nat) : l.shiftOut len [] = { l with
    shifted := if l.resetPin then List.replicate len 1
      else (u8 l.status.code ++ List.replicate (len - 1) 0).take len } := by
  have zeros : (u8 l.status.code ++ List.replicate len 0).take len =
      (u8 l.status.code ++ List.replicate (len - 1) 0).take len := by
    cases len <;> simp [u8, List.take_replicate]
  rw [← zeros]
  rfl

theorem Link.shiftOut_released (released : l.resetPin = false) (len : Nat) (body : List Byte) : l.shiftOut len body =
    { l with shifted := ((u8 l.status.code ++ body).take 64 ++ List.replicate len 0).take len } := by
  simp [Link.shiftOut, released, periodLimit]

/-- R186: when a FETCH carries the whole response. -/
theorem Link.fetches_iff : l.fetches len = true ↔
    l.resetPin = false ∧ l.status = .response ∧ l.respBuf.length + 1 ≤ min len 64 := by
  simp [Link.fetches, periodLimit, and_assoc]

/-- R186: out of RESPONSE, or with the RESET pin held, a FETCH is a POLL. -/
theorem Link.fetch_of_no_response (idle : l.resetPin = true ∨ l.status ≠ .response) :
    l.fetch len = l.shiftOut len [] := by
  have short : l.fetches len = false := eq_false_of_ne_true fun carried => by
    obtain ⟨released, response, -⟩ := Link.fetches_iff.mp carried
    exact idle.elim (Bool.eq_false_iff.mp released) (· response)
  have same : l.shiftOut len (if l.status = .response then l.respBuf else []) = l.shiftOut len [] := by
    rcases idle with held | other
    · simp [Link.shiftOut, held]
    · rw [if_neg other]
  simp [Link.fetch, short, same]

variable (released : l.resetPin = false) (response : l.status = .response)
include released response

/-- R186: a FETCH long enough for the whole response carries it and frees the link. -/
theorem Link.fetch_of_whole (whole : l.respBuf.length + 1 ≤ min len 64) : l.fetch len = { l with
    status := .ready, respBuf := []
    shifted := 2 :: l.respBuf ++ List.replicate (len - l.respBuf.length - 1) 0 } := by
  have fetches : l.fetches len = true := Link.fetches_iff.mpr ⟨released, response, whole⟩
  have bytes : ((2 :: l.respBuf).take 64 ++ List.replicate len 0).take len =
      2 :: l.respBuf ++ List.replicate (len - l.respBuf.length - 1) 0 := by
    have fits : (2 :: l.respBuf).length ≤ min len 64 := whole
    rw [List.take_of_length_le (fits.trans (min_le_right _ _)), List.take_append,
      List.take_of_length_le (fits.trans (min_le_left _ _)), List.take_replicate, List.length_cons]
    congr 2
    omega
  simp only [Link.fetch, fetches, if_true, Link.shiftOut_released released, ← bytes, response]
  rfl

/-- R183, R186: a FETCH cut short carries what its first 64 bytes hold of the response, which stands. -/
theorem Link.fetch_of_cut (cut : min len 64 < l.respBuf.length + 1) : l.fetch len = { l with
    shifted := (2 :: l.respBuf).take (min len 64) ++ List.replicate (len - 64) 0 } := by
  have fetches : l.fetches len = false :=
    eq_false_of_ne_true fun carried => cut.not_ge (Link.fetches_iff.mp carried).2.2
  have bytes : ((2 :: l.respBuf).take 64 ++ List.replicate len 0).take len =
      (2 :: l.respBuf).take (min len 64) ++ List.replicate (len - 64) 0 := by
    rw [List.take_append, List.take_take, List.take_replicate]
    congr 2
    simp only [List.length_take, List.length_cons]
    omega
  simp only [Link.fetch, fetches, Bool.false_eq_true, if_false, Link.shiftOut_released released, ← bytes, response]
  rfl

end

end Sys2Proof.Machine
end

section
/-! PROOFS. The checks the link makes of a request frame, and the three chip-select periods (O53). -/

namespace Sys2Proof.Machine

/-! ### The two sums of a frame (R152) -/

theorem reduce255_le {n : Nat} (h : n ≤ 510) : reduce255 n ≤ 255 := by
  unfold reduce255
  split <;> omega

theorem addToSums_le {ab : Nat × Nat} (a : ab.1 ≤ 255) (b : ab.2 ≤ 255) (x : Byte) :
    (addToSums ab x).1 ≤ 255 ∧ (addToSums ab x).2 ≤ 255 := by
  have sumA : reduce255 (ab.1 + x.toNat) ≤ 255 := reduce255_le (by omega)
  exact ⟨sumA, reduce255_le (by omega)⟩

theorem foldl_addToSums_le (bytes : List Byte) {ab : Nat × Nat} (a : ab.1 ≤ 255) (b : ab.2 ≤ 255) :
    (bytes.foldl addToSums ab).1 ≤ 255 ∧ (bytes.foldl addToSums ab).2 ≤ 255 := by
  induction bytes generalizing ab with
  | nil => exact ⟨a, b⟩
  | cons x rest ih =>
    obtain ⟨a', b'⟩ := addToSums_le a b x
    exact ih a' b'

/-- R152: both sums stay within a byte. -/
theorem checkSums_le (bytes : List Byte) : (checkSums bytes).1 ≤ 255 ∧ (checkSums bytes).2 ≤ 255 :=
  foldl_addToSums_le bytes (Nat.zero_le _) (Nat.zero_le _)

theorem byte_toNat_ofNat {n : Nat} (h : n ≤ 255) : (BitVec.ofNat 8 n).toNat = n := by
  rw [BitVec.toNat_ofNat, Nat.mod_eq_of_lt (by omega)]

theorem ofNat_eq_byte_iff {n : Nat} (h : n ≤ 255) (b : Byte) : BitVec.ofNat 8 n = b ↔ n = b.toNat := by
  rw [← BitVec.toNat_inj, byte_toNat_ofNat h]

/-- R152: the first n + 2 bytes of a frame carry their own checks exactly when bytes n and n + 1 are the two sums. -/
theorem withSums_take_eq_iff {frame : List Byte} {n : Nat} (room : n + 1 < frame.length) :
    withSums (frame.take n) = frame.take (n + 2) ↔
      checkSums (frame.take n) = ((frame.getD n 0).toNat, (frame.getD (n + 1) 0).toNat) := by
  have last : frame.take (n + 2) = frame.take n ++ [frame.getD n 0, frame.getD (n + 1) 0] := by
    rw [List.take_add_one, List.take_add_one, List.append_assoc]
    simp [List.getElem?_eq_getElem room, List.getElem?_eq_getElem (show n < frame.length by omega)]
  obtain ⟨a, b⟩ := checkSums_le (frame.take n)
  simp [last, withSums, ofNat_eq_byte_iff a, ofNat_eq_byte_iff b, Prod.ext_iff]

/-! ### The link's checks (R184) -/

/-- R184, by request code from 1: the counts of argument bytes; that of SEND FRAME, at place 54, is not used. -/
def argCounts : List Nat :=
  [24, 25, 2, 1, 0, 6, 1, 1, 0, 0, 0, 0, 0, 2, 0, 0, 0, 2, 5, 0, 6, 0, 46, 1, 1, 0, 0, 0, 0, 1, 2, 1, 2, 1, 0, 4, 9, 19,
   1, 1, 1, 1, 0, 0, 0, 0, 1, 0, 1, 2, 1, 1, 1, 8, 0, 0, 0, 0, 30, 0, 1, 0, 0]

theorem argCount_eq : ∀ code < 64, 1 ≤ code →
    argCount code = if code = 55 then none else some (argCounts.getD (code - 1) 0) := by
  decide

section

variable {frame : List Byte} {l code : Nat} (first : (frame.getD 0 0).toNat = l)
  (second : (frame.getD 1 0).toNat = code)
include first second

theorem requestPasses_iff : requestPasses frame = true ↔
    3 ≤ l ∧ l ≤ 62 ∧ withSums (frame.take (l - 1)) = frame.take (l + 1) ∧
      1 ≤ code ∧ code ≤ 63 ∧ ∀ n, argCount code = some n → l - 3 = n := by
  simp only [requestPasses, first, second]
  cases argCount code <;> simp [and_assoc]

/-- R184: the checks of a frame that came whole, with the sums and the counts of arguments written out. -/
theorem requestPasses_iff_sums (whole : l < frame.length) : requestPasses frame = true ↔
    3 ≤ l ∧ l ≤ 62 ∧ checkSums (frame.take (l - 1)) = ((frame.getD (l - 1) 0).toNat, (frame.getD l 0).toNat) ∧
      1 ≤ code ∧ code ≤ 63 ∧ (code = 55 ∨ l - 3 = argCounts.getD (code - 1) 0) := by
  rw [requestPasses_iff first second]
  refine and_congr_right fun long => and_congr_right fun _ => and_congr ?sums
    (and_congr_right fun low => and_congr_right fun high => ?count)
  case sums =>
    have before : l - 1 + 1 = l := by omega
    have sums := withSums_take_eq_iff (frame := frame) (n := l - 1) (by omega)
    rwa [show l - 1 + 2 = l + 1 by omega, before] at sums
  case count =>
    rw [argCount_eq code (by omega) low]
    by_cases sendFrame : code = 55 <;> simp [sendFrame]

end

/-- R184: a frame is whole when it reaches its second check. -/
theorem requestComplete_iff (frame : List Byte) :
    requestComplete frame = true ↔ (frame.getD 0 0).toNat < frame.length := by
  simp only [requestComplete, Bool.and_eq_true, bne_iff_ne, decide_eq_true_eq]
  exact ⟨fun ⟨_, whole⟩ => whole, fun whole => ⟨List.ne_nil_of_length_pos (by omega), whole⟩⟩

/-! ### The three periods -/

theorem execRequestFrame_of_taken {bytes : List Byte} {s : State} (ready : s.link.status = .ready)
    (released : s.link.resetPin = false) (whole : requestComplete ((bytes.take 64).drop 1) = true) :
    execRequestFrame bytes s =
      .next (takeRequest ((bytes.take 64).drop 1) (s.onLink (Link.shiftOut bytes.length []))) :=
  congrArg Host.Outcome.next (if_pos ⟨released, ready, whole⟩)

theorem execRequestFrame_of_ignored {bytes : List Byte} {s : State} (ignored : s.link.status ≠ .ready ∨
    s.link.resetPin = true ∨ requestComplete ((bytes.take 64).drop 1) = false) :
    execRequestFrame bytes s = .next (s.onLink (Link.shiftOut bytes.length [])) :=
  congrArg Host.Outcome.next (if_neg fun ⟨released, ready, whole⟩ => ignored.elim (· ready)
    fun out => out.elim (Bool.eq_false_iff.mp released) fun short => Bool.eq_false_iff.mp short whole)

/-- Settles O53: what each period shifts out, and what it does with the frame it carries. -/
theorem periodsCarryFrames : Obligations.PeriodsCarryFrames := by
  unfold Obligations.PeriodsCarryFrames
  intro s shows plain
  have poll (len : Nat) : s.onLink (Link.shiftOut len []) = plain len :=
    congrArg (fun l => { s with link := l }) (s.link.shiftOut_nil len)
  refine ⟨rfl, rfl, rfl, fun _ len => congrArg Host.Outcome.next (poll len), ?request, ?fetch⟩
  case request =>
    intro bytes frame l code add sums counts good out period
    have checks (whole : l < frame.length) : requestPasses frame = true ↔ good := requestPasses_iff_sums rfl rfl whole
    have takes (ready : s.link.status = .ready) (released : s.link.resetPin = false) (whole : l < frame.length) :
        period (takeRequest frame out) :=
      (execRequestFrame_of_taken ready released ((requestComplete_iff frame).mpr whole)).trans (by rw [poll])
    refine ⟨fun ignored => ?_, fun ready released whole => ⟨fun passes => ?_, fun fails => ?_⟩⟩
    · refine (execRequestFrame_of_ignored (ignored.imp_right (Or.imp_right fun short => ?_))).trans (by rw [poll])
      exact eq_false_of_ne_true fun whole => absurd ((requestComplete_iff frame).mp whole) (by omega)
    · exact (takes ready released whole).trans (by rw [takeRequest, if_pos ((checks whole).mpr passes)]; rfl)
    · exact (takes ready released whole).trans (by rw [takeRequest, if_neg (mt (checks whole).mp fails)]; rfl)
  case fetch =>
    intro len period
    have fetches {l : Link} (carried : s.link.fetch len = l) : period { s with link := l } := carried ▸ rfl
    exact ⟨fun idle => fetches ((Link.fetch_of_no_response idle).trans (s.link.shiftOut_nil len)),
      fun released response => ⟨fun whole => fetches (Link.fetch_of_whole released response whole),
        fun cut => fetches (Link.fetch_of_cut released response cut)⟩⟩

end Sys2Proof.Machine
end

section
/-! PROOFS. The fields of a request frame, each read back from the bytes that carry it (R184 and the record layouts; for
O5). -/

namespace Sys2Proof.Machine

/-! ### Fields read back -/

section

variable {args : List Nat} {i : Nat}

theorem argWord_of_bytes {n : Nat} (high : argByte args i = n / 256) (low : argByte args (i + 1) = n % 256) :
    argWord args i = n := by
  rw [argWord, high, low, Nat.div_add_mod']

theorem argSigned_of_bytes {k : Int} (fits : fitsSignedWord k = true)
    (high : argByte args i = (k + 32768).toNat / 256) (low : argByte args (i + 1) = (k + 32768).toNat % 256) :
    argSigned args i = k := by
  simp only [fitsSignedWord, Bool.and_eq_true, decide_eq_true_eq] at fits
  rw [argSigned, argWord_of_bytes high low]
  omega

theorem argMember_of_byte {b : Bool} (byte : argByte args i = memberByte b) : argMember args i = b := by
  rw [argMember, byte]
  cases b <;> rfl

theorem argOption_of_bytes {m : Nat} {v : Option Nat} (member : argByte args i = (optionBytes v).1)
    (value : argByte args m = (optionBytes v).2) : argOption args i m = v := by
  rw [argOption, argMember, member, value]
  cases v <;> rfl

theorem argMask_of_bytes {m : Nat} {v : Option Nat} (member : argByte args i = (optionBytes v).1)
    (high : argByte args m = (optionBytes v).2 / 256) (low : argByte args (m + 1) = (optionBytes v).2 % 256) :
    argMask args i m = v := by
  rw [argMask, argMember, member, argWord_of_bytes high low]
  cases v <;> rfl

theorem argLong_of_bytes {n : Nat} (b0 : argByte args i = n / 16777216) (b1 : argByte args (i + 1) = n / 65536 % 256)
    (b2 : argByte args (i + 2) = n / 256 % 256) (b3 : argByte args (i + 3) = n % 256) : argLong args i = n := by
  simp only [argLong, argWord, b0, b1, b2, b3, Nat.add_assoc]
  omega

end

/-! ### Records read back -/

theorem argFieldSet_fieldSetBytes (f : FieldSet) (rest : List Nat) : argFieldSet (fieldSetBytes f ++ rest) 0 = f := by
  rw [argFieldSet, argMember_of_byte rfl, argMember_of_byte rfl, argMember_of_byte rfl, argMember_of_byte rfl,
    argMember_of_byte rfl, argMember_of_byte rfl, argMember_of_byte rfl, argMember_of_byte rfl, argMember_of_byte rfl]

theorem argSlotValues_slotValueBytes (v : SlotValues) : argSlotValues (slotValueBytes v) 0 = v := by
  rw [argSlotValues, argWord_of_bytes rfl rfl, argWord_of_bytes rfl rfl, argWord_of_bytes rfl rfl,
    argWord_of_bytes rfl rfl]
  rfl

theorem argCueImage_cueImageBytes (v : CueImage) : argCueImage (cueImageBytes v) = v := by
  rw [argCueImage, argWord_of_bytes rfl rfl, argWord_of_bytes rfl rfl, argWord_of_bytes rfl rfl]
  rfl

theorem vector8_toList (v : Vector Int 8) : v.toList = [v[0], v[1], v[2], v[3], v[4], v[5], v[6], v[7]] :=
  match v with
  | ⟨⟨[_, _, _, _, _, _, _, _]⟩, _⟩ => rfl

/-- The profile layout: 45 bytes after the profile number, its last byte not read. -/
theorem argProfileValues_profileValueBytes {v : ProfileValues} (fits : v.wellFormed = true) (p : Nat) :
    argProfileValues (p :: profileValueBytes v) 1 = v := by
  obtain ⟨cs, cP, cF, q, tset, k, floor, slew, w, h, x, warmCap, hotCap, coolTime, coolLimit, guardLevel⟩ := v
  simp only [ProfileValues.wellFormed, Bool.and_eq_true, List.all_eq_true] at fits
  obtain ⟨⟨⟨⟨⟨⟨⟨⟨⟨⟨⟨⟨⟨⟨⟨csFit, cPFits⟩, cFFits⟩, -⟩, tsetFits⟩, -⟩, -⟩, -⟩, wFits⟩, hFits⟩, xFits⟩, -⟩, -⟩, -⟩,
    coolLimitFits⟩, -⟩ := fits
  have fit (j : Nat) (low : j < 8) : fitsSignedWord cs[j] = true := csFit _ (by simp)
  unfold profileValueBytes
  simp only [argProfileValues, ProfileValues.mk.injEq, vector8_toList, signedBytes, wordBytes, List.flatMap_cons,
    List.flatMap_nil, List.cons_append, List.nil_append]
  refine ⟨Vector.ext fun j low => ?_, argSigned_of_bytes cPFits rfl rfl, argSigned_of_bytes cFFits rfl rfl, rfl,
    argSigned_of_bytes tsetFits rfl rfl, rfl, argWord_of_bytes rfl rfl, argWord_of_bytes rfl rfl,
    argSigned_of_bytes wFits rfl rfl, argSigned_of_bytes hFits rfl rfl, argSigned_of_bytes xFits rfl rfl,
    argWord_of_bytes rfl rfl, argWord_of_bytes rfl rfl, argWord_of_bytes rfl rfl,
    argSigned_of_bytes coolLimitFits rfl rfl, argWord_of_bytes rfl rfl⟩
  rw [Vector.getElem_ofFn]
  interval_cases j <;> exact argSigned_of_bytes (fit _ low) rfl rfl

theorem argGroups_groupBytes {gs : List Nat} (fits : busGroups.filter (fun g => gs.contains g) = gs) (a : Nat) :
    argGroups (a :: busGroups.map fun g => memberByte (gs.contains g)) = gs := by
  refine Eq.trans (List.filter_congr fun g among => ?_) fits
  simp only [busGroups, List.mem_cons, List.not_mem_nil, or_false] at among
  rcases among with rfl | rfl | rfl | rfl | rfl | rfl | rfl <;> exact argMember_of_byte rfl

theorem argSendFrame_args (d k : Nat) (args : List Nat) (r : Nat) :
    argSendFrame (d :: k :: (args ++ [r])) = .sendFrame d k args r := by
  cases args with
  | nil => rfl
  | cons a rest =>
    show Instr.sendFrame d k (a :: rest ++ [r]).dropLast ((a :: rest ++ [r]).getLastD 0) = _
    rw [List.dropLast_concat, List.getLastD_concat]

/-! ### The request read back -/

/-- R184: the arguments of a well-formed request, read by its code, are that request. -/
theorem decodeArgs_requestArgs {c : Instr} (request : requestCode c ≠ 0) (fits : c.wellFormed = true) :
    decodeArgs (requestCode c) (requestArgs c) = some c := by
  cases c with
  | retireSlot | readSlot | readShow | goto | home | hold | resume | flush | readDrive | focus | lampOn | lampOff
  | lampReset | readLamp | readCalibration | readProfile | selectProfile | readThermal | tapePlay | tapePause
  | tapeStop | tapeWind | setGain | setDuckDepth | setMute | readTape | armCue | pauseCue | retireCue | readCue
  | learnOn | learnOff | readLearn | readCueUnit | openPairing | closePairing | readHandset | setRights
  | blockHandset | unblockHandset | retireHandset | portAbort | portRestart | readPort | setNoticeMask | readNotices
  | readNotice | clearNotices | reset => rfl
  | writeSlot n f v =>
    exact congrArg₂ (fun f v => some (Instr.writeSlot n f v)) (argFieldSet_fieldSetBytes f (slotValueBytes v))
      (argSlotValues_slotValueBytes v)
  | loadSlots a b f v =>
    exact congrArg₂ (fun f v => some (Instr.loadSlots a b f v)) (argFieldSet_fieldSetBytes f (slotValueBytes v))
      (argSlotValues_slotValueBytes v)
  | setOptions a b c =>
    simp only [requestCode, decodeArgs]
    rw [argOption_of_bytes rfl rfl, argOption_of_bytes rfl rfl, argOption_of_bytes rfl rfl]
  | step k =>
    simp only [Instr.wellFormed, fitsSignedByte, Bool.and_eq_true, decide_eq_true_eq] at fits
    have offset : (((k + 128).toNat : Nat) : Int) - 128 = k := by omega
    exact congrArg (fun k => some (Instr.step k)) offset
  | setLight v =>
    have word : argWord (requestArgs (.setLight v)) 0 = v.getD 65535 := argWord_of_bytes rfl rfl
    simp only [requestCode, decodeArgs, word]
    cases v with
    | none => rfl
    | some n =>
      simp only [Instr.wellFormed, decide_eq_true_eq] at fits
      rw [Option.getD_some, if_neg (by omega)]
  | writeExposure cls limit =>
    simp only [requestCode, decodeArgs]
    rw [argLong_of_bytes rfl rfl rfl rfl]
    rfl
  | writeCalibration offset gain zero =>
    simp only [Instr.wellFormed, Bool.and_eq_true] at fits
    obtain ⟨⟨offsetFits, -⟩, zeroFits⟩ := fits
    simp only [requestCode, decodeArgs]
    rw [argSigned_of_bytes offsetFits rfl rfl, argWord_of_bytes rfl rfl, argSigned_of_bytes zeroFits rfl rfl]
  | writeProfile p v =>
    simp only [Instr.wellFormed, Bool.and_eq_true] at fits
    exact congrArg (fun v => some (Instr.writeProfile p v)) (argProfileValues_profileValueBytes fits.2 p)
  | setTapePosition v => exact congrArg (fun v => some (Instr.setTapePosition v)) (argWord_of_bytes rfl rfl)
  | setCueOptions a b =>
    simp only [requestCode, decodeArgs]
    rw [argOption_of_bytes rfl rfl, argOption_of_bytes rfl rfl]
  | setMasks a b c =>
    simp only [requestCode, decodeArgs]
    rw [argMask_of_bytes rfl rfl rfl, argMask_of_bytes rfl rfl rfl, argMask_of_bytes rfl rfl rfl]
  | writeCue v => exact congrArg (fun v => some (Instr.writeCue v)) (argCueImage_cueImageBytes v)
  | setAddress a gs =>
    simp only [Instr.wellFormed, Bool.and_eq_true, beq_iff_eq] at fits
    exact congrArg (fun gs => some (Instr.setAddress a gs)) (argGroups_groupBytes fits.2 a)
  | sendFrame d k args r => exact congrArg some (argSendFrame_args d k args r)
  | _ => exact absurd rfl request

end Sys2Proof.Machine
end

section
/-! PROOFS. Every well-formed request fits its frame, passes the link's checks and is decoded as itself (O5). -/

namespace Sys2Proof.Machine

/-! ### Every argument fits its byte -/

theorem wordBytes_fit (n : Nat) : (wordBytes n).all fitsByte = fitsWord n := by
  rw [Bool.eq_iff_iff]
  simp only [wordBytes, List.all_cons, List.all_nil, Bool.and_true, fitsByte, fitsWord, Bool.and_eq_true,
    decide_eq_true_eq]
  omega

theorem signedBytes_fit {k : Int} (fits : fitsSignedWord k = true) : (signedBytes k).all fitsByte = true := by
  simp only [fitsSignedWord, Bool.and_eq_true, decide_eq_true_eq] at fits
  simp only [signedBytes, wordBytes_fit, fitsWord, decide_eq_true_eq]
  omega

theorem memberByte_fit (b : Bool) : fitsByte (memberByte b) = true := by cases b <;> rfl

theorem optionBytes_member_fit (v : Option Nat) : fitsByte (optionBytes v).1 = true := by cases v <;> rfl

theorem optionBytes_value_fit {v : Option Nat} (fits : fitsOption v = true) : fitsByte (optionBytes v).2 = true := by
  cases v with
  | none => rfl
  | some n => exact fits

theorem optionBytes_mask_fit {v : Option Nat} (fits : fitsMask v = true) : fitsWord (optionBytes v).2 = true := by
  cases v with
  | none => rfl
  | some n => exact fits

theorem fieldSetBytes_fit (f : FieldSet) : (fieldSetBytes f).all fitsByte = true := by
  simp [fieldSetBytes, memberByte_fit]

theorem slotValueBytes_fit {v : SlotValues} (fits : v.wellFormed = true) : (slotValueBytes v).all fitsByte = true := by
  simp only [SlotValues.wellFormed, Bool.and_eq_true] at fits
  simp [slotValueBytes, wordBytes_fit, fits]

theorem profileValueBytes_fit {v : ProfileValues} (fits : v.wellFormed = true) :
    (profileValueBytes v).all fitsByte = true := by
  simp only [ProfileValues.wellFormed, Bool.and_eq_true] at fits
  have coefficients : (v.c.toList.flatMap signedBytes).all fitsByte = true := by
    simp only [List.all_flatMap, List.all_eq_true] at fits ⊢
    exact fun k among => List.all_eq_true.mp (signedBytes_fit (by simp_all))
  have zero : fitsByte 0 = true := rfl
  unfold profileValueBytes
  simp [-List.all_flatMap, coefficients, signedBytes_fit, wordBytes_fit, fits, zero]

theorem cueImageBytes_fit {v : CueImage} (fits : v.wellFormed = true) : (cueImageBytes v).all fitsByte = true := by
  simp only [CueImage.wellFormed, Bool.and_eq_true] at fits
  simp [cueImageBytes, wordBytes_fit, fits]

/-- R184: every argument of a well-formed request fits the byte that carries it. -/
theorem requestArgs_fit {c : Instr} (request : requestCode c ≠ 0) (fits : c.wellFormed = true) :
    (requestArgs c).all fitsByte = true := by
  cases c with
  | readShow | home | hold | resume | flush | readDrive | lampOn | lampOff | lampReset | readLamp | readCalibration
  | readThermal | tapePlay | tapePause | tapeStop | readTape | learnOn | learnOff | readLearn | readCueUnit
  | closePairing | portAbort | portRestart | readPort | readNotices | clearNotices | reset => rfl
  | readSlot | goto | readProfile | selectProfile | tapeWind | setGain | setMute | armCue | pauseCue | retireCue
  | readCue | openPairing | readHandset | blockHandset | unblockHandset | retireHandset | readNotice =>
    exact (Bool.and_true _).trans fits
  | retireSlot | focus | setDuckDepth | setRights => simpa [requestArgs, Instr.wellFormed] using fits
  | writeSlot | loadSlots =>
    simp only [Instr.wellFormed, Bool.and_eq_true] at fits
    simp [requestArgs, fieldSetBytes_fit, slotValueBytes_fit, fits]
  | setOptions | setCueOptions =>
    simp only [Instr.wellFormed, Bool.and_eq_true] at fits
    simp [requestArgs, optionBytes_member_fit, optionBytes_value_fit, fits]
  | step k =>
    simp only [Instr.wellFormed, fitsSignedByte, Bool.and_eq_true, decide_eq_true_eq] at fits
    simp only [requestArgs, List.all_cons, List.all_nil, Bool.and_true, fitsByte, decide_eq_true_eq]
    omega
  | setLight v =>
    rw [requestArgs, wordBytes_fit]
    cases v with
    | none => rfl
    | some n =>
      simp only [Instr.wellFormed, decide_eq_true_eq] at fits
      simp only [Option.getD_some, fitsWord, decide_eq_true_eq]
      omega
  | writeExposure =>
    simp only [Instr.wellFormed, fitsByte, Bool.and_eq_true, decide_eq_true_eq] at fits
    simp only [requestArgs, List.all_cons, List.all_nil, fitsByte, Bool.and_true, Bool.and_eq_true, decide_eq_true_eq]
    omega
  | writeCalibration =>
    simp only [Instr.wellFormed, Bool.and_eq_true] at fits
    simp [requestArgs, signedBytes_fit, wordBytes_fit, fits]
  | writeProfile =>
    simp only [Instr.wellFormed, Bool.and_eq_true] at fits
    simp [requestArgs, profileValueBytes_fit, fits]
  | setTapePosition v => exact (wordBytes_fit v).trans fits
  | setMasks =>
    simp only [Instr.wellFormed, Bool.and_eq_true] at fits
    simp [requestArgs, optionBytes_member_fit, optionBytes_mask_fit, wordBytes_fit, fits]
  | writeCue v => exact cueImageBytes_fit fits
  | setAddress =>
    simp only [Instr.wellFormed, Bool.and_eq_true] at fits
    simp [requestArgs, memberByte_fit, fits.1]
  | sendFrame =>
    simp only [Instr.wellFormed, Bool.and_eq_true] at fits
    simp [-List.all_eq_true, requestArgs, fits]
  | setNoticeMask m => exact (Bool.and_eq_true_iff.mp fits).2
  | _ => exact absurd rfl request

/-! ### The count of arguments -/

theorem profileValueBytes_length (v : ProfileValues) : (profileValueBytes v).length = 45 := by
  unfold profileValueBytes
  simp [vector8_toList, signedBytes, wordBytes]

/-- R184: a request carries the count of arguments its code calls for; SEND FRAME at most 59. -/
theorem requestArgs_length {c : Instr} (request : requestCode c ≠ 0) (fits : c.wellFormed = true) :
    argCount (requestCode c) = some (requestArgs c).length ∨
      argCount (requestCode c) = none ∧ (requestArgs c).length ≤ 59 := by
  cases c with
  | writeProfile p v => exact .inl (congrArg some (congrArg (· + 1) (profileValueBytes_length v)).symm)
  | sendFrame =>
    simp only [Instr.wellFormed, Bool.and_eq_true, decide_eq_true_eq] at fits
    refine .inr ⟨rfl, ?_⟩
    simp only [requestArgs, List.length_cons, List.length_append, List.length_nil]
    omega
  | setNoticeMask m => exact .inl (congrArg some (beq_iff_eq.mp (Bool.and_eq_true_iff.mp fits).1).symm)
  | writeSlot | loadSlots | retireSlot | readSlot | readShow | setOptions | step | goto | home | hold | resume
  | flush | readDrive | focus | lampOn | lampOff | lampReset | setLight | writeExposure | readLamp | writeCalibration
  | readCalibration | readProfile | selectProfile | readThermal | tapePlay | tapePause | tapeStop | tapeWind
  | setTapePosition | setGain | setDuckDepth | setMute | readTape | setCueOptions | setMasks | writeCue | armCue
  | pauseCue | retireCue | readCue | learnOn | learnOff | readLearn | readCueUnit | openPairing | closePairing
  | readHandset | setRights | blockHandset | unblockHandset | retireHandset | setAddress | portAbort | portRestart
  | readPort | readNotices | readNotice | clearNotices | reset => exact .inl rfl
  | _ => exact absurd rfl request

theorem requestCode_le (c : Instr) : requestCode c ≤ 63 := by
  cases c <;> exact Nat.le_of_ble_eq_true rfl

theorem argCount_le {code n : Nat} (count : argCount code = some n) : n ≤ 46 := by
  unfold argCount at count
  split at count <;> cases count <;> decide

theorem requestArgs_length_le {c : Instr} (request : requestCode c ≠ 0) (fits : c.wellFormed = true) :
    (requestArgs c).length ≤ 59 := by
  rcases requestArgs_length request fits with count | ⟨-, short⟩
  · have := argCount_le count
    omega
  · exact short

/-! ### The frame of a request -/

theorem encodeRequest_length (c : Instr) : (encodeRequest c).length = (requestArgs c).length + 4 := by
  simp [encodeRequest]

theorem take_encodeRequest (c : Instr) : (encodeRequest c).take ((requestArgs c).length + 3 + 1) = encodeRequest c :=
  List.take_of_length_le (encodeRequest_length c).le

/-- R184: the length byte, the code and the arguments stand in front of a frame's checks. -/
theorem encodeRequest_eq (c : Instr) : ∃ checks : List Byte, encodeRequest c =
    BitVec.ofNat 8 ((requestArgs c).length + 3) :: BitVec.ofNat 8 (requestCode c) ::
      ((requestArgs c).map (BitVec.ofNat 8) ++ checks) :=
  ⟨_, rfl⟩

theorem map_toNat_map_ofNat {args : List Nat} (fits : args.all fitsByte = true) :
    (args.map (BitVec.ofNat 8)).map BitVec.toNat = args := by
  rw [List.map_map]
  refine (List.map_congr_left fun n among => ?_).trans (List.map_id args)
  have byte : n ≤ 255 := of_decide_eq_true (List.all_eq_true.mp fits n among)
  exact byte_toNat_ofNat byte

theorem encodeRequest_codeByte (c : Instr) : ((encodeRequest c).getD 1 0).toNat = requestCode c := by
  obtain ⟨_, bytes⟩ := encodeRequest_eq c
  have low := requestCode_le c
  rw [bytes, List.getD_cons_succ, List.getD_cons_zero, byte_toNat_ofNat (by omega)]

section

variable {c : Instr} (request : requestCode c ≠ 0) (fits : c.wellFormed = true)
include request fits

theorem encodeRequest_lengthByte : ((encodeRequest c).getD 0 0).toNat = (requestArgs c).length + 3 := by
  obtain ⟨_, bytes⟩ := encodeRequest_eq c
  have short := requestArgs_length_le request fits
  rw [bytes, List.getD_cons_zero, byte_toNat_ofNat (by omega)]

/-- R184: the frame of a well-formed request passes every check of the link. -/
theorem requestPasses_encodeRequest : requestPasses (encodeRequest c) = true := by
  have short := requestArgs_length_le request fits
  refine (requestPasses_iff (encodeRequest_lengthByte request fits) (encodeRequest_codeByte c)).mpr
    ⟨by omega, by omega, ?sums, by omega, requestCode_le c, ?count⟩
  case sums =>
    have body : (requestArgs c).length + 3 - 1 =
        ((((requestArgs c).length + 3) :: requestCode c :: requestArgs c).map (BitVec.ofNat 8)).length := by simp
    rw [take_encodeRequest, body]
    exact congrArg withSums (take_withSums _)
  case count =>
    intro n count
    rcases requestArgs_length request fits with own | ⟨none, -⟩
    · have := Option.some.inj (own.symm.trans count)
      omega
    · exact absurd (none.symm.trans count) nofun

/-- R184: the frame of a well-formed request decodes to that request. -/
theorem decodeRequest_encodeRequest : decodeRequest (encodeRequest c) = some c := by
  obtain ⟨_, bytes⟩ := encodeRequest_eq c
  have short := requestArgs_length_le request fits
  have low := requestCode_le c
  rw [bytes, decodeRequest, byte_toNat_ofNat (by omega), byte_toNat_ofNat (by omega),
    Nat.add_sub_cancel, List.take_left' (List.length_map _), map_toNat_map_ofNat (requestArgs_fit request fits),
    decodeArgs_requestArgs request fits]

/-- R184: the frame of a well-formed request fits a period, is taken in READY, and makes the link BUSY with it. -/
theorem execRequestFrame_encodeRequest {s : State} (ready : s.link.status = .ready)
    (released : s.link.resetPin = false) : execRequestFrame (1 :: encodeRequest c) s =
      .next ((s.onLink (Link.shiftOut (1 :: encodeRequest c).length [])).onLink
        fun l => { l with status := .busy, reqBuf := encodeRequest c }) := by
  have short := requestArgs_length_le request fits
  have lengthByte := encodeRequest_lengthByte request fits
  have frame : ((1 :: encodeRequest c).take 64).drop 1 = encodeRequest c := by
    rw [List.take_of_length_le (by rw [List.length_cons, encodeRequest_length]; omega), List.drop_one, List.tail_cons]
  have whole : requestComplete (encodeRequest c) = true := by
    rw [requestComplete_iff, lengthByte, encodeRequest_length]
    omega
  rw [execRequestFrame_of_taken ready released (frame.symm ▸ whole), frame, takeRequest,
    if_pos (requestPasses_encodeRequest request fits), lengthByte, take_encodeRequest]

end

/-- R184: in BUSY with a request in hand the link carries that request to its owner. -/
theorem Link.accepts_of_busy {l : Link} {c : Instr} (released : l.resetPin = false) (busy : l.status = .busy)
    (hand : decodeRequest l.reqBuf = some c) : l.accepts c = true := by
  simp [Link.accepts, released, busy, hand]

/-- Settles O5: the frame is taken, passes the checks and decodes to its request, which the link then carries. -/
theorem requestFramesRoundTrip : Obligations.RequestFramesRoundTrip := by
  unfold Obligations.RequestFramesRoundTrip
  intro c s request fits released ready
  have decodes := decodeRequest_encodeRequest request fits
  exact ⟨_, execRequestFrame_encodeRequest request fits ready released, rfl, decodes,
    Link.accepts_of_busy released rfl decodes, rfl⟩

end Sys2Proof.Machine
end

section
/-! PROOFS. One step of the machine: the command in front of the queue is run (O1), a millisecond passes with none waiting
(O2), and every command gives a next state with the waiting commands left alone (O3). -/

namespace Sys2Proof.Machine

/-! ### A step by the queue (O1, O2) -/

/-- A step with a command in front of the queue runs it with the queue's rest. -/
theorem step_of_waiting {s : State} {c : Instr} {rest : List Instr} (waiting : s.pending = c :: rest) :
    step s = exec c { s with pending := rest } := by
  rw [step, waiting]

/-- Log 1: a step with no command waiting is a millisecond. -/
theorem step_of_idle {s : State} (idle : s.pending = []) : step s = .next (passMs s) := by
  rw [step, idle]

/-- Settles O1. -/
theorem stepTakesTheFront : Obligations.StepTakesTheFront := by
  unfold Obligations.StepTakesTheFront
  intro c rest s
  exact step_of_waiting rfl

/-- Settles O2: the next state is `passMs s`, and each block of it is that block's own millisecond. -/
theorem anIdleStepIsAMillisecond : Obligations.AnIdleStepIsAMillisecond := by
  unfold Obligations.AnIdleStepIsAMillisecond
  intro s idle
  have time : (passMs s).drive = s.drive.passMs ∧ (passMs s).lamp = s.lamp.passMs ∧
      (passMs s).thermal = s.thermal.passMs ∧ (passMs s).tape = s.tape.passMs ∧ (passMs s).cue = s.cue.passMs ∧
      (passMs s).remote = s.remote.passMs ∧ (passMs s).bus = s.bus.passMs := ⟨rfl, rfl, rfl, rfl, rfl, rfl, rfl⟩
  exact ⟨passMs s, step_of_idle idle, rfl, rfl, idle, time⟩

/-! ### Every command completes (O3) -/

/-- An outcome that is a next state: no fault and no refusal. -/
def Completes (o : Host.Outcome State Fault Refusal) : Prop := ∃ t : State, o = .next t

theorem Completes.next (t : State) : Completes (.next t) := ⟨t, rfl⟩

/-- A choice between two outcomes completes when both do. -/
theorem Completes.ite {p : Prop} [Decidable p] {o o' : Host.Outcome State Fault Refusal} (yes : Completes o)
    (no : Completes o') : Completes (if p then o else o') := by
  split
  · exact yes
  · exact no

/-- An effect under a condition completes: with the condition false the state stands. -/
theorem Completes.guarded {p : Prop} [Decidable p] (t s : State) : Completes (if p then .next t else .next s) :=
  .ite (.next t) (.next s)

/-- R183: a host request completes, whether the link carries it or not. -/
theorem hostRequest_completes (c : Instr) (owner : State → Reply) (s : State) : Completes (hostRequest c owner s) :=
  .guarded _ s

/-- The events of the mechanisms, the tape, the cue track, the handsets and the bus complete: each is an effect, an effect
under a condition, or a choice by the state of its block with a next state on every path. -/
theorem exec_event_completes {c : Instr} (event : requestCode c = 0) (s : State) : Completes (exec c s) := by
  cases c with
  | pollPeriod | requestFrame | fetch | resetPinAssert | powerOnReset | liftDone | dropDone | fadeTick | focusPauseEnd
  | focusEndSwitch | lampPeriodEnd | thermistorSample | tachPulse | soundTick | confirmTimeout | pulseCue | irFrame
  | pairingWindowExpiry | quietTimeStep | busDestinationDecided | busGapTimeout | busTailQuiet | busCollision
  | statusAnswerDone | statusAnswerTimeout | originationDone | cueDataFallingEdge | startBitRecheck | toneBurstStart
  | shortToneBurstEnd | irCarrierPresent | irLeaderEnd | irLeaderTooLong | irByteComplete | busByteReceived
  | busForwardEnd => exact .next _
  | trayRemoval | trayInsertion | encoderCount | backOffComplete | noIndexBudgetExhausted | stallWatchdogExpiry | brakeEnd
  | lifterTimeout | settleEnd | fadeOutEnd | fadeInEnd | dwellTenth | dwellExpiry | strikeAttemptTimer | warmUpEnd
  | currentLoss | cooldownTimerExpiry | cassetteRemoval | cassetteInsertion | capstanPulse | reelPulse | tapeEndTimeout
  | reelTimeout => exact .guarded _ _
  | indexPass => exact .ite (.next _) (.ite (.next _) (.guarded _ _))
  | lifterSwitchChange => exact .ite (.next _) (.ite (.next _) (.guarded _ _))
  | strikeWindowEnd => exact .ite (.guarded _ _) (.next _)
  | gateStateChange | focusStopTimerExpiry | focusDurationEnd | currentSenseChange | periodComputation | runDownEnd
  | baseRampEnd | duckRampEnd | cueWordComplete | cueBitSample | irFrameError | irGapTimeout | busFrameEnd
  | statusAnswerStart | originationStart | originationWaitTimeout | backoffEnd =>
    simp only [exec, execGateStateChange, execFocusStopTimerExpiry, execFocusDurationEnd, execCurrentSenseChange,
      execPeriodComputation, execRunDownEnd, execBaseRampEnd, execDuckRampEnd, execCueWordComplete, execCueBitSample,
      execIrFrameError, execIrGapTimeout, execBusFrameEnd, execStatusAnswerStart, execOriginationStart,
      execOriginationWaitTimeout, execBackoffEnd]
    (repeat' split) <;> exact .next _
  | _ => cases event

theorem exec_completes (c : Instr) (s : State) : Completes (exec c s) := by
  by_cases event : requestCode c = 0
  · exact exec_event_completes event s
  · obtain ⟨owner, meaning⟩ := exec_is_hostRequest event
    rw [meaning]
    exact hostRequest_completes c owner s

/-- No command touches the queue of waiting commands. -/
theorem queue_notMem_touches (c : Instr) : Block.queue ∉ touches c := by
  cases c <;> simp [touches]

/-- Settles O3: a request is answered or ignored, an event has a next state on every path, and no command touches the
queue. -/
theorem everyCommandCompletes : Obligations.EveryCommandCompletes := by
  unfold Obligations.EveryCommandCompletes
  intro c s
  obtain ⟨t, next⟩ := exec_completes c s
  exact ⟨t, next, exec_leaves .queue next (queue_notMem_touches c)⟩

end Sys2Proof.Machine
end
